-- ==== Sys2Proof/Word.lean ====
section
/-! DEFINITION. Word.lean: the one word the line carries, the byte. -/

namespace Sys2Proof

/-- One byte of the line (R163: eight data bits). -/
abbrev Byte := BitVec 8

end Sys2Proof
end

