-- ==== Sys2Proof/Syntax.lean ====
section
/-! DEFINITION. Syntax.lean: the commands of the CM640, one constructor per row of spec/opcode_table.json.

A frame command carries what the frame's sender chose: class where the row leaves it open, origin, target and body.
The check word of a frame that passes R164 is fixed by those (R165), so it is no operand. FRAME_REJECTED carries the
bytes themselves, each with its stop bit. A request command carries its origin, tag and parameters; its class
(REQUEST), target (240) and request kind are the row's. -/

namespace Sys2Proof

/-- The two byte-serial links (00_scope, "Where the part stands"). -/
inductive Link where
  /-- Toward the winder controller and the signal panels. -/
  | c
  /-- Toward the drive and the field stations. -/
  | d
deriving DecidableEq, Repr

/-- The two drums, and so the two drum channels (00_scope, "Indices"). -/
inductive Drum where
  | skip
  | cage
deriving DecidableEq, Repr

/-- The positions of the KEY input (00_scope). -/
inductive KeyPosition where
  | locked
  | unlocked
deriving DecidableEq, Repr

/-- One byte as a receiver sees it: its value, and whether its stop bit was present (R163). -/
structure LineByte where
  value : Byte
  stopBit : Bool
deriving DecidableEq, Repr

/-- The commands: one constructor per row of the table, in the table's order. -/
inductive Instr where
  /-- NRST: the reset input (R130). -/
  | nrst
  /-- KEY_CHANGE: the KEY input comes to `position` (R28). -/
  | keyChange (position : KeyPosition)
  /-- FRAME_REJECTED: these bytes arrive on `link`, then 16 µs of silence (R163, R164). -/
  | frameRejected (link : Link) (bytes : List LineByte)
  /-- DRUM_SAMPLE from the D-link (R35). -/
  | drumSample (origin target : Byte) (body : List Byte)
  /-- SAMPLE_WATCH_EXPIRY of one channel (R39). -/
  | sampleWatchExpiry (drum : Drum)
  /-- REST_TIMER_EXPIRY of one channel (R44). -/
  | restTimerExpiry (drum : Drum)
  /-- MARKER_EVENT from the D-link (R57). -/
  | markerEvent (origin target : Byte) (body : List Byte)
  /-- ROPE_LOAD from the D-link (R54). -/
  | ropeLoad (origin target : Byte) (body : List Byte)
  /-- INTERLOCK_STATE from the D-link (R133). -/
  | interlockState (origin target : Byte) (body : List Byte)
  /-- DRIVE_ANSWER from the D-link (R139). -/
  | driveAnswer (origin target : Byte) (body : List Byte)
  /-- D_LINK_OTHER_FRAME: a D-link frame of a class no block observes, a REQUEST among them (R167). -/
  | dLinkOtherFrame (cls origin target : Byte) (body : List Byte)
  /-- SPEED_REFERENCE from the C-link (R112). -/
  | speedReference (origin target : Byte) (body : List Byte)
  /-- BRAKE_COMMAND from the C-link (R118). -/
  | brakeCommand (origin target : Byte) (body : List Byte)
  /-- CLUTCH_COMMAND from the C-link (R119). -/
  | clutchCommand (origin target : Byte) (body : List Byte)
  /-- BRAKE_DEMAND from the C-link (R115). -/
  | brakeDemand (origin target : Byte) (body : List Byte)
  /-- DOWNSTREAM_OTHER_FRAME: a C-link frame of another class (R114, R166). -/
  | downstreamOtherFrame (cls origin target : Byte) (body : List Byte)
  /-- D_TRANSMIT_START: the D-link transmitter takes its next frame (R116). -/
  | dTransmitStart
  /-- D_TRANSMIT_END: the D-link frame in transmission completes (R116). -/
  | dTransmitEnd
  /-- C_TRANSMIT_START: the C-link transmitter takes its next frame (R170). -/
  | cTransmitStart
  /-- C_TRANSMIT_END: the C-link frame in transmission completes (R170). -/
  | cTransmitEnd
  /-- UNKNOWN_REQUEST: a request to 240 whose kind is no defined code (R177). -/
  | unknownRequest (origin kind tag : Byte) (params : List Byte)
  /-- ROW_LOAD (R21). -/
  | rowLoad (origin tag : Byte) (params : List Byte)
  /-- ROW_READ (R22). -/
  | rowRead (origin tag : Byte) (params : List Byte)
  /-- COMMIT_PREPARE (R23). -/
  | commitPrepare (origin tag : Byte) (params : List Byte)
  /-- VALIDATION_COMPLETE: the validation operation reaches its end (R27). -/
  | validationComplete
  /-- COMMIT_CONFIRM (R30). -/
  | commitConfirm (origin tag : Byte) (params : List Byte)
  /-- COMMIT_CANCEL (R33). -/
  | commitCancel (origin tag : Byte) (params : List Byte)
  /-- TRIP_REQUEST (R75). -/
  | tripRequest (origin tag : Byte) (params : List Byte)
  /-- TRIP_ABORT (R85). -/
  | tripAbort (origin tag : Byte) (params : List Byte)
  /-- REF_WATCH_EXPIRY: the reference watch expires (R120). -/
  | refWatchExpiry
  /-- STOP_DEADLINE_EXPIRY: the stop deadline expires (R124). -/
  | stopDeadlineExpiry
  /-- ECHO_TIMER_EXPIRY: the echo timer expires (R140). -/
  | echoTimerExpiry
  /-- TRIP_RESET (R141). -/
  | tripReset (origin tag : Byte) (params : List Byte)
  /-- RESTART (R188). -/
  | restart (origin tag : Byte) (params : List Byte)
  /-- ZONE_INQUIRY (R152). -/
  | zoneInquiry (origin tag : Byte) (params : List Byte)
  /-- ZONE_HOLD (R156). -/
  | zoneHold (origin tag : Byte) (params : List Byte)
  /-- ZONE_RELEASE (R158). -/
  | zoneRelease (origin tag : Byte) (params : List Byte)
  /-- STATUS_READ (R182). -/
  | statusRead (origin tag : Byte) (params : List Byte)
  /-- POSITION_READ (R183). -/
  | positionRead (origin tag : Byte) (params : List Byte)
  /-- COUNTER_READ (R187). -/
  | counterRead (origin tag : Byte) (params : List Byte)
  /-- RECEIVER_IDLE: the receiver of `link` has seen 16 µs of silence (R163). -/
  | receiverIdle (link : Link)
deriving DecidableEq, Repr

end Sys2Proof
end

