-- ==== Sys2Proof/Decode.lean ====
section
/-! DEFINITION. Decode.lean: the commands that words of bits spell by spec/opcode_table.json. No row of that table gives
bits (every "fields" is empty and none has "fixed"), so no word spells a command. What the bytes of a LINE FRAME
mean is the receivers' business and stands in Machine/Frames.lean and Machine/Reception.lean. -/

namespace Sys2Proof

/-- The command that the `nbits`-bit word `w` spells by the opcode table: none, because the table gives no row bits. -/
def decodeTableWord (nbits w : Nat) : Option Instr :=
  match nbits, w with
  | _, _ => none

end Sys2Proof
end

