-- ==== Sys2Proof/Config.lean ====
section
/-! DEFINITION. Config.lean: what the manual fixes for every CM640, and the free values for what it leaves open.
A free value has no body, so nothing can be proved of it; each is named in the assumption log. -/

namespace Sys2Proof.Config

/-- The part's own station number (00_scope, "Where the part stands"). -/
def partStation : Byte := 240

/-- The winder controller's station number (00_scope, "Indices"). -/
def controllerStation : Byte := 1

/-- Places of the downstream queue (R110). -/
def downQueuePlaces : Nat := 8

/-- Places of the upstream queue (R162). -/
def upQueuePlaces : Nat := 16

/-- Places of the upstream queue that FIELD frames may fill (R169). -/
def upFieldPlaces : Nat := 12

/-- Entries of the release watch list (R154). -/
def watchListPlaces : Nat := 4

/-- Records of the history (R94). -/
def historyRecords : Nat := 2

/-- Length of the echo timer in ms (R128). -/
def echoTimerMs : Nat := 50

/-- The greatest magnitude of a speed reference as the part passes it on (R112). -/
def maxSpeed : Nat := 20000

/-- Fine units in a millimetre (00_scope, "Fine position"). -/
def fineUnits : Nat := 65536

/-- FREE VALUE (assumption 1, DESIGN CHOICE). R89 leaves open whether the pipeline or the protective trip takes a loss of lock
first; `true` stands for the pipeline. Applied to a counter of State, so that each loss is decided afresh. -/
opaque pipelineTakesLossFirst : Nat → Bool

/-- FREE VALUE (assumption 2, DESIGN CHOICE). The field position a RANGE refusal of TRIP REQUEST names when no single field is out
of its range: the relation that fails and the parameters of the request. -/
opaque tripFieldNamed : Nat → List Byte → Byte

/-- FREE VALUE (assumption 3, DESIGN CHOICE). The field position a RANGE refusal of ROW LOAD names when the row number is at or
beyond the table's capacity: the table and row bytes of the request. -/
opaque rowNumberPosition : Byte → Byte → Byte

/-- FREE VALUE (assumption 4, DESIGN CHOICE). What a reply's 4-byte signed field holds for a value outside the signed 32-bit range. -/
opaque signedBeyondField : Int → BitVec 32

/-- FREE VALUE (assumption 4, DESIGN CHOICE). What a reply's 4-byte unsigned field holds for a value outside the 32-bit range. -/
opaque unsignedBeyondField : Nat → BitVec 32

end Sys2Proof.Config
end

