-- ==== Sys2Proof/Machine/Frames.lean ====
section
/-! DEFINITION. Frames.lean: multi-byte fields, the check word, the frame envelope with its class codes, and the judgement
of a received frame (R163 to R165, R172, R173). -/

namespace Sys2Proof.Machine

/-- The value of a field of bytes, high byte first (R172). -/
def be (bytes : List Byte) : Nat :=
  bytes.foldl (fun a b => a * 256 + b.toNat) 0

/-- `n` bytes holding `v` modulo 256 to the `n`, high byte first (R172). -/
def beBytes : Nat → Nat → List Byte
  | 0, _ => []
  | n + 1, v => beBytes n (v / 256) ++ [BitVec.ofNat 8 v]

/-- The two's complement reading of an `n`-byte value (R172). -/
def signed (n v : Nat) : Int :=
  if 2 * v < 256 ^ n then (v : Int) else (v : Int) - (256 ^ n : Nat)

/-- `n` bytes holding `v` in two's complement, high byte first (R172). -/
def signedBytes (n : Nat) (v : Int) : List Byte :=
  beBytes n (v % (256 ^ n : Nat)).toNat

/-- The bytes of a field of `size` bytes at `offset`. -/
def fieldBytes (bytes : List Byte) (offset size : Nat) : List Byte :=
  (bytes.drop offset).take size

/-- The unsigned field of `size` bytes at `offset`. -/
def field (bytes : List Byte) (offset size : Nat) : Nat :=
  be (fieldBytes bytes offset size)

/-- The signed field of `size` bytes at `offset`. -/
def signedField (bytes : List Byte) (offset size : Nat) : Int :=
  signed size (field bytes offset size)

/-- One bit of the check word's division by x¹⁶ + x¹² + x⁵ + 1, most significant bit first (R165). -/
def crcBit (r : BitVec 16) : BitVec 16 :=
  if r.msb then (r <<< 1) ^^^ 0x1021#16 else r <<< 1

/-- One byte taken into the check word's register (R165). -/
def crcByte (r : BitVec 16) (b : Byte) : BitVec 16 :=
  (crcBit ∘ crcBit ∘ crcBit ∘ crcBit ∘ crcBit ∘ crcBit ∘ crcBit ∘ crcBit) (r ^^^ (b.setWidth 16 <<< 8))

/-- The check word over the header and body of a frame: preset to all ones, not inverted at the end (R165). -/
def checkWord (bytes : List Byte) : BitVec 16 :=
  bytes.foldl crcByte 0xFFFF#16

/-- The frame classes of the envelope's class table; `other` is every code the table does not list (R172). -/
inductive FrameClass where
  | speedReference | brakeCommand | clutchCommand | brakeDemand
  | drumSample | markerEvent | ropeLoad | interlockState | driveAnswer
  | request | reply | notice
  | other
deriving DecidableEq, Repr

/-- The class a class byte names (R172). -/
def classOf (code : Byte) : FrameClass :=
  match code.toNat with
  | 0x10 => .speedReference
  | 0x11 => .brakeCommand
  | 0x12 => .clutchCommand
  | 0x13 => .brakeDemand
  | 0x20 => .drumSample
  | 0x21 => .markerEvent
  | 0x22 => .ropeLoad
  | 0x23 => .interlockState
  | 0x24 => .driveAnswer
  | 0x40 => .request
  | 0x41 => .reply
  | 0x42 => .notice
  | _ => .other

/-- The class byte of a listed class (R172); `other` has no code of its own and stands as 0. -/
def classCode : FrameClass → Byte
  | .speedReference => 0x10
  | .brakeCommand => 0x11
  | .clutchCommand => 0x12
  | .brakeDemand => 0x13
  | .drumSample => 0x20
  | .markerEvent => 0x21
  | .ropeLoad => 0x22
  | .interlockState => 0x23
  | .driveAnswer => 0x24
  | .request => 0x40
  | .reply => 0x41
  | .notice => 0x42
  | .other => 0

/-- A frame kept whole: class, origin, target, body and check word (R110, R172). -/
structure Frame where
  cls : Byte
  origin : Byte
  target : Byte
  body : List Byte
  check : BitVec 16
deriving DecidableEq, Repr

/-- The header and body of a frame, which its check word covers (R165). -/
def frameHead (cls origin target : Byte) (body : List Byte) : List Byte :=
  [cls, origin, target, BitVec.ofNat 8 body.length] ++ body

/-- The frame of this header and body, its check word computed (R165). -/
def makeFrame (cls origin target : Byte) (body : List Byte) : Frame :=
  { cls, origin, target, body, check := checkWord (frameHead cls origin target body) }

/-- The bytes of a frame as they stand on the line (R172). -/
def frameBytes (f : Frame) : List Byte :=
  frameHead f.cls f.origin f.target f.body ++ beBytes 2 f.check.toNat

/-- What R164 makes of a frame that has ended. -/
inductive Judged where
  /-- Dropped at check 1 or 2: the malformed counter. -/
  | malformed
  /-- Dropped at check 3: the check-error counter of the link, and LINK. -/
  | checkError
  /-- Passed: handed on by class. -/
  | whole (frame : Frame)
deriving DecidableEq, Repr

/-- The judgement of a frame that has ended: its size, its body length field, then its stop bits and check word
(R164). `bad` is the receiver's bad-byte mark. -/
def judgeFrame (bytes : List Byte) (bad : Bool) : Judged :=
  let size := bytes.length
  if size < 6 ∨ 62 < size then .malformed
  else
    match bytes with
    | cls :: origin :: target :: len :: rest =>
      if 56 < len.toNat ∨ len.toNat ≠ size - 6 then .malformed
      else
        let check := BitVec.ofNat 16 (be (rest.drop (size - 6)))
        if bad ∨ check ≠ checkWord (bytes.take (size - 2)) then .checkError
        else .whole { cls, origin, target, body := rest.take (size - 6), check }
    | _ => .malformed

/-- A byte that arrived with its stop bit. -/
def goodByte (b : Byte) : LineByte := { value := b, stopBit := true }

/-- The body of a SPEED REFERENCE; mark 0 NONE, 1 CLAMPED, 2 SUBSTITUTED (R172). -/
def speedBody (seq : Byte) (speed : Int) (mark : Byte) : List Byte :=
  [seq] ++ signedBytes 2 speed ++ [mark]

/-- The body of a DRUM SAMPLE (R172). -/
def sampleBody (drum seq : Byte) (count : BitVec 32) (stamp : BitVec 16) : List Byte :=
  [drum, seq] ++ beBytes 4 count.toNat ++ beBytes 2 stamp.toNat

/-- The body of a MARKER EVENT; quality 1 GOOD, 2 WEAK (R172). -/
def markerBody (conveyance : Byte) (markerId : BitVec 16) (quality : Byte) : List Byte :=
  [conveyance] ++ beBytes 2 markerId.toNat ++ [quality]

/-- The body of a ROPE LOAD (R172). -/
def loadBody (conveyance : Byte) (load : BitVec 16) : List Byte :=
  [conveyance] ++ beBytes 2 load.toNat

/-- The body of an INTERLOCK STATE; clutch 1 IN, 2 OUT, 3 MOVING; brake 1 APPLIED, 2 LIFTED (R172). -/
def interlockBody (readiness : BitVec 32) (clutch brake : Byte) : List Byte :=
  beBytes 4 readiness.toNat ++ [clutch, brake]

end Sys2Proof.Machine
end

