-- ==== Sys2Proof/Machine/Types.lean ====
section
/-! DEFINITION. Types.lean: the kinds of data the ten blocks hold, named as the manual names them. -/

namespace Sys2Proof.Machine

/-- Conveyances, and the compartments of the same names (00_scope, "Indices"). -/
inductive Conveyance where
  | skip
  | cage
  | counterweight
deriving DecidableEq, Repr

/-- One value for each conveyance. -/
structure PerConveyance (α : Type) where
  skip : α
  cage : α
  counterweight : α
deriving DecidableEq, Repr

/-- The value of one conveyance. -/
def PerConveyance.get {α : Type} (p : PerConveyance α) : Conveyance → α
  | .skip => p.skip
  | .cage => p.cage
  | .counterweight => p.counterweight

/-- The same values but for one conveyance's. -/
def PerConveyance.set {α : Type} (p : PerConveyance α) (c : Conveyance) (a : α) : PerConveyance α :=
  match c with
  | .skip => { p with skip := a }
  | .cage => { p with cage := a }
  | .counterweight => { p with counterweight := a }

/-- The value a function gives for each conveyance. -/
def PerConveyance.of {α : Type} (f : Conveyance → α) : PerConveyance α :=
  { skip := f .skip, cage := f .cage, counterweight := f .counterweight }

/-- Regimes, in index order (00_scope, "Indices"). -/
inductive Regime where
  | rock
  | material
  | persons
  | inspection
  | recovery
deriving DecidableEq, Repr

/-! ### Tables (chapters 1 and 2) -/

/-- The three tables (R1). -/
inductive TableId where
  | shaft
  | profile
  | drum
deriving DecidableEq, Repr

/-- SHAFT row 0 (R5). -/
structure ShaftRow where
  pairSum : Nat
  pairTolerance : Nat
  followerMargin : Nat
deriving DecidableEq, Repr

/-- SHAFT rows 1 to 3 (R6). -/
structure CompartmentRow where
  compartment : Conveyance
  topLimit : Int
  bottomLimit : Int
  bodyAbove : Nat
  bodyBelow : Nat
  sheaveHeight : Nat
  compliance : Nat
  syncWindow : Nat
  missDistance : Nat
  slackThreshold : Nat
deriving DecidableEq, Repr

/-- A MARKER entry row (R10). -/
structure MarkerRow where
  compartment : Conveyance
  markerId : Nat
  depth : Int
  unreliable : Bool
deriving DecidableEq, Repr

/-- A ZONE entry row (R12). -/
structure ZoneRow where
  compartment : Conveyance
  top : Int
  bottom : Int
  ceiling : Nat
deriving DecidableEq, Repr

/-- A STATION entry row; `allowed` has bit r set for regime index r (R13, R14). -/
structure StationRow where
  compartment : Conveyance
  stopDepth : Int
  window : Nat
  allowed : Byte
deriving DecidableEq, Repr

/-- PROFILE row 0 (R15). -/
structure TimingRow where
  refWatch : Nat
  restSpeed : Nat
  restTime : Nat
deriving DecidableEq, Repr

/-- PROFILE rows 1 to 5 (R16). -/
structure RegimeRow where
  vMax : Nat
  decel : Nat
  vCreep : Nat
  dCreep : Nat
  marginAbs : Nat
  marginPct : Nat
  stopDecel : Nat
deriving DecidableEq, Repr

/-- DRUM row 0 (R17). -/
structure DrumRow where
  samplePeriod : Nat
  sampleWatch : Nat
  disagreeLimit : Nat
  holdLimit : Nat
  driftLimit : Nat
deriving DecidableEq, Repr

/-- One layer of a DRUM layer row (R18). -/
structure Layer where
  startCount : Int
  scale : Nat
deriving DecidableEq, Repr

/-- DRUM rows 1 and 2: the number of layers in use, and four layers of which those beyond it are zero (R18, R19). -/
structure LayerRow where
  layerCount : Nat
  layer0 : Layer
  layer1 : Layer
  layer2 : Layer
  layer3 : Layer
deriving DecidableEq, Repr

/-- A row of any table (R1). -/
inductive Row where
  | shaft (r : ShaftRow)
  | compartment (r : CompartmentRow)
  | marker (r : MarkerRow)
  | zone (r : ZoneRow)
  | station (r : StationRow)
  | timing (r : TimingRow)
  | regime (r : RegimeRow)
  | drum (r : DrumRow)
  | layers (r : LayerRow)
deriving DecidableEq, Repr

/-- Where a shadow bank stands in commitment (R20). -/
inductive BankState where
  | loading
  | validating
  | validated
deriving DecidableEq, Repr

/-- A table's two banks: the active rows (none before the first confirm), the shadow rows and the shadow's state
(R20). The active row count and the fill count are the lists' lengths. -/
structure Bank where
  active : List Row
  shadow : List Row
  state : BankState
deriving DecidableEq, Repr

/-- A set of tables (R23). -/
structure TableSet where
  shaft : Bool
  profile : Bool
  drum : Bool
deriving DecidableEq, Repr

/-- The runtime record of a MARKER row (R11). -/
structure MarkerRecord where
  missCount : Nat
  suspect : Bool
deriving DecidableEq, Repr

/-- The checks of validation, in the order of the tables of R25 and R26. -/
inductive Check where
  | entryOrder
  | markerId
  | zoneCover
  | withinLimits
  | stationRegime
  | creepMax
  | inspectionMax
  | recoverySpeeds
  | layerStart
  | layerOrder
deriving DecidableEq, Repr

/-- Why an open commitment was abandoned (R28, R29). -/
inductive AbandonReason where
  | key
  | trip
  | motion
deriving DecidableEq, Repr

/-- The last validation result (2.7). -/
inductive ValidationResult where
  | none
  | running (named : TableSet)
  | passed (named : TableSet)
  | failed (named : TableSet) (table : TableId) (row : Nat) (check : Check)
  | abandoned (named : TableSet) (reason : AbandonReason)
  | cancelled (named : TableSet)
deriving DecidableEq, Repr

/-- The Table Store (R11, R20). -/
structure TableStore where
  shaft : Bank
  profile : Bank
  drum : Bank
  markers : List MarkerRecord
  result : ValidationResult
deriving DecidableEq, Repr

/-! ### Drum Stream Monitor (chapter 3) -/

/-- A running timer: its length in milliseconds and the microseconds it has run. A stopped timer is `none`. -/
structure Timer where
  lengthMs : Nat
  runUs : Nat
deriving DecidableEq, Repr

/-- Lock state of a channel, with the run length of LOCKING (R34). -/
inductive Lock where
  | unlocked
  | locking (run : Nat)
  | locked
deriving DecidableEq, Repr

/-- The `seq` and `stamp` the next sample is judged against (R34). -/
structure Baseline where
  seq : Byte
  stamp : BitVec 16
deriving DecidableEq, Repr

/-- Direction of a drum's last applied movement that was not zero (R34). -/
inductive Sense where
  | none
  | forward
  | reverse
deriving DecidableEq, Repr

/-- A drum channel (R34). -/
structure Channel where
  lock : Lock
  baseline : Option Baseline
  countRef : Option (BitVec 32)
  position : Int
  applied : Int
  payout : Int
  speed : Nat
  sense : Sense
  atRest : Bool
  restTimer : Option Timer
  watchTimer : Option Timer
deriving DecidableEq, Repr

/-- The Drum Stream Monitor: two channels and the three accumulators (R34, R47 to R49). -/
structure DrumMonitor where
  skip : Channel
  cage : Channel
  disagree : Int
  hold : Nat
  drift : Nat
deriving DecidableEq, Repr

/-! ### Conveyance Trackers (chapter 4) -/

/-- Direction of motion of a conveyance (R52). -/
inductive Direction where
  | none
  | down
  | up
deriving DecidableEq, Repr

/-- A conveyance's tracker (R52). The expected marker is given by its index among the MARKER rows. -/
structure Tracker where
  datumed : Bool
  offset : Int
  load : Nat
  baseFine : Int
  stretch : Nat
  reported : Int
  direction : Direction
  expected : Option Nat
  missFlag : Bool
  lastMarker : Nat
deriving DecidableEq, Repr

/-! ### Causes and the Trip Pipeline (chapters 5 and 8) -/

/-- The twelve protective causes, in the order of the table of section 8.4. -/
inductive Cause where
  | overspeed
  | overwind
  | position
  | sample
  | unplanned
  | disagree
  | creep
  | slack
  | pair
  | gate
  | clutch
  | stopFail
deriving DecidableEq, Repr

/-- The cause of a trip record: a protective cause, or one of the four that end trips only (R94, chapter 8). -/
inductive TripCause where
  | protective (c : Cause)
  | abort
  | watch
  | notReady
  | held
deriving DecidableEq, Repr

/-- Kind of a trip, with what its request names (R72). -/
inductive TripKind where
  | station (index : Nat)
  | travel (mm : Nat)
deriving DecidableEq, Repr

/-- The lead of a trip (R72). -/
inductive Lead where
  | skip
  | cage
deriving DecidableEq, Repr

/-- Drum direction of a trip (R72). -/
inductive DrumDirection where
  | forward
  | reverse
deriving DecidableEq, Repr

/-- Where a trip stands: the five states of the ACTIVE slot, or queued in the WAITING slot (R72). -/
inductive TripState where
  | waiting
  | running
  | creeping
  | settling
  | stopping
  | queued
deriving DecidableEq, Repr

/-- How a trip ended (R72). -/
inductive TripOutcome where
  | landed
  | offStation
  | completed
  | aborted
  | tripped
  | withdrawn
  | discarded
deriving DecidableEq, Repr

/-- A trip record in the pipeline (R72). `movesAll` tells the two moving sets apart: all three conveyances, or the
skip alone. The outcome of R72 is set at the finish, when the record leaves for the history. -/
structure Trip where
  tag : Byte
  kind : TripKind
  lead : Lead
  direction : DrumDirection
  regime : Regime
  movesAll : Bool
  starts : PerConveyance (Option Int)
  ends : PerConveyance (Option Int)
  swept : List Nat
  payoutOrigin : Option Int
  state : TripState
  cause : Option TripCause
deriving DecidableEq, Repr

/-- A history record (R94). The stop deviation is present for a STATION trip. -/
structure HistoryRecord where
  tag : Byte
  travel : Bool
  lead : Lead
  regime : Regime
  outcome : TripOutcome
  cause : Option TripCause
  finalDepth : Int
  deviation : Option Int
deriving DecidableEq, Repr

/-- The Trip Pipeline (R74, R94). The history is newest first. -/
structure Pipeline where
  active : Option Trip
  waiting : Option Trip
  history : List HistoryRecord
deriving DecidableEq, Repr

/-! ### Envelope Unit (chapter 6) -/

/-- What the Envelope Unit holds (R96). -/
structure Envelope where
  permitted : Nat
  envelopes : PerConveyance (Option Nat)
  thresholds : PerConveyance (Option Nat)
deriving DecidableEq, Repr

/-! ### Reference Guard (chapter 7) -/

/-- Source of a speed reference in the downstream queue (R110). -/
inductive RefSource where
  | controller
  | substitute
deriving DecidableEq, Repr

/-- A frame of the downstream queue, with its source if it is a speed reference (R110). -/
structure DownFrame where
  frame : Frame
  source : Option RefSource
deriving DecidableEq, Repr

/-- A transmitter: idle, sending a frame, or leaving the line silent for 16 µs (R110, R116, R162, R170). -/
inductive Transmitter where
  | idle
  | sending (frame : Frame)
  | gap
deriving DecidableEq, Repr

/-- The last forwarded reference (R110). -/
structure LastReference where
  magnitude : Nat
  seq : Byte
  target : Byte
deriving DecidableEq, Repr

/-- The stop record of a controlled stop; `forward` is its sign (R110, R121). -/
structure StopRecord where
  startSpeed : Nat
  rampValue : Nat
  rampSpeed : Nat
  overRun : Nat
  deadline : Timer
  forward : Bool
deriving DecidableEq, Repr

/-- The Reference Guard (R110). -/
structure Guard where
  queue : List DownFrame
  transmitter : Transmitter
  lastRef : LastReference
  watch : Option Timer
  stop : Option StopRecord
deriving DecidableEq, Repr

/-! ### Protection Controller (chapter 8) -/

/-- Supervisor states (R128). -/
inductive Supervisor where
  | noTables
  | undatumed
  | armed
  | tripped
deriving DecidableEq, Repr

/-- The clutch of the interlock image (R128). -/
inductive Clutch where
  | engaged
  | disengaged
  | moving
deriving DecidableEq, Repr

/-- The interlock image; `disengaged` is the manual's OUT, `engaged` its IN (R128, R133). -/
structure Interlock where
  readiness : BitVec 32
  clutch : Clutch
  brakeApplied : Bool
deriving DecidableEq, Repr

/-- The Protection Controller; bit c of the cause set stands for the cause of index c (R128). -/
structure Protection where
  state : Supervisor
  chainClosed : Bool
  firstCause : Option Cause
  causes : BitVec 12
  echo : Option Timer
  driveHeard : Bool
  driveSilent : Bool
  image : Interlock
deriving DecidableEq, Repr

/-! ### Zone Map (chapter 9) -/

/-- Occupancy of a compartment (R146). -/
inductive Occupancy where
  | unknown
  | run (lowest highest : Nat)
  | none
deriving DecidableEq, Repr

/-- The summary of a zone, in precedence order (R149). -/
inductive Summary where
  | unknown
  | occupied
  | plannedActive
  | plannedWaiting
  | held
  | clear
deriving DecidableEq, Repr

/-- An entry of the release watch list (R146). -/
structure WatchEntry where
  zone : Nat
  station : Byte
deriving DecidableEq, Repr

/-- The Zone Map (R146). `holders` has one place per zone of the active SHAFT bank. -/
structure ZoneMap where
  holders : List (Option Byte)
  occupancy : PerConveyance Occupancy
  activeSwept : List Nat
  waitingSwept : List Nat
  activeState : Option TripState
  watchList : List WatchEntry
deriving DecidableEq, Repr

/-! ### Request Handler (chapter 11) -/

/-- The twelve attention flags, in bit order (R184). -/
inductive Flag where
  | start
  | trip
  | finish
  | clamp
  | stop
  | miss
  | suspect
  | link
  | drop
  | datum
  | valid
  | silent
deriving DecidableEq, Repr

/-- The eleven counters, in index order (R186). -/
inductive Counter where
  | clamped
  | superseded
  | droppedDown
  | droppedUp
  | blocked
  | checkErrorsC
  | checkErrorsD
  | malformed
  | syncs
  | misses
  | foreign
deriving DecidableEq, Repr

/-- The counters' values (R186). -/
structure Counters where
  clamped : Nat
  superseded : Nat
  droppedDown : Nat
  droppedUp : Nat
  blocked : Nat
  checkErrorsC : Nat
  checkErrorsD : Nat
  malformed : Nat
  syncs : Nat
  misses : Nat
  foreign : Nat
deriving DecidableEq, Repr

/-- The Request Handler; bit f of the flags stands for the flag of bit order f (R176, R184). -/
structure RequestHandler where
  flags : BitVec 12
  counters : Counters
deriving DecidableEq, Repr

/-! ### Line Interface Unit (chapter 10) -/

/-- A receiver. Its buffer and its bad-byte mark mean something in RECEIVING only (R162, R163). -/
inductive Receiver where
  | waitingIdle
  | idle
  | receiving (buffer : List Byte) (bad : Bool)
  | discarding
deriving DecidableEq, Repr

/-- The mark of a frame of the upstream queue (R162). -/
inductive UpMark where
  | field
  | part
deriving DecidableEq, Repr

/-- A frame of the upstream queue (R162). -/
structure UpFrame where
  frame : Frame
  mark : UpMark
deriving DecidableEq, Repr

/-- The Line Interface Unit (R162). -/
structure LineUnit where
  cReceiver : Receiver
  dReceiver : Receiver
  queue : List UpFrame
  transmitter : Transmitter
deriving DecidableEq, Repr

end Sys2Proof.Machine
end

