-- ==== Sys2Proof/Machine/State.lean ====
section
/-! DEFINITION. State.lean: the whole state of the CM640, the reasons a step can stop, and the state right after NRST. -/

namespace Sys2Proof.Machine

/-- The machine's faults. There is none: no rule of the manual stops the part, and every command has an effect in
every state, so this closed type has no constructor. -/
inductive Fault where
deriving DecidableEq, Repr

/-- The machine's refusals. -/
inductive Refusal where
  /-- A command without a meaning, raised by an arm of `exec` alone; no arm raises it now. Safe: the machine stops. -/
  | notModelled (mnemonic : String)
deriving DecidableEq, Repr

/-- The state of the CM640: its ten blocks, the KEY input, the commands that wait, and the model's own counter of
fresh free choices. -/
structure State where
  /-- The commands that wait, first in first out (the model's own; assumption 6, DESIGN CHOICE). -/
  pending : List Instr
  /-- The KEY input (R28, R182). -/
  key : KeyPosition
  /-- Line Interface Unit (R162). -/
  line : LineUnit
  /-- Table Store (R20). -/
  tables : TableStore
  /-- Drum Stream Monitor (R34). -/
  drums : DrumMonitor
  /-- Conveyance Trackers (R52). -/
  trackers : PerConveyance Tracker
  /-- Trip Pipeline (R72, R74). -/
  pipeline : Pipeline
  /-- Envelope Unit (R96). -/
  envelope : Envelope
  /-- Reference Guard (R110). -/
  guard : Guard
  /-- Protection Controller (R128). -/
  protection : Protection
  /-- Zone Map (R146). -/
  zones : ZoneMap
  /-- Request Handler (R176). -/
  requests : RequestHandler
  /-- How many fresh free choices have been taken (the model's own; assumption 1, DESIGN CHOICE). -/
  freeCount : Nat
deriving DecidableEq, Repr

namespace State

/-- A table with no active bank and an empty shadow in LOADING (R20). -/
def resetBank : Bank := { active := [], shadow := [], state := .loading }

/-- A channel after NRST (R51). -/
def resetChannel : Channel :=
  { lock := .unlocked, baseline := none, countRef := none, position := 0, applied := 0, payout := 0, speed := 0,
    sense := .none, atRest := false, restTimer := none, watchTimer := none }

/-- A tracker after NRST (R71). -/
def resetTracker : Tracker :=
  { datumed := false, offset := 0, load := 0, baseFine := 0, stretch := 0, reported := 0, direction := .none,
    expected := none, missFlag := false, lastMarker := 0 }

/-- The counters after NRST (R189). -/
def resetCounters : Counters :=
  { clamped := 0, superseded := 0, droppedDown := 0, droppedUp := 0, blocked := 0, checkErrorsC := 0,
    checkErrorsD := 0, malformed := 0, syncs := 0, misses := 0, foreign := 0 }

/-- The START notice that NRST offers as the first upstream frame: ATTENTION, flag 0, flag set START alone
(R175, R185, R189). -/
def startNotice : Frame :=
  makeFrame (classCode .notice) Config.partStation Config.controllerStation [1, 0, 0, 1]

/-- The machine right after NRST: R51, R71, R95, R109, R127, R145, R161, R175 and R189, with the START notice offered.
KEY stands LOCKED (assumption 5, DESIGN CHOICE). -/
def reset : State :=
  { pending := []
    key := .locked
    line := { cReceiver := .waitingIdle, dReceiver := .waitingIdle,
              queue := [{ frame := startNotice, mark := .part }], transmitter := .idle }
    tables := { shaft := resetBank, profile := resetBank, drum := resetBank, markers := [], result := .none }
    drums := { skip := resetChannel, cage := resetChannel, disagree := 0, hold := 0, drift := 0 }
    trackers := { skip := resetTracker, cage := resetTracker, counterweight := resetTracker }
    pipeline := { active := none, waiting := none, history := [] }
    envelope := { permitted := 0, envelopes := { skip := none, cage := none, counterweight := none },
                  thresholds := { skip := none, cage := none, counterweight := none } }
    guard := { queue := [], transmitter := .idle, lastRef := { magnitude := 0, seq := 0, target := 0 },
               watch := none, stop := none }
    protection := { state := .noTables, chainClosed := false, firstCause := none, causes := 0, echo := none,
                    driveHeard := false, driveSilent := false,
                    image := { readiness := 0, clutch := .moving, brakeApplied := true } }
    zones := { holders := [], occupancy := { skip := .unknown, cage := .unknown, counterweight := .unknown },
               activeSwept := [], waitingSwept := [], activeState := none, watchList := [] }
    requests := { flags := 1, counters := resetCounters }
    freeCount := 0 }

end State
end Sys2Proof.Machine
end

