-- ==== Sys2Proof/Machine/Ops.lean ====
section
/-! DEFINITION. Ops.lean: the named reads and writes of State that every block goes through: the active rows of the
tables, the channels, the trackers, the receivers and the timers. -/

namespace Sys2Proof.Machine

/-! ### Tables (R1, R2, R20) -/

/-- A table's banks. -/
def bank (t : TableId) (s : State) : Bank :=
  match t with
  | .shaft => s.tables.shaft
  | .profile => s.tables.profile
  | .drum => s.tables.drum

/-- Write a table's banks. -/
def setBank (t : TableId) (b : Bank) (s : State) : State :=
  match t with
  | .shaft => { s with tables.shaft := b }
  | .profile => { s with tables.profile := b }
  | .drum => { s with tables.drum := b }

/-- Capacity of a table (R1). -/
def capacity : TableId → Nat
  | .shaft => 196
  | .profile => 6
  | .drum => 3

/-- The rows a shadow bank must hold before COMMIT PREPARE accepts it (R1). -/
def minimumRows : TableId → Nat
  | .shaft => 4
  | .profile => 6
  | .drum => 3

/-- Code of a table, in requests, replies and the named set's bits (R172, R178). -/
def TableId.code : TableId → Nat
  | .shaft => 0
  | .profile => 1
  | .drum => 2

/-- The table a byte names, if any (R21, R22). -/
def TableId.ofByte (b : Byte) : Option TableId :=
  match b.toNat with
  | 0 => some .shaft
  | 1 => some .profile
  | 2 => some .drum
  | _ => none

/-- Whether a set names a table. -/
def TableSet.has (n : TableSet) : TableId → Bool
  | .shaft => n.shaft
  | .profile => n.profile
  | .drum => n.drum

/-- The set's byte: bit t for table t (R179). -/
def TableSet.byte (n : TableSet) : Byte :=
  BitVec.ofNat 8 (n.shaft.toNat + 2 * n.profile.toNat + 4 * n.drum.toNat)

/-- Index of a conveyance (00_scope). -/
def Conveyance.index : Conveyance → Nat
  | .skip => 0
  | .cage => 1
  | .counterweight => 2

/-- The conveyance, or compartment, a code names, if any (R54, R57, R172). -/
def Conveyance.ofCode : Nat → Option Conveyance
  | 0 => some .skip
  | 1 => some .cage
  | 2 => some .counterweight
  | _ => none

/-- Index of a regime (00_scope). -/
def Regime.index : Regime → Nat
  | .rock => 0
  | .material => 1
  | .persons => 2
  | .inspection => 3
  | .recovery => 4

/-- The regime a code names, if any. -/
def Regime.ofCode : Nat → Option Regime
  | 0 => some .rock
  | 1 => some .material
  | 2 => some .persons
  | 3 => some .inspection
  | 4 => some .recovery
  | _ => none

/-- The MARKER rows among some rows, in order. -/
def markerRows (rows : List Row) : List MarkerRow :=
  rows.filterMap fun
    | .marker r => some r
    | _ => none

/-- The ZONE rows among some rows, in order: a zone's index is its position here (R12). -/
def zoneRows (rows : List Row) : List ZoneRow :=
  rows.filterMap fun
    | .zone r => some r
    | _ => none

/-- The STATION rows among some rows, in order: a station's index is its position here (R13). -/
def stationRows (rows : List Row) : List StationRow :=
  rows.filterMap fun
    | .station r => some r
    | _ => none

/-- The compartment row of a conveyance among some rows (R6). -/
def compartmentOf (rows : List Row) (c : Conveyance) : Option CompartmentRow :=
  rows.findSome? fun
    | .compartment r => if r.compartment = c then some r else none
    | _ => none

/-- The active MARKER rows. -/
def markers (s : State) : List MarkerRow := markerRows s.tables.shaft.active

/-- The active ZONE rows. -/
def zoneList (s : State) : List ZoneRow := zoneRows s.tables.shaft.active

/-- The active STATION rows. -/
def stations (s : State) : List StationRow := stationRows s.tables.shaft.active

/-- The active compartment row of a conveyance, if a SHAFT table is active. -/
def compartmentRow (c : Conveyance) (s : State) : Option CompartmentRow :=
  compartmentOf s.tables.shaft.active c

/-- The active SHAFT row 0, if any. -/
def shaftRow (s : State) : Option ShaftRow :=
  s.tables.shaft.active.findSome? fun
    | .shaft r => some r
    | _ => none

/-- The active timing row, if any (R15). -/
def timingRow (s : State) : Option TimingRow :=
  s.tables.profile.active.findSome? fun
    | .timing r => some r
    | _ => none

/-- The active row of a regime, if any (R16). -/
def regimeRow (r : Regime) (s : State) : Option RegimeRow :=
  match s.tables.profile.active[r.index + 1]? with
  | some (.regime row) => some row
  | _ => none

/-- The active drum constants, if any (R17). -/
def drumRow (s : State) : Option DrumRow :=
  s.tables.drum.active.findSome? fun
    | .drum r => some r
    | _ => none

/-- The active layer row of a drum, if any (R18). -/
def layerRow (d : Drum) (s : State) : Option LayerRow :=
  match s.tables.drum.active[(match d with | .skip => 1 | .cage => 2 : Nat)]? with
  | some (.layers row) => some row
  | _ => none

/-- The named banks of an open commitment: those whose state is not LOADING (R20). -/
def openSet (s : State) : TableSet :=
  { shaft := s.tables.shaft.state ≠ .loading
    profile := s.tables.profile.state ≠ .loading
    drum := s.tables.drum.state ≠ .loading }

/-- Some shadow bank is VALIDATING. -/
def anyValidating (s : State) : Bool :=
  s.tables.shaft.state = .validating || s.tables.profile.state = .validating || s.tables.drum.state = .validating

/-- Some shadow bank is VALIDATED. -/
def anyValidated (s : State) : Bool :=
  s.tables.shaft.state = .validated || s.tables.profile.state = .validated || s.tables.drum.state = .validated

/-- A commitment is open (2.5). -/
def commitmentOpen (s : State) : Bool := anyValidating s || anyValidated s

/-! ### Channels, trackers and rest (R34, R45, R52, R53) -/

/-- A drum's channel. -/
def channel (d : Drum) (s : State) : Channel :=
  match d with
  | .skip => s.drums.skip
  | .cage => s.drums.cage

/-- Write a drum's channel. -/
def setChannel (d : Drum) (ch : Channel) (s : State) : State :=
  match d with
  | .skip => { s with drums.skip := ch }
  | .cage => { s with drums.cage := ch }

/-- A conveyance's tracker. -/
def tracker (c : Conveyance) (s : State) : Tracker := s.trackers.get c

/-- Write a conveyance's tracker. -/
def setTracker (c : Conveyance) (t : Tracker) (s : State) : State :=
  { s with trackers := s.trackers.set c t }

/-- The drum a conveyance hangs from (R53). -/
def drumOf : Conveyance → Drum
  | .skip => .skip
  | .cage => .cage
  | .counterweight => .cage

/-- The winder is at rest while both drums are (R45). -/
def winderAtRest (s : State) : Bool := s.drums.skip.atRest && s.drums.cage.atRest

/-- All three trackers are DATUMED (R129). -/
def allDatumed (s : State) : Bool :=
  s.trackers.skip.datumed && s.trackers.cage.datumed && s.trackers.counterweight.datumed

/-- Both pipeline slots are empty. -/
def pipelineEmpty (s : State) : Bool := s.pipeline.active.isNone && s.pipeline.waiting.isNone

/-! ### Receivers (R162) -/

/-- A link's receiver. -/
def receiver (l : Link) (s : State) : Receiver :=
  match l with
  | .c => s.line.cReceiver
  | .d => s.line.dReceiver

/-- Write a link's receiver. -/
def setReceiver (l : Link) (r : Receiver) (s : State) : State :=
  match l with
  | .c => { s with line.cReceiver := r }
  | .d => { s with line.dReceiver := r }

/-! ### Timers -/

/-- A timer of this length that starts now. -/
def startTimer (ms : Nat) : Option Timer := some { lengthMs := ms, runUs := 0 }

/-- One microsecond passes for a timer that runs. -/
def Timer.pass (t : Timer) : Timer := { t with runUs := t.runUs + 1 }

/-- A timer has run for its length. -/
def Timer.reached (t : Timer) : Bool := decide (t.lengthMs * 1000 ≤ t.runUs)

/-- One microsecond passes for a channel's two timers. -/
def Channel.pass (ch : Channel) : Channel :=
  { ch with restTimer := ch.restTimer.map Timer.pass, watchTimer := ch.watchTimer.map Timer.pass }

/-- One microsecond passes with no command waiting: every running timer runs on, and nothing else changes
(assumption 7, DESIGN CHOICE). The expiries come as commands (assumption 8, DESIGN CHOICE). -/
def passMicrosecond (s : State) : State :=
  { s with
    drums.skip := s.drums.skip.pass
    drums.cage := s.drums.cage.pass
    guard.watch := s.guard.watch.map Timer.pass
    guard.stop := s.guard.stop.map fun r => { r with deadline := r.deadline.pass }
    protection.echo := s.protection.echo.map Timer.pass }

end Sys2Proof.Machine
end

