-- ==== Sys2Proof/Machine/Flags.lean ====
section
/-! DEFINITION. Flags.lean: the attention flags with their notices, the counters, and the upstream queue that both meet
(R169, R171, R184 to R186, R190). -/

namespace Sys2Proof.Machine

/-- Bit of an attention flag (R184). -/
def Flag.index : Flag → Nat
  | .start => 0
  | .trip => 1
  | .finish => 2
  | .clamp => 3
  | .stop => 4
  | .miss => 5
  | .suspect => 6
  | .link => 7
  | .drop => 8
  | .datum => 9
  | .valid => 10
  | .silent => 11

/-- A flag stands set. -/
def flagSet (f : Flag) (s : State) : Bool := s.requests.flags.getLsbD f.index

/-- The flag's bit set, with no notice. -/
def markFlag (f : Flag) (s : State) : State :=
  { s with requests.flags := s.requests.flags ||| BitVec.twoPow 12 f.index }

/-- A counter's next value: held at 65,535 once it reaches it (R186). -/
def saturate (n : Nat) : Nat := min (n + 1) 65535

/-- A counter incremented (R186). -/
def count (c : Counter) (s : State) : State :=
  match c with
  | .clamped => { s with requests.counters.clamped := saturate s.requests.counters.clamped }
  | .superseded => { s with requests.counters.superseded := saturate s.requests.counters.superseded }
  | .droppedDown => { s with requests.counters.droppedDown := saturate s.requests.counters.droppedDown }
  | .droppedUp => { s with requests.counters.droppedUp := saturate s.requests.counters.droppedUp }
  | .blocked => { s with requests.counters.blocked := saturate s.requests.counters.blocked }
  | .checkErrorsC => { s with requests.counters.checkErrorsC := saturate s.requests.counters.checkErrorsC }
  | .checkErrorsD => { s with requests.counters.checkErrorsD := saturate s.requests.counters.checkErrorsD }
  | .malformed => { s with requests.counters.malformed := saturate s.requests.counters.malformed }
  | .syncs => { s with requests.counters.syncs := saturate s.requests.counters.syncs }
  | .misses => { s with requests.counters.misses := saturate s.requests.counters.misses }
  | .foreign => { s with requests.counters.foreign := saturate s.requests.counters.foreign }

/-- The counters in index order, as COUNTER READ returns them (R187). -/
def Counters.values (c : Counters) : List Nat :=
  [c.clamped, c.superseded, c.droppedDown, c.droppedUp, c.blocked, c.checkErrorsC, c.checkErrorsD, c.malformed,
    c.syncs, c.misses, c.foreign]

/-- The upstream queue has a place for a frame of this mark (R169). -/
def upRoom (m : UpMark) (s : State) : Bool :=
  match m with
  | .field => decide (s.line.queue.length < Config.upFieldPlaces)
  | .part => decide (s.line.queue.length < Config.upQueuePlaces)

/-- A frame appended at the tail of the upstream queue. -/
def appendUp (m : UpMark) (f : Frame) (s : State) : State :=
  { s with line.queue := s.line.queue ++ [{ frame := f, mark := m }] }

/-- The ATTENTION notice of a flag, with the whole set of flags standing now (R185). -/
def attentionNotice (f : Flag) (s : State) : Frame :=
  makeFrame (classCode .notice) Config.partStation Config.controllerStation
    ([1, BitVec.ofNat 8 f.index] ++ beBytes 2 s.requests.flags.toNat)

/-- DROP becomes set because of a drop: its notice is offered at that moment if DROP was clear, and if the queue is
full that notice is dropped and counted as well, and nothing further follows (R169, R190). -/
def raiseDrop (s : State) : State :=
  if flagSet .drop s then s
  else
    let s := markFlag .drop s
    if upRoom .part s then appendUp .part (attentionNotice .drop s) s else count .droppedUp s

/-- A frame offered to the upstream queue: appended, or dropped with the dropped-up counter and DROP (R169). -/
def offerUp (m : UpMark) (f : Frame) (s : State) : State :=
  if upRoom m s then appendUp m f s else raiseDrop (count .droppedUp s)

/-- An attention flag set: one notice when it changes from clear to set (R184, R185). -/
def setFlag (f : Flag) (s : State) : State :=
  if flagSet f s then s
  else
    let s := markFlag f s
    offerUp .part (attentionNotice f s) s

end Sys2Proof.Machine
end

