-- ==== Sys2Proof/Machine/Tables.lean ====
section
/-! DEFINITION. Tables.lean: the field checks a row meets when it is loaded (R3 to R19, R174), a row's bytes as ROW READ
returns them (R22, R172), and what validation judges (R25 to R27). -/

namespace Sys2Proof.Machine

/-! ### Loading: field checks -/

/-- Position, counted from 1, of the first field whose test fails (R3, R174). -/
def firstFailing : List Bool → Option Nat
  | [] => none
  | true :: rest => (firstFailing rest).map (· + 1)
  | false :: _ => some 1

/-- A row judged field by field: its fields' tests in layout order, then the row (R3). -/
def judged (tests : List Bool) (row : Row) : Except Nat Row :=
  match firstFailing tests with
  | some position => .error position
  | none => .ok row

/-- A depth lies in the range of the line (00_scope, "Depth"). -/
def depthInRange (d : Int) : Bool := decide (-50000 ≤ d ∧ d ≤ 4200000)

/-- A number lies in a range, both ends included. -/
def within (lo n hi : Nat) : Bool := decide (lo ≤ n ∧ n ≤ hi)

/-- Content of SHAFT row 0 (R5); `kindFits` is the test of the kind against the row number (R4). -/
def judgeShaftRow (kindFits : Bool) (b : List Byte) : Except Nat Row :=
  let pairSum := field b 1 4
  let pairTolerance := field b 5 2
  let followerMargin := field b 7 2
  judged [kindFits, within 0 pairSum 8400000, within 10 pairTolerance 5000, within 0 followerMargin 20000]
    (.shaft { pairSum, pairTolerance, followerMargin })

/-- Content of SHAFT rows 1 to 3, which must name compartment `wanted` (R4, R6). -/
def judgeCompartmentRow (kindFits : Bool) (wanted : Conveyance) (b : List Byte) : Except Nat Row :=
  let topLimit := signedField b 2 4
  let bottomLimit := signedField b 6 4
  let bodyAbove := field b 10 2
  let bodyBelow := field b 12 2
  let sheaveHeight := field b 14 4
  let compliance := field b 18 2
  let syncWindow := field b 20 2
  let missDistance := field b 22 2
  let slackThreshold := field b 24 2
  judged
    [kindFits, decide (Conveyance.ofCode (field b 1 1) = some wanted), depthInRange topLimit,
      depthInRange bottomLimit && decide (topLimit < bottomLimit), within 0 bodyAbove 30000, within 0 bodyBelow 30000,
      within 0 sheaveHeight 200000, within 0 compliance 1000, within 10 syncWindow 2000,
      within 100 missDistance 10000, within 0 slackThreshold 20000]
    (.compartment { compartment := wanted, topLimit, bottomLimit, bodyAbove, bodyBelow, sheaveHeight, compliance,
                    syncWindow, missDistance, slackThreshold })

/-- Content of a MARKER row (R10); any flags bit but bit 0 fails the flags field (R174). -/
def judgeMarkerRow (kindFits : Bool) (b : List Byte) : Except Nat Row :=
  let compartment := Conveyance.ofCode (field b 1 1)
  let markerId := field b 2 2
  let depth := signedField b 4 4
  let flags := field b 8 1
  judged [kindFits, compartment.isSome, within 1 markerId 65535, depthInRange depth, within 0 flags 1]
    (.marker { compartment := compartment.getD .skip, markerId, depth, unreliable := decide (flags = 1) })

/-- Content of a ZONE row (R12). -/
def judgeZoneRow (kindFits : Bool) (b : List Byte) : Except Nat Row :=
  let compartment := Conveyance.ofCode (field b 1 1)
  let top := signedField b 2 4
  let bottom := signedField b 6 4
  let ceiling := field b 10 2
  judged [kindFits, compartment.isSome, depthInRange top, depthInRange bottom && decide (top < bottom),
      within 100 ceiling 20000]
    (.zone { compartment := compartment.getD .skip, top, bottom, ceiling })

/-- Content of a STATION row: SKIP or CAGE only (R13); RECOVERY and undefined bits fail the allowed set (R14, R174). -/
def judgeStationRow (kindFits : Bool) (b : List Byte) : Except Nat Row :=
  let compartment := Conveyance.ofCode (field b 1 1)
  let stopDepth := signedField b 2 4
  let window := field b 6 2
  let allowed := field b 8 1
  judged [kindFits, decide (compartment = some .skip ∨ compartment = some .cage), depthInRange stopDepth,
      within 20 window 1000, within 0 allowed 15]
    (.station { compartment := compartment.getD .skip, stopDepth, window, allowed := BitVec.ofNat 8 allowed })

/-- Content of PROFILE row 0 (R15). -/
def judgeTimingRow (b : List Byte) : Except Nat Row :=
  let refWatch := field b 0 2
  let restSpeed := field b 2 2
  let restTime := field b 4 2
  judged [within 50 refWatch 1000, within 5 restSpeed 100, within 100 restTime 5000]
    (.timing { refWatch, restSpeed, restTime })

/-- Content of PROFILE rows 1 to 5 (R16). -/
def judgeRegimeRow (b : List Byte) : Except Nat Row :=
  let vMax := field b 0 2
  let decel := field b 2 2
  let vCreep := field b 4 2
  let dCreep := field b 6 2
  let marginAbs := field b 8 2
  let marginPct := field b 10 1
  let stopDecel := field b 11 2
  judged [within 100 vMax 20000, within 100 decel 3000, within 100 vCreep 2000, within 0 dCreep 20000,
      within 50 marginAbs 2000, within 0 marginPct 25, within 100 stopDecel 3000]
    (.regime { vMax, decel, vCreep, dCreep, marginAbs, marginPct, stopDecel })

/-- Content of DRUM row 0 (R17). -/
def judgeDrumRow (b : List Byte) : Except Nat Row :=
  let samplePeriod := field b 0 2
  let sampleWatch := field b 2 1
  let disagreeLimit := field b 3 4
  let holdLimit := field b 7 2
  let driftLimit := field b 9 2
  judged [within 1000 samplePeriod 10000, within 5 sampleWatch 100, within 10 disagreeLimit 100000,
      within 1 holdLimit 10000, within 1 driftLimit 10000]
    (.drum { samplePeriod, sampleWatch, disagreeLimit, holdLimit, driftLimit })

/-- Layer `i` of a layer row's content: as sent if in use, zero otherwise (R19). -/
def layerField (b : List Byte) (layerCount i : Nat) : Layer :=
  if i < layerCount then { startCount := signedField b (1 + 8 * i) 4, scale := field b (5 + 8 * i) 4 }
  else { startCount := 0, scale := 0 }

/-- Content of DRUM rows 1 and 2: scales are tested for layers in use only (R18, R19). -/
def judgeLayerRow (b : List Byte) : Except Nat Row :=
  let layerCount := field b 0 1
  let scaleFits := fun i => decide (layerCount ≤ i) || within 1 (field b (5 + 8 * i) 4) 1048575
  judged [within 1 layerCount 4, true, scaleFits 0, true, scaleFits 1, true, scaleFits 2, true, scaleFits 3]
    (.layers { layerCount, layer0 := layerField b layerCount 0, layer1 := layerField b layerCount 1,
               layer2 := layerField b layerCount 2, layer3 := layerField b layerCount 3 })

/-- A content of the layout's length is judged by its fields; any other length names position 0 (R174). -/
def sized (length : Nat) (b : List Byte) (judge : List Byte → Except Nat Row) : Except Nat Row :=
  if b.length = length then judge b else .error 0

/-- Content of a SHAFT row from row 4 on: the kind gives the length, and the kind's count in the shadow bank must be
below its limit (R4, R174). -/
def judgeEntryRow (held : List Row) (b : List Byte) : Except Nat Row :=
  match b with
  | [] => .error 0
  | kind :: _ =>
    match kind.toNat with
    | 0 => sized 9 b (judgeShaftRow false)
    | 1 => sized 26 b (judgeCompartmentRow false .skip)
    | 2 => sized 9 b (judgeMarkerRow (decide ((markerRows held).length < 96)))
    | 3 => sized 12 b (judgeZoneRow (decide ((zoneRows held).length < 64)))
    | 4 => sized 9 b (judgeStationRow (decide ((stationRows held).length < 32)))
    | _ => .error 1

/-- The content of a ROW LOAD for row `n` of table `t`, judged with the rows the shadow bank holds: the row, or the
position of the failing field (R3, R4, R174). -/
def judgeRow (t : TableId) (n : Nat) (held : List Row) (b : List Byte) : Except Nat Row :=
  match t, n with
  | .shaft, 0 => sized 9 b (judgeShaftRow (decide (field b 0 1 = 0)))
  | .shaft, 1 => sized 26 b (judgeCompartmentRow (decide (field b 0 1 = 1)) .skip)
  | .shaft, 2 => sized 26 b (judgeCompartmentRow (decide (field b 0 1 = 1)) .cage)
  | .shaft, 3 => sized 26 b (judgeCompartmentRow (decide (field b 0 1 = 1)) .counterweight)
  | .shaft, _ => judgeEntryRow held b
  | .profile, 0 => sized 6 b judgeTimingRow
  | .profile, _ => sized 13 b judgeRegimeRow
  | .drum, 0 => sized 11 b judgeDrumRow
  | .drum, _ => sized 33 b judgeLayerRow

/-! ### A row's bytes -/

/-- A layer's eight bytes (R172). -/
def layerBytes (l : Layer) : List Byte := signedBytes 4 l.startCount ++ beBytes 4 l.scale

/-- A row's content in its layout (R172, R174). -/
def rowBytes : Row → List Byte
  | .shaft r => [0] ++ beBytes 4 r.pairSum ++ beBytes 2 r.pairTolerance ++ beBytes 2 r.followerMargin
  | .compartment r =>
    [1, BitVec.ofNat 8 r.compartment.index] ++ signedBytes 4 r.topLimit ++ signedBytes 4 r.bottomLimit
      ++ beBytes 2 r.bodyAbove ++ beBytes 2 r.bodyBelow ++ beBytes 4 r.sheaveHeight ++ beBytes 2 r.compliance
      ++ beBytes 2 r.syncWindow ++ beBytes 2 r.missDistance ++ beBytes 2 r.slackThreshold
  | .marker r =>
    [2, BitVec.ofNat 8 r.compartment.index] ++ beBytes 2 r.markerId ++ signedBytes 4 r.depth
      ++ [BitVec.ofNat 8 r.unreliable.toNat]
  | .zone r =>
    [3, BitVec.ofNat 8 r.compartment.index] ++ signedBytes 4 r.top ++ signedBytes 4 r.bottom ++ beBytes 2 r.ceiling
  | .station r =>
    [4, BitVec.ofNat 8 r.compartment.index] ++ signedBytes 4 r.stopDepth ++ beBytes 2 r.window ++ [r.allowed]
  | .timing r => beBytes 2 r.refWatch ++ beBytes 2 r.restSpeed ++ beBytes 2 r.restTime
  | .regime r =>
    beBytes 2 r.vMax ++ beBytes 2 r.decel ++ beBytes 2 r.vCreep ++ beBytes 2 r.dCreep ++ beBytes 2 r.marginAbs
      ++ beBytes 1 r.marginPct ++ beBytes 2 r.stopDecel
  | .drum r =>
    beBytes 2 r.samplePeriod ++ beBytes 1 r.sampleWatch ++ beBytes 4 r.disagreeLimit ++ beBytes 2 r.holdLimit
      ++ beBytes 2 r.driftLimit
  | .layers r =>
    beBytes 1 r.layerCount ++ layerBytes r.layer0 ++ layerBytes r.layer1 ++ layerBytes r.layer2
      ++ layerBytes r.layer3

/-! ### Validation (R25 to R27) -/

/-- Kind, compartment and depth of an entry row, for the order check; the kind keeps the three kinds apart (R25). -/
def entryKey : Row → Option (Nat × Nat × Int)
  | .marker r => some (2, r.compartment.index, r.depth)
  | .zone r => some (3, r.compartment.index, r.top)
  | .station r => some (4, r.compartment.index, r.stopDepth)
  | _ => none

/-- The last of the earlier rows' keys that is of this kind. -/
def lastOfKind (kind : Nat) (earlier : List Row) : Option (Nat × Nat × Int) :=
  (earlier.filterMap entryKey).reverse.find? fun k => k.1 = kind

/-- ENTRY-ORDER fails at this row: it does not stand strictly after its predecessor of the same kind (R25). -/
def failsEntryOrder (earlier : List Row) (row : Row) : Bool :=
  match entryKey row with
  | none => false
  | some (kind, comp, depth) =>
    match lastOfKind kind earlier with
    | none => false
    | some (_, comp', depth') => !(decide (comp' < comp) || (decide (comp' = comp) && decide (depth' < depth)))

/-- MARKER-ID fails at this row: an earlier MARKER row carries its id (R25). -/
def failsMarkerId (earlier : List Row) (row : Row) : Bool :=
  match row with
  | .marker r => (markerRows earlier).any fun m => m.markerId = r.markerId
  | _ => false

/-- The ZONE rows of one compartment, in order. -/
def zonesOf (c : Conveyance) (rows : List Row) : List ZoneRow :=
  (zoneRows rows).filter fun z => z.compartment = c

/-- ZONE-COVER fails at this row: a zone whose top is wrong, or a compartment with no zone or whose last zone's bottom
is wrong (R25). -/
def failsZoneCover (all earlier : List Row) (row : Row) : Bool :=
  match row with
  | .compartment r =>
    match (zonesOf r.compartment all).getLast? with
    | none => true
    | some z => z.bottom ≠ r.bottomLimit
  | .zone z =>
    match (zonesOf z.compartment earlier).getLast? with
    | some before => z.top ≠ before.bottom + 1
    | none =>
      match compartmentOf all z.compartment with
      | some r => z.top ≠ r.topLimit
      | none => false
  | _ => false

/-- WITHIN-LIMITS fails at this row: a marker or station outside its compartment's limits (R25). -/
def failsWithinLimits (all : List Row) (row : Row) : Bool :=
  let outside := fun (c : Conveyance) (d : Int) =>
    match compartmentOf all c with
    | some r => decide (d < r.topLimit ∨ r.bottomLimit < d)
    | none => false
  match row with
  | .marker m => outside m.compartment m.depth
  | .station st => outside st.compartment st.stopDepth
  | _ => false

/-- A station's allowed set contains a regime (R14). -/
def StationRow.allows (st : StationRow) (r : Regime) : Bool := st.allowed.getLsbD r.index

/-- STATION-REGIME fails at this row: PERSONS at a station not of the CAGE, or ROCK at one not of the SKIP (R25). -/
def failsStationRegime (row : Row) : Bool :=
  match row with
  | .station st =>
    (st.allows .persons && decide (st.compartment ≠ .cage)) || (st.allows .rock && decide (st.compartment ≠ .skip))
  | _ => false

/-- The check of R25 that a SHAFT row fails first, if any. -/
def shaftCheck (all earlier : List Row) (row : Row) : Option Check :=
  if failsEntryOrder earlier row then some .entryOrder
  else if failsMarkerId earlier row then some .markerId
  else if failsZoneCover all earlier row then some .zoneCover
  else if failsWithinLimits all row then some .withinLimits
  else if failsStationRegime row then some .stationRegime
  else none

/-- The check of R26 that PROFILE row `n` fails first, if any. -/
def profileCheck (n : Nat) (row : Row) : Option Check :=
  match row with
  | .regime r =>
    if r.vMax < r.vCreep then some .creepMax
    else if n = 4 ∧ 2000 < r.vMax then some .inspectionMax
    else if n = 5 ∧ (1000 < r.vMax ∨ r.vMax ≠ r.vCreep) then some .recoverySpeeds
    else none
  | _ => none

/-- The layers in use (R18). -/
def LayerRow.inUse (r : LayerRow) : List Layer :=
  [r.layer0, r.layer1, r.layer2, r.layer3].take r.layerCount

/-- Start counts rise strictly from layer to layer. -/
def startsRise : List Layer → Bool
  | a :: b :: rest => decide (a.startCount < b.startCount) && startsRise (b :: rest)
  | _ => true

/-- The check of R26 that a DRUM row fails first, if any. -/
def drumCheck (row : Row) : Option Check :=
  match row with
  | .layers r =>
    if r.layer0.startCount ≠ 0 then some .layerStart
    else if !startsRise r.inUse then some .layerOrder
    else none
  | _ => none

/-- The check that row `n` of a table's shadow rows fails first, if any. -/
def rowCheck (t : TableId) (all : List Row) (n : Nat) (row : Row) : Option Check :=
  match t with
  | .shaft => shaftCheck all (all.take n) row
  | .profile => profileCheck n row
  | .drum => drumCheck row

/-- The lowest row of a table at which a check fails, with that check (R27). -/
def tableFailure (t : TableId) (rows : List Row) : Option (Nat × Check) :=
  rows.zipIdx.findSome? fun (row, n) => (rowCheck t rows n row).map fun c => (n, c)

/-- The failure validation names over the named shadow banks: SHAFT, then PROFILE, then DRUM (R27). -/
def validationFailure (named : TableSet) (s : State) : Option (TableId × Nat × Check) :=
  [TableId.shaft, .profile, .drum].findSome? fun t =>
    if named.has t then (tableFailure t (bank t s).shadow).map fun f => (t, f) else none

end Sys2Proof.Machine
end

