-- ==== Sys2Proof/Machine/Store.lean ====
section
/-! DEFINITION. Store.lean: what the Table Store does to its banks apart from the requests themselves: returning named banks
to LOADING, abandonment, the validation operation's end, the swap at a confirm (R27 to R29, R31). -/

namespace Sys2Proof.Machine

/-- A bank back in LOADING with its rows and fill count kept. -/
def Bank.toLoading (b : Bank) : Bank := { b with state := .loading }

/-- Every named bank back in LOADING, rows kept. Banks outside the set are in LOADING already (R20). -/
def closeCommitment (s : State) : State :=
  { s with
    tables.shaft := s.tables.shaft.toLoading
    tables.profile := s.tables.profile.toLoading
    tables.drum := s.tables.drum.toLoading }

/-- The last validation result written. -/
def setResult (r : ValidationResult) (s : State) : State := { s with tables.result := r }

/-- An open commitment abandoned for `reason`: no ruling, the banks back in LOADING, the result ABANDONED, VALID set.
With no commitment open, nothing (R28). -/
def abandon (reason : AbandonReason) (s : State) : State :=
  if commitmentOpen s then
    setFlag .valid (setResult (.abandoned (openSet s) reason) (closeCommitment s))
  else s

/-- Drum movement abandons an open commitment outside NO-TABLES (R29). -/
def abandonByMotion (s : State) : State :=
  if s.protection.state = .noTables then s else abandon .motion s

/-- A named bank VALIDATED. -/
def Bank.toValidated (b : Bank) : Bank :=
  if b.state = .validating then { b with state := .validated } else b

/-- The validation operation reaches its end and rules on the named banks together (R27). With no operation in
progress there is nothing to complete. -/
def completeValidation (s : State) : State :=
  if anyValidating s then
    let named := openSet s
    match validationFailure named s with
    | none =>
      setFlag .valid (setResult (.passed named)
        { s with
          tables.shaft := s.tables.shaft.toValidated
          tables.profile := s.tables.profile.toValidated
          tables.drum := s.tables.drum.toValidated })
    | some (table, row, check) =>
      setFlag .valid (setResult (.failed named table row check) (closeCommitment s))
  else s

/-- A confirmed bank: the shadow rows become the active rows, and the shadow is LOADING and empty (R31). -/
def Bank.confirmed (b : Bank) : Bank :=
  if b.state = .validated then { active := b.shadow, shadow := [], state := .loading } else b

/-- Fresh runtime records for the marker rows of some rows (R11, R31). -/
def freshRecords (rows : List Row) : List MarkerRecord :=
  (markerRows rows).map fun _ => { missCount := 0, suspect := false }

/-- The swap of a confirm in the Table Store: all VALIDATED banks together, with fresh marker records if SHAFT is one
(R31). -/
def swapBanks (s : State) : State :=
  { s with
    tables.shaft := s.tables.shaft.confirmed
    tables.profile := s.tables.profile.confirmed
    tables.drum := s.tables.drum.confirmed
    tables.markers :=
      if s.tables.shaft.state = .validated then freshRecords s.tables.shaft.shadow else s.tables.markers }

end Sys2Proof.Machine
end

