-- ==== Sys2Proof/Machine/Operands.lean ====
section
/-! DEFINITION. Operands.lean: the operands of the commands read from their bodies and parameters, in the layouts of
R172 and of the request entries (R179 to R183, R187). -/

namespace Sys2Proof.Machine

/-- A SPEED REFERENCE body; the incoming guard mark is discarded (R112, R172). -/
structure SpeedReference where
  seq : Byte
  speed : Int
deriving DecidableEq, Repr

/-- Read a SPEED REFERENCE body of its layout's length (R172). -/
def readSpeed (body : List Byte) : Option SpeedReference :=
  match body with
  | [seq, hi, lo, _] => some { seq, speed := signed 2 (be [hi, lo]) }
  | _ => none

/-- A DRUM SAMPLE body with a defined drum (R35, R172). -/
structure Sample where
  drum : Drum
  seq : Byte
  count : BitVec 32
  stamp : BitVec 16
deriving DecidableEq, Repr

/-- The drum a code names, if any (R35). -/
def Drum.ofCode : Nat → Option Drum
  | 0 => some .skip
  | 1 => some .cage
  | _ => none

/-- Read a DRUM SAMPLE body; a wrong length or an undefined drum gives none (R35, R167). -/
def readSample (body : List Byte) : Option Sample :=
  if body.length = 8 then
    (Drum.ofCode (field body 0 1)).map fun drum =>
      { drum, seq := BitVec.ofNat 8 (field body 1 1), count := BitVec.ofNat 32 (field body 2 4),
        stamp := BitVec.ofNat 16 (field body 6 2) }
  else none

/-- A MARKER EVENT body with defined values (R57, R172). -/
structure MarkerRead where
  conveyance : Conveyance
  markerId : Nat
  good : Bool
deriving DecidableEq, Repr

/-- Read a MARKER EVENT body; a wrong length, conveyance or quality gives none (R57, R167). -/
def readMarker (body : List Byte) : Option MarkerRead :=
  if body.length = 4 ∧ (field body 3 1 = 1 ∨ field body 3 1 = 2) then
    (Conveyance.ofCode (field body 0 1)).map fun conveyance =>
      { conveyance, markerId := field body 1 2, good := decide (field body 3 1 = 1) }
  else none

/-- A ROPE LOAD body with a defined conveyance, its load clamped to 60,000 (R54). -/
structure LoadReport where
  conveyance : Conveyance
  load : Nat
deriving DecidableEq, Repr

/-- Read a ROPE LOAD body; a wrong length or conveyance gives none (R54, R167). -/
def readLoad (body : List Byte) : Option LoadReport :=
  if body.length = 3 then
    (Conveyance.ofCode (field body 0 1)).map fun conveyance =>
      { conveyance, load := min (field body 1 2) 60000 }
  else none

/-- The clutch a code names, if any (R172). -/
def Clutch.ofCode : Nat → Option Clutch
  | 1 => some .engaged
  | 2 => some .disengaged
  | 3 => some .moving
  | _ => none

/-- Code of a clutch, in the INTERLOCK STATE frame and in STATUS READ (R172, R182). -/
def Clutch.code : Clutch → Nat
  | .engaged => 1
  | .disengaged => 2
  | .moving => 3

/-- Read an INTERLOCK STATE body; a wrong length, clutch or service brake gives none (R133, R167). -/
def readInterlock (body : List Byte) : Option Interlock :=
  if body.length = 6 ∧ (field body 5 1 = 1 ∨ field body 5 1 = 2) then
    (Clutch.ofCode (field body 4 1)).map fun clutch =>
      { readiness := BitVec.ofNat 32 (field body 0 4), clutch, brakeApplied := decide (field body 5 1 = 1) }
  else none

/-- A command byte other than 1 is judged as LIFT (R173). -/
def isLift (body : List Byte) : Bool := decide (field body 0 1 ≠ 1)

/-- The request kinds (R172). -/
inductive RequestKind where
  | rowLoad | rowRead | commitPrepare | commitConfirm | commitCancel
  | tripRequest | tripAbort | tripReset | restart
  | zoneInquiry | zoneHold | zoneRelease
  | statusRead | positionRead | counterRead
deriving DecidableEq, Repr

/-- The request kind a code names, if it is one of the fifteen (R172, R177). -/
def RequestKind.ofByte (b : Byte) : Option RequestKind :=
  match b.toNat with
  | 0x01 => some .rowLoad
  | 0x02 => some .rowRead
  | 0x03 => some .commitPrepare
  | 0x04 => some .commitConfirm
  | 0x05 => some .commitCancel
  | 0x06 => some .tripRequest
  | 0x07 => some .tripAbort
  | 0x08 => some .tripReset
  | 0x09 => some .restart
  | 0x0A => some .zoneInquiry
  | 0x0B => some .zoneHold
  | 0x0C => some .zoneRelease
  | 0x0D => some .statusRead
  | 0x0E => some .positionRead
  | 0x0F => some .counterRead
  | _ => none

/-- Code of a request kind (R172). -/
def RequestKind.code : RequestKind → Byte
  | .rowLoad => 0x01
  | .rowRead => 0x02
  | .commitPrepare => 0x03
  | .commitConfirm => 0x04
  | .commitCancel => 0x05
  | .tripRequest => 0x06
  | .tripAbort => 0x07
  | .tripReset => 0x08
  | .restart => 0x09
  | .zoneInquiry => 0x0A
  | .zoneHold => 0x0B
  | .zoneRelease => 0x0C
  | .statusRead => 0x0D
  | .positionRead => 0x0E
  | .counterRead => 0x0F

/-- The exact parameter length of a request kind; ROW LOAD's is judged by R21 and R174 (R177, R179 to R183, R187,
R188). -/
def RequestKind.paramLength : RequestKind → Option Nat
  | .rowLoad => none
  | .rowRead => some 3
  | .commitPrepare => some 1
  | .commitConfirm => some 0
  | .commitCancel => some 0
  | .tripRequest => some 10
  | .tripAbort => some 1
  | .tripReset => some 0
  | .restart => some 0
  | .zoneInquiry => some 2
  | .zoneHold => some 1
  | .zoneRelease => some 1
  | .statusRead => some 0
  | .positionRead => some 1
  | .counterRead => some 1

/-- The request kinds that a signal panel may use (R177). -/
def RequestKind.openToPanels : RequestKind → Bool
  | .statusRead => true
  | .positionRead => true
  | .zoneInquiry => true
  | .zoneHold => true
  | .zoneRelease => true
  | _ => false

/-- The origin may use the request kind (R177). -/
def originMayUse (origin : Byte) (k : RequestKind) : Bool :=
  decide (origin.toNat = 1) || (decide (2 ≤ origin.toNat ∧ origin.toNat ≤ 15) && k.openToPanels)

/-- The parameters of a TRIP REQUEST as they stand, unjudged (R180). -/
structure TripParams where
  tag : Byte
  kind : Nat
  lead : Nat
  regime : Nat
  station : Nat
  direction : Nat
  travel : Nat
deriving DecidableEq, Repr

/-- Read the ten parameter bytes of a TRIP REQUEST (R180). -/
def readTripParams (p : List Byte) : TripParams :=
  { tag := p.getD 0 0, kind := field p 1 1, lead := field p 2 1, regime := field p 3 1, station := field p 4 1,
    direction := field p 5 1, travel := field p 6 4 }

/-- The table set a byte names; bits above bit 2 and the empty set name none (R23, R179). -/
def readTableSet (b : Byte) : Option TableSet :=
  if b = 0 ∨ 8 ≤ b.toNat then none
  else some { shaft := b.getLsbD 0, profile := b.getLsbD 1, drum := b.getLsbD 2 }

end Sys2Proof.Machine
end

