-- ==== Sys2Proof/Machine/Geometry.lean ====
section
/-! DEFINITION. Geometry.lean: depths, stretch, directions, bodies and zones, and a trip's distance to its target: the
arithmetic that the trackers, the pipeline, the Zone Map and the Envelope Unit share (R7, R8, R53, R68, R73, R79). -/

namespace Sys2Proof.Machine

/-! ### Depth and stretch (R8, R53, R55) -/

/-- Whole millimetres of a fine value, rounded toward minus infinity (00_scope, "Fine position"). -/
def mm (fine : Int) : Int := fine / (Config.fineUnits : Int)

/-- Base depth in fine units, from the offset and the drum's payout (R53). -/
def baseDepth (c : Conveyance) (offset payout : Int) : Int :=
  match c with
  | .skip => offset - payout
  | .cage => offset + payout
  | .counterweight => offset - payout

/-- The offset that gives a base depth with the payout as it stands (R58). -/
def offsetFor (c : Conveyance) (base payout : Int) : Int :=
  match c with
  | .skip => base + payout
  | .cage => base - payout
  | .counterweight => base + payout

/-- Hanging length in whole metres; a negative result is taken as 0 (R8). -/
def hangingLength (sheaveHeight : Nat) (baseMm : Int) : Nat := ((baseMm + sheaveHeight) / 1000).toNat

/-- Stretch in mm at a base depth, under a load (R8). -/
def stretchAt (row : CompartmentRow) (load : Nat) (baseMm : Int) : Nat :=
  hangingLength row.sheaveHeight baseMm * load * row.compliance / 1000000

/-- A tracker's base depth, stretch and reported depth computed afresh; with no SHAFT table the stretch is 0 (R55). -/
def Tracker.recomputed (t : Tracker) (c : Conveyance) (row : Option CompartmentRow) (payout : Int) : Tracker :=
  let baseFine := baseDepth c t.offset payout
  let stretch := match row with
    | some r => stretchAt r t.load (mm baseFine)
    | none => 0
  { t with baseFine, stretch, reported := mm baseFine + stretch }

/-! ### Directions (R53, R73) -/

/-- Direction of motion of a conveyance under a drum sense (R53). -/
def directionUnder (c : Conveyance) : Sense → Direction
  | .none => .none
  | .forward => match c with
    | .skip => .up
    | .cage => .down
    | .counterweight => .up
  | .reverse => match c with
    | .skip => .down
    | .cage => .up
    | .counterweight => .down

/-- The sense of a trip's drum direction. -/
def DrumDirection.sense : DrumDirection → Sense
  | .forward => .forward
  | .reverse => .reverse

/-- Trip direction of a conveyance: it goes DOWN in a trip of this drum direction (R73). -/
def goesDown (c : Conveyance) (d : DrumDirection) : Bool := directionUnder c d.sense = .down

/-- The lead as a conveyance. -/
def Lead.conveyance : Lead → Conveyance
  | .skip => .skip
  | .cage => .cage

/-- The lead's drum. -/
def Lead.drum : Lead → Drum
  | .skip => .skip
  | .cage => .cage

/-- A conveyance is of a trip's moving set: all three, or the skip alone (R72, R73). -/
def inMovingSet (movesAll : Bool) (c : Conveyance) : Bool := movesAll || decide (c = .skip)

/-- A drum is one of a trip's moving drums (R73). -/
def isMovingDrum (movesAll : Bool) (d : Drum) : Bool := movesAll || decide (d = .skip)

/-- The drum direction that takes a lead from a start to a stop depth, or `kept` where they are equal (R73, R84). -/
def directionToward (lead : Lead) (start stop : Int) (kept : DrumDirection) : DrumDirection :=
  if start < stop then
    match lead with
    | .skip => .reverse
    | .cage => .forward
  else if stop < start then
    match lead with
    | .skip => .forward
    | .cage => .reverse
  else kept

/-- A depth moved by a length in a trip's direction: deeper going DOWN, shallower going UP (R77). -/
def movedBy (c : Conveyance) (d : DrumDirection) (depth length : Int) : Int :=
  if goesDown c d then depth + length else depth - length

/-! ### Bodies and zones (R7, R68) -/

/-- Two closed intervals share at least one depth. -/
def meets (lo hi top bottom : Int) : Bool := decide (lo ≤ bottom ∧ top ≤ hi)

/-- Indices of the zones, of all those of the table, for which a test holds. -/
def zonesWhere (zones : List ZoneRow) (test : ZoneRow → Bool) : List Nat :=
  (zones.zipIdx.filter fun z => test z.1).map Prod.snd

/-- The zones a conveyance's body meets: those it occupies (R68). -/
def bodyZones (zones : List ZoneRow) (c : Conveyance) (row : CompartmentRow) (reported : Int) : List Nat :=
  zonesWhere zones fun z =>
    decide (z.compartment = c) && meets (reported - row.bodyAbove) (reported + row.bodyBelow) z.top z.bottom

/-- What a tracker hands the Zone Map: UNKNOWN, a run, or NONE (R68, R147). -/
def occupancyOf (c : Conveyance) (s : State) : Occupancy :=
  let t := tracker c s
  match t.datumed, compartmentRow c s with
  | true, some row =>
    match bodyZones (zoneList s) c row t.reported with
    | [] => .none
    | z :: rest => .run z ((z :: rest).getLastD z)
  | _, _ => .unknown

/-! ### A trip's target (R79) -/

/-- The stop depth of a trip's station, if it is a STATION trip and the station exists. -/
def stopDepthOf (t : Trip) (s : State) : Option Int :=
  match t.kind with
  | .station k => (stations s)[k]?.map (·.stopDepth)
  | .travel _ => none

/-- The `window` of a trip's station, if it is a STATION trip and the station exists. -/
def windowOf (t : Trip) (s : State) : Option Nat :=
  match t.kind with
  | .station k => (stations s)[k]?.map (·.window)
  | .travel _ => none

/-- Travel done since the trip entered the ACTIVE slot, in mm rounded toward minus infinity (R79). -/
def travelDone (t : Trip) (s : State) : Int :=
  let payout := (channel t.lead.drum s).payout
  let origin := t.payoutOrigin.getD payout
  match t.direction with
  | .forward => mm (payout - origin)
  | .reverse => mm (origin - payout)

/-- The lead's distance to its target, positive while the target lies ahead (R79). -/
def distanceToTarget (t : Trip) (s : State) : Int :=
  match t.kind with
  | .travel length => length - travelDone t s
  | .station _ =>
    let reported := (tracker t.lead.conveyance s).reported
    let stop := (stopDepthOf t s).getD reported
    if goesDown t.lead.conveyance t.direction then stop - reported else reported - stop

end Sys2Proof.Machine
end

