-- ==== Sys2Proof/Machine/Speed.lean ====
section
/-! DEFINITION. Speed.lean: the Envelope Unit's arithmetic: constraints, envelopes, P and the overspeed thresholds (R97 to
R107). -/

namespace Sys2Proof.Machine

/-- Bits of a root found from bit `k` − 1 down, on top of `root`. -/
def isqrtFrom (n : Nat) : Nat → Nat → Nat
  | 0, root => root
  | k + 1, root => if (root + 2 ^ k) * (root + 2 ^ k) ≤ n then isqrtFrom n k (root + 2 ^ k) else isqrtFrom n k root

/-- The largest integer whose square does not exceed `n` (R102). -/
def isqrt (n : Nat) : Nat := isqrtFrom n (n.log2 / 2 + 1) 0

/-- The conveyance is the lead of the trip. -/
def isLead (t : Trip) (c : Conveyance) : Bool := decide (t.lead.conveyance = c)

/-- Leading edge of a conveyance in its trip direction (R98). -/
def leadingEdge (row : CompartmentRow) (down : Bool) (reported : Int) : Int :=
  if down then reported + row.bodyBelow else reported - row.bodyAbove

/-- Distance to the target point: the lead's of R79, a follower's to its travel limit (R98). -/
def targetDistance (t : Trip) (c : Conveyance) (row : CompartmentRow) (s : State) : Int :=
  if isLead t c then distanceToTarget t s
  else if goesDown c t.direction then row.bottomLimit - (tracker c s).reported
  else (tracker c s).reported - row.topLimit

/-- The target constraint at a distance (R100). -/
def targetConstraint (r : RegimeRow) (d : Int) : Nat :=
  if d ≤ 0 then 0
  else if d ≤ r.dCreep then r.vCreep
  else isqrt (r.vCreep ^ 2 + 2 * r.decel * (d - r.dCreep).toNat)

/-- The present-zone constraints: the ceilings of the zones the body meets (R99). -/
def presentCeilings (zones : List ZoneRow) (c : Conveyance) (row : CompartmentRow) (reported : Int) : List Nat :=
  (zones.filter fun z =>
    decide (z.compartment = c) && meets (reported - row.bodyAbove) (reported + row.bodyBelow) z.top z.bottom).map
    (·.ceiling)

/-- Distance from the leading edge to a zone's near boundary (R101). -/
def zoneDistance (down : Bool) (edge : Int) (z : ZoneRow) : Int :=
  if down then z.top - edge else edge - z.bottom

/-- The zone-ahead constraints of the zones with 0 < d_z ≤ d (R101). -/
def aheadConstraints (zones : List ZoneRow) (c : Conveyance) (r : RegimeRow) (down : Bool) (edge d : Int) : List Nat :=
  (zones.filter fun z =>
    decide (z.compartment = c) && decide (0 < zoneDistance down edge z ∧ zoneDistance down edge z ≤ d)).map fun z =>
      isqrt (z.ceiling ^ 2 + 2 * r.decel * (zoneDistance down edge z).toNat)

/-- The constraints of an evaluated conveyance beside its regime's ceiling: which apply depends on its role and its
datum state (R103). -/
def constraints (t : Trip) (c : Conveyance) (r : RegimeRow) (row : CompartmentRow) (s : State) : List Nat :=
  let tr := tracker c s
  let down := goesDown c t.direction
  let d := targetDistance t c row s
  if tr.datumed then
    presentCeilings (zoneList s) c row tr.reported ++ [targetConstraint r d]
      ++ aheadConstraints (zoneList s) c r down (leadingEdge row down tr.reported) d
  else if isLead t c then [targetConstraint r d]
  else []

/-- The least of a number and some others. -/
def least (n : Nat) (others : List Nat) : Nat := others.foldl min n

/-- Envelope of an evaluated conveyance: the least of the constraints that apply (R103). -/
def envelopeOf (t : Trip) (c : Conveyance) (r : RegimeRow) (row : CompartmentRow) (s : State) : Nat :=
  least r.vMax (constraints t c r row s)

/-- Overspeed threshold of an envelope (R105). -/
def thresholdOf (r : RegimeRow) (envelope : Nat) : Nat :=
  envelope + max r.marginAbs (envelope * r.marginPct / 100)

/-- The Envelope Unit with nothing evaluated: P 0, no envelope, no threshold (R104). -/
def noEnvelope : Envelope :=
  { permitted := 0, envelopes := .of fun _ => none, thresholds := .of fun _ => none }

/-- The envelope of each conveyance the trip moves (R97). -/
def envelopesFor (t : Trip) (r : RegimeRow) (s : State) : PerConveyance (Option Nat) :=
  .of fun c =>
    if inMovingSet t.movesAll c then (compartmentRow c s).map fun row => envelopeOf t c r row s else none

/-- The envelopes that are present. -/
def presentEnvelopes (e : PerConveyance (Option Nat)) : List Nat :=
  [e.skip, e.cage, e.counterweight].filterMap id

/-- P from the envelopes present: their least (R104). -/
def leastOf : List Nat → Nat
  | [] => 0
  | n :: rest => least n rest

/-- One computation, from every input as it stands: P, the envelopes and the thresholds together (R96, R104, R107). -/
def computeEnvelope (s : State) : Envelope :=
  if s.protection.state = .noTables ∨ s.protection.state = .tripped then noEnvelope
  else
    match s.pipeline.active with
    | none => noEnvelope
    | some t =>
      match regimeRow t.regime s with
      | none => noEnvelope
      | some r =>
        let envelopes := envelopesFor t r s
        { permitted := leastOf (presentEnvelopes envelopes)
          envelopes
          thresholds := .of fun c => (envelopes.get c).map (thresholdOf r) }

/-- The Envelope Unit computes afresh (R107). -/
def recomputeSpeed (s : State) : State := { s with envelope := computeEnvelope s }

/-- The lowest threshold that applies to a drum (R106). -/
def drumThreshold (d : Drum) (e : Envelope) : Option Nat :=
  match d with
  | .skip => e.thresholds.skip
  | .cage =>
    match e.thresholds.cage, e.thresholds.counterweight with
    | some a, some b => some (min a b)
    | some a, none => some a
    | none, b => b

/-- A drum's rope speed is greater than the lowest threshold that applies to it (R106). -/
def overspeeds (d : Drum) (s : State) : Bool :=
  match drumThreshold d s.envelope with
  | some limit => decide (limit < (channel d s).speed)
  | none => false

end Sys2Proof.Machine
end

