-- ==== Sys2Proof/Machine/Guard.lean ====
section
/-! DEFINITION. Guard.lean: the Reference Guard: the downstream queue, the judging of references, the gates, the reference
watch and the controlled stop's record (R112 to R122). -/

namespace Sys2Proof.Machine

/-! ### The downstream queue (R113 to R115) -/

/-- Write the downstream queue. -/
def setDownQueue (q : List DownFrame) (s : State) : State := { s with guard.queue := q }

/-- A frame lost at a full downstream queue, or displaced: dropped-down and DROP (R113 to R115). -/
def loseDown (s : State) : State := setFlag .drop (count .droppedDown s)

/-- A frame appended at the tail, or dropped at a full queue (R114). -/
def appendDown (f : DownFrame) (s : State) : State :=
  if s.guard.queue.length < Config.downQueuePlaces then setDownQueue (s.guard.queue ++ [f]) s else loseDown s

/-- A frame of the queue that is a speed reference. -/
def DownFrame.isReference (f : DownFrame) : Bool := f.source.isSome

/-- A frame of the queue that is a BRAKE DEMAND. -/
def DownFrame.isDemand (f : DownFrame) : Bool := decide (classOf f.frame.cls = .brakeDemand)

/-- The waiting reference replaced in place (R113). -/
def replaceReference (f : DownFrame) (q : List DownFrame) : List DownFrame :=
  q.map fun g => if g.isReference then f else g

/-- The coalescing rule: a waiting reference is replaced in place, and counted as superseded; otherwise the reference
joins the tail or is dropped at a full queue (R113). -/
def coalesce (f : DownFrame) (s : State) : State :=
  if s.guard.queue.any DownFrame.isReference then
    count .superseded (setDownQueue (replaceReference f s.guard.queue) s)
  else appendDown f s

/-- A BRAKE DEMAND placed at the head, absorbed by one that waits, or placed after the tail frame is displaced
(R115). -/
def placeDemand (f : Frame) (s : State) : State :=
  let d : DownFrame := { frame := f, source := none }
  if s.guard.queue.any DownFrame.isDemand then s
  else if s.guard.queue.length < Config.downQueuePlaces then setDownQueue (d :: s.guard.queue) s
  else setDownQueue (d :: s.guard.queue.dropLast) (loseDown s)

/-- The Protection Controller's own brake demand: origin 240, target 0, empty body (R115, R136). -/
def partDemand : Frame := makeFrame (classCode .brakeDemand) Config.partStation 0 []

/-! ### Judging a reference (R112, R117) -/

/-- A magnitude above 20,000 is taken as 20,000 with its sign (R112). -/
def limitMagnitude (speed : Int) : Int := max (-(Config.maxSpeed : Int)) (min speed Config.maxSpeed)

/-- A reference opposite to an active trip's drum direction is set to 0 (R112, R117). -/
def zeroAgainst (active : Option Trip) (speed : Int) : Int :=
  match active with
  | none => speed
  | some t =>
    match t.direction with
    | .forward => if speed < 0 then 0 else speed
    | .reverse => if 0 < speed then 0 else speed

/-- A magnitude above P is set to P with its sign kept (R112, R117). -/
def clampTo (p : Nat) (speed : Int) : Int := max (-(p : Int)) (min speed p)

/-- The second and third steps of the judgement: against the trip's direction, then against P (R112, R117). -/
def guarded (speed : Int) (s : State) : Int :=
  clampTo s.envelope.permitted (zeroAgainst s.pipeline.active speed)

/-- Code of the guard mark (R172). -/
def markCode (clamped : Bool) : Byte := if clamped then 1 else 0

/-- A reference marked CLAMPED is counted and flagged (R112, R117). -/
def noteClamped (clamped : Bool) (s : State) : State :=
  if clamped then setFlag .clamp (count .clamped s) else s

/-- The active trip is STOPPING: a controlled stop runs (R112). -/
def stopRuns (s : State) : Bool := decide (s.pipeline.active.map (·.state) = some TripState.stopping)

/-- The active trip is RUNNING or CREEPING, so that the reference watch runs (R120). -/
def watchRuns (s : State) : Bool :=
  decide (s.pipeline.active.map (·.state) = some TripState.running
    ∨ s.pipeline.active.map (·.state) = some TripState.creeping)

/-- The reference watch started or restarted, with `ref_watch` of the active PROFILE bank (R120). -/
def startWatch (s : State) : State :=
  { s with guard.watch := (timingRow s).bind fun r => startTimer r.refWatch }

/-- The reference watch stopped (R120). -/
def stopWatch (s : State) : State := { s with guard.watch := none }

/-- A reference from station 1 restarts the watch while the trip is RUNNING or CREEPING (R120). -/
def noteReference (origin : Byte) (s : State) : State :=
  if origin = Config.controllerStation ∧ watchRuns s then startWatch s else s

/-- A SPEED REFERENCE taken from the C-link: dropped in a controlled stop, else judged and coalesced (R112, R113). -/
def guardReference (f : Frame) (ref : SpeedReference) (s : State) : State :=
  let s := noteReference f.origin s
  if stopRuns s then count .superseded s
  else
    let taken := limitMagnitude ref.speed
    let speed := guarded taken s
    let clamped := decide (speed ≠ taken)
    let out := makeFrame f.cls f.origin f.target (speedBody ref.seq speed (markCode clamped))
    coalesce { frame := out, source := some .controller } (noteClamped clamped s)

/-! ### Gates (R118, R119) -/

/-- A lift is blocked in NO-TABLES and TRIPPED (R118). -/
def liftBlocked (s : State) : Bool :=
  decide (s.protection.state = .noTables ∨ s.protection.state = .tripped)

/-- A clutch command passes only in UNDATUMED or ARMED, with the ACTIVE slot empty and the winder at rest (R119). -/
def clutchPasses (s : State) : Bool :=
  decide (s.protection.state = .undatumed ∨ s.protection.state = .armed) && s.pipeline.active.isNone && winderAtRest s

/-- The gates of BRAKE COMMAND and CLUTCH COMMAND block this frame now (R118, R119). -/
def blockedNow (f : Frame) (s : State) : Bool :=
  match classOf f.cls with
  | .brakeCommand => isLift f.body && liftBlocked s
  | .clutchCommand => !clutchPasses s
  | _ => false

/-- A command blocked: dropped, counted and flagged (R118, R119). -/
def blockCommand (s : State) : State := setFlag .drop (count .blocked s)

/-- A gated command taken from the C-link (R118, R119). -/
def gateCommand (f : Frame) (s : State) : State :=
  if blockedNow f s then blockCommand s else appendDown { frame := f, source := none } s

/-! ### Transmission on the D-link (R116, R117) -/

/-- The reference recorded as the last forwarded one: its magnitude as sent, its `seq` and its target (R117). -/
def recordForwarded (f : Frame) (s : State) : State :=
  match readSpeed f.body with
  | some ref => { s with guard.lastRef := { magnitude := ref.speed.natAbs, seq := ref.seq, target := f.target } }
  | none => s

/-- The check at a reference's transmission start: the frame as sent, and the state with the clamp noted (R117). -/
def recheckReference (f : DownFrame) (s : State) : Frame × State :=
  match f.source, readSpeed f.frame.body with
  | some source, some ref =>
    let speed := guarded ref.speed s
    if speed = ref.speed then (f.frame, s)
    else
      match source with
      | .controller =>
        (makeFrame f.frame.cls f.frame.origin f.frame.target (speedBody ref.seq speed 1), noteClamped true s)
      | .substitute => (makeFrame f.frame.cls f.frame.origin f.frame.target (speedBody ref.seq speed 2), s)
  | _, _ => (f.frame, s)

/-- A frame that passed its gate begins its transmission, with the rest of the queue behind it (R116, R117). -/
def beginTransmission (f : DownFrame) (rest : List DownFrame) (s : State) : State :=
  let sent := recheckReference f s
  let s := { sent.2 with guard.queue := rest, guard.transmitter := .sending sent.1 }
  if f.isReference then recordForwarded sent.1 s else s

/-- The transmitter takes the head frame; a frame that fails its gate is not sent, and the next is taken at once; with
no frame left it is idle (R116). -/
def takeNext : List DownFrame → State → State
  | [], s => { s with guard.queue := [], guard.transmitter := .idle }
  | f :: rest, s => if blockedNow f.frame s then takeNext rest (blockCommand s) else beginTransmission f rest s

/-! ### The controlled stop (R121, R122) -/

/-- Length of the stop deadline in ms (R121). -/
def deadlineMs (v stopDecel : Nat) : Nat := v * 1000 / stopDecel + 2000

/-- The controller's waiting reference is removed and counted as superseded (R121). -/
def removeWaitingReference (s : State) : State :=
  if s.guard.queue.any fun f => decide (f.source = some .controller) then
    count .superseded (setDownQueue (s.guard.queue.filter fun f => decide (f.source ≠ some .controller)) s)
  else s

/-- The guard begins a controlled stop for a trip (R121). -/
def beginStop (t : Trip) (s : State) : State :=
  let s := removeWaitingReference (stopWatch s)
  match regimeRow t.regime s with
  | none => s
  | some r =>
    let v := s.guard.lastRef.magnitude
    let record : StopRecord :=
      { startSpeed := v, rampValue := v * 1000000, rampSpeed := v, overRun := 0,
        deadline := { lengthMs := deadlineMs v r.stopDecel, runUs := 0 },
        forward := decide (t.direction = .forward) }
    { s with guard.stop := some record }

/-- The stop record one ramp step on: the ramp falls by `stop_decel` × Δt, and the over-speed run is judged against
the ramp speed plus `margin_abs` (R122, R123). -/
def StopRecord.stepped (r : StopRecord) (regime : RegimeRow) (dt speed : Nat) : StopRecord :=
  let rampValue := r.rampValue - regime.stopDecel * dt
  let rampSpeed := rampValue / 1000000
  { r with
    rampValue := rampValue
    rampSpeed := rampSpeed
    overRun := if rampSpeed + regime.marginAbs < speed then min (r.overRun + 1) 3 else 0 }

/-- The substitute reference of a ramp step: the lesser of the ramp speed and P, with the stop's sign (R122). -/
def substituteFrame (r : StopRecord) (s : State) : Frame :=
  let magnitude : Int := (min r.rampSpeed s.envelope.permitted : Nat)
  makeFrame (classCode .speedReference) Config.partStation s.guard.lastRef.target
    (speedBody (s.guard.lastRef.seq + 1) (if r.forward then magnitude else -magnitude) 2)

end Sys2Proof.Machine
end

