-- ==== Sys2Proof/Machine/Zones.lean ====
section
/-! DEFINITION. Zones.lean: the Zone Map: holders, summaries, what the trackers and the pipeline hand it, and the release
watch list (R146 to R149, R154, R155). -/

namespace Sys2Proof.Machine

/-- The zone exists in the active SHAFT bank (R146). -/
def zoneExists (z : Nat) (s : State) : Bool := decide (z < (zoneList s).length)

/-- Holder of a zone, if any. -/
def holderOf (z : Nat) (s : State) : Option Byte := (s.zones.holders[z]?).join

/-- Write a zone's holder. -/
def setHolder (z : Nat) (h : Option Byte) (s : State) : State :=
  { s with zones.holders := s.zones.holders.set z h }

/-- Occupancy of a zone's compartment, UNKNOWN for a zone that does not exist. -/
def zoneOccupancy (z : Nat) (s : State) : Occupancy :=
  match (zoneList s)[z]? with
  | some row => s.zones.occupancy.get row.compartment
  | none => .unknown

/-- A zone's index lies in an occupancy's run (R147). -/
def Occupancy.covers (o : Occupancy) (z : Nat) : Bool :=
  match o with
  | .run lo hi => decide (lo ≤ z ∧ z ≤ hi)
  | _ => false

/-- Summary of a zone: the first of R149's facts that applies. -/
def summaryOf (z : Nat) (s : State) : Summary :=
  let o := zoneOccupancy z s
  if o = .unknown then .unknown
  else if o.covers z then .occupied
  else if z ∈ s.zones.activeSwept then .plannedActive
  else if z ∈ s.zones.waitingSwept then .plannedWaiting
  else if (holderOf z s).isSome then .held
  else .clear

/-- Code of a summary: its position in the list of R149 (R178). -/
def Summary.code : Summary → Byte
  | .unknown => 0
  | .occupied => 1
  | .plannedActive => 2
  | .plannedWaiting => 3
  | .held => 4
  | .clear => 5

/-- A watch entry on a zone of this summary stays in the list (R155). -/
def Summary.staysWatched : Summary → Bool
  | .occupied => true
  | .plannedActive => true
  | .plannedWaiting => true
  | _ => false

/-- The ZONE CLEAR notice of a watch entry (R155, R171, R185). -/
def zoneClearNotice (e : WatchEntry) (s : State) : Frame :=
  makeFrame (classCode .notice) Config.partStation e.station
    [2, BitVec.ofNat 8 e.zone, (summaryOf e.zone s).code, (holderOf e.zone s).getD 0]

/-- The Zone Map judges its watch list: the entries that came due leave it, each with its notice, oldest first (R155). -/
def judgeWatchList (s : State) : State :=
  let stays := fun (e : WatchEntry) => (summaryOf e.zone s).staysWatched
  let due := s.zones.watchList.filter fun e => !stays e
  due.foldl (fun s e => offerUp .part (zoneClearNotice e s) s)
    { s with zones.watchList := s.zones.watchList.filter stays }

/-- The swept set of a slot; an empty slot hands an empty set (R148). -/
def sweptOf (t : Option Trip) : List Nat :=
  match t with
  | some t => t.swept
  | none => []

/-- The Zone Map takes what the trackers and the pipeline hand on (R147, R148). -/
def takeHandOn (s : State) : State :=
  { s with
    zones.occupancy := .of fun c => occupancyOf c s
    zones.activeSwept := sweptOf s.pipeline.active
    zones.waitingSwept := sweptOf s.pipeline.waiting
    zones.activeState := s.pipeline.active.map (·.state) }

/-- The hand-on to the Zone Map taken whole, then the watch list judged once (R148, R155). -/
def handOnZones (s : State) : State := judgeWatchList (takeHandOn s)

/-- The watch list holds an entry of this zone and station (R154). -/
def isWatched (e : WatchEntry) (s : State) : Bool := decide (e ∈ s.zones.watchList)

/-- An entry asked for: `true` with the list that holds it, or `false` at four entries (R154). -/
def addWatch (e : WatchEntry) (s : State) : State × Bool :=
  if isWatched e s then (s, true)
  else if s.zones.watchList.length < Config.watchListPlaces then
    ({ s with zones.watchList := s.zones.watchList ++ [e] }, true)
  else (s, false)

end Sys2Proof.Machine
end

