-- ==== Sys2Proof/Machine/Trips.lean ====
section
/-! DEFINITION. Trips.lean: the Trip Pipeline: plans and swept sets, state changes, finishes, promotion, the controlled
stop's entry, and what drum movement, rest, a lost channel and a datum do to the active trip (R72 to R94). -/

namespace Sys2Proof.Machine

/-! ### Plans (R76 to R78) -/

/-- The present reported depth of each DATUMED conveyance of the moving set; absent for the others (R76, R84). -/
def presentStarts (movesAll : Bool) (s : State) : PerConveyance (Option Int) :=
  .of fun c =>
    if inMovingSet movesAll c ∧ (tracker c s).datumed then some (tracker c s).reported else none

/-- Rope travel of a trip in mm: from the lead's planned start to the stop, or `travel` (R77). -/
def ropeTravel (t : Trip) (s : State) : Int :=
  match t.kind with
  | .travel length => length
  | .station _ =>
    match t.starts.get t.lead.conveyance, stopDepthOf t s with
    | some start, some stop => (stop - start).natAbs
    | _, _ => 0

/-- Planned end of a conveyance from its planned start (R77). -/
def plannedEnd (t : Trip) (c : Conveyance) (start : Int) (s : State) : Int :=
  match isLead t c, stopDepthOf t s with
  | true, some stop => stop
  | _, _ => movedBy c t.direction start (ropeTravel t s)

/-- The planned ends of a trip (R77). -/
def plannedEnds (t : Trip) (s : State) : PerConveyance (Option Int) :=
  .of fun c => (t.starts.get c).map fun start => plannedEnd t c start s

/-- `follower_margin` of the active SHAFT table (R5). -/
def followerMargin (s : State) : Nat :=
  match shaftRow s with
  | some r => r.followerMargin
  | none => 0

/-- The claimed interval of a conveyance between two depths: the body at both, extended for a follower at its far end
(R78). -/
def claimedInterval (t : Trip) (c : Conveyance) (row : CompartmentRow) (start finish : Int) (s : State) : Int × Int :=
  let margin : Nat := if isLead t c then 0 else followerMargin s
  let lo := min start finish - row.bodyAbove
  let hi := max start finish + row.bodyBelow
  if goesDown c t.direction then (lo, hi + margin) else (lo - margin, hi)

/-- A zone lies in the claimed interval of its compartment's conveyance (R78). -/
def claimsZone (t : Trip) (starts ends : PerConveyance (Option Int)) (z : ZoneRow) (s : State) : Bool :=
  match starts.get z.compartment, ends.get z.compartment, compartmentRow z.compartment s with
  | some start, some finish, some row =>
    let i := claimedInterval t z.compartment row start finish s
    meets i.1 i.2 z.top z.bottom
  | _, _, _ => false

/-- The swept set of a trip with these planned starts and ends, each zone index once (R78). -/
def sweptSet (t : Trip) (starts ends : PerConveyance (Option Int)) (s : State) : List Nat :=
  zonesWhere (zoneList s) fun z => claimsZone t starts ends z s

/-- A trip with its planned ends and swept set computed from its planned starts (R77, R78). -/
def planned (t : Trip) (s : State) : Trip :=
  let ends := plannedEnds t s
  { t with ends, swept := sweptSet t t.starts ends s }

/-- The held zones that keep a trip out, lowest first: those of its swept set, and those in the compartment of an
UNDATUMED conveyance it moves (R75, R84). -/
def heldAgainst (t : Trip) (s : State) : List Nat :=
  ((zoneList s).zipIdx.filter fun (z, i) =>
    (holderOf i s).isSome &&
      (decide (i ∈ t.swept) || (inMovingSet t.movesAll z.compartment && !(tracker z.compartment s).datumed))).map
    Prod.snd

/-! ### Slots, states and finishes -/

/-- Write the ACTIVE slot. -/
def setActive (t : Option Trip) (s : State) : State := { s with pipeline.active := t }

/-- Write the WAITING slot. -/
def setWaiting (t : Option Trip) (s : State) : State := { s with pipeline.waiting := t }

/-- What the reference watch makes of a change of the active trip's state (R120). -/
def watchOn (old new : TripState) (s : State) : State :=
  match new with
  | .running => startWatch s
  | .creeping => if old = .settling then startWatch s else s
  | .settling => stopWatch s
  | .stopping => stopWatch s
  | _ => s

/-- The active trip comes to a state (R80 to R82, R86), with the watch's part (R120). -/
def enterState (new : TripState) (s : State) : State :=
  match s.pipeline.active with
  | none => s
  | some t => watchOn t.state new (setActive (some { t with state := new }) s)

/-- The history record of a trip that finishes now (R94). -/
def historyRecord (t : Trip) (outcome : TripOutcome) (cause : Option TripCause) (s : State) : HistoryRecord :=
  let finalDepth := (tracker t.lead.conveyance s).reported
  { tag := t.tag
    travel := match t.kind with
      | .travel _ => true
      | .station _ => false
    lead := t.lead, regime := t.regime, outcome, cause, finalDepth
    deviation := (stopDepthOf t s).map fun stop => finalDepth - stop }

/-- A finished trip's record placed at the head of the history, and FINISH set (R93, R94). -/
def placeRecord (r : HistoryRecord) (s : State) : State :=
  setFlag .finish { s with pipeline.history := (r :: s.pipeline.history).take Config.historyRecords }

/-- The stop record and its deadline removed (R125). -/
def endStop (s : State) : State := { s with guard.stop := none }

/-- The active trip, if any, finishes: its slot is emptied, the watch stops, a controlled stop ends, and its record
goes to the history (R83, R94, R120, R125). -/
def finishActive (outcome : TripOutcome) (cause : Option TripCause) (s : State) : State :=
  match s.pipeline.active with
  | none => s
  | some t => placeRecord (historyRecord t outcome cause s) (endStop (stopWatch (setActive none s)))

/-- The waiting trip, if any, finishes (R83, R85, R90, R94, R153). -/
def finishWaiting (outcome : TripOutcome) (cause : Option TripCause) (s : State) : State :=
  match s.pipeline.waiting with
  | none => s
  | some t => placeRecord (historyRecord t outcome cause s) (setWaiting none s)

/-- The active trip finishes and the trip behind it is DISCARDED (R83, R85, R88 to R90, R153). -/
def finishBoth (outcome : TripOutcome) (cause : Option TripCause) (s : State) : State :=
  finishWaiting .discarded none (finishActive outcome cause s)

/-- Every moving drum of a trip is at rest (R83). -/
def movingDrumsAtRest (t : Trip) (s : State) : Bool :=
  s.drums.skip.atRest && (!t.movesAll || s.drums.cage.atRest)

/-- The lead stands within its station's `window` (R83, R84). -/
def withinWindow (t : Trip) (s : State) : Bool :=
  match stopDepthOf t s, windowOf t s with
  | some stop, some window => decide (((tracker t.lead.conveyance s).reported - stop).natAbs ≤ window)
  | _, _ => false

/-! ### Promotion (R84) -/

/-- The waiting trip re-based for the ACTIVE slot (R84). -/
def rebased (t : Trip) (s : State) : Trip :=
  let starts := presentStarts t.movesAll s
  let direction :=
    match starts.get t.lead.conveyance, stopDepthOf t s with
    | some start, some stop => directionToward t.lead start stop t.direction
    | _, _ => t.direction
  planned { t with
    starts := starts
    direction := direction
    state := .waiting
    payoutOrigin := some (channel t.lead.drum s).payout } s

/-- The waiting trip, if any, is promoted: re-based, then DISCARDED for a hold, LANDED if already there, or left in
WAITING (R84). -/
def promote (s : State) : State :=
  match s.pipeline.waiting with
  | none => s
  | some t =>
    let t := rebased t s
    let s := setActive (some t) (setWaiting none s)
    if heldAgainst t s ≠ [] then finishActive .discarded (some .held) s
    else if withinWindow t s then finishActive .landed none s
    else s

/-- Outcome of a trip that finishes from SETTLING (R83). -/
def settledOutcome (t : Trip) (s : State) : TripOutcome :=
  match t.kind with
  | .travel _ => .completed
  | .station _ => if withinWindow t s then .landed else .offStation

/-- The last at-rest flag among the moving drums finishes a trip in SETTLING or STOPPING (R83, R84). -/
def finishAtRest (s : State) : State :=
  match s.pipeline.active with
  | none => s
  | some t =>
    if movingDrumsAtRest t s then
      match t.state with
      | .settling =>
        match settledOutcome t s with
        | .offStation => finishBoth .offStation none s
        | outcome => promote (finishActive outcome none s)
      | .stopping => finishBoth .aborted t.cause s
      | _ => s
    else s

/-! ### Stopping (R86, R121) -/

/-- The active trip enters STOPPING: cause recorded, the waiting trip DISCARDED, STOP set, and the controlled stop
begun, unless every moving drum is at rest already, when it finishes ABORTED at once, its record ahead of the waiting
trip's (R83, R86, R94, R121). -/
def enterStopping (cause : TripCause) (s : State) : State :=
  match s.pipeline.active with
  | none => s
  | some t =>
    let s := setActive (some { t with cause := some cause }) s
    if movingDrumsAtRest t s then finishBoth .aborted (some cause) (setFlag .stop (enterState .stopping s))
    else beginStop t (setFlag .stop (enterState .stopping (finishWaiting .discarded none s)))

/-! ### Movement (R79 to R82) -/

/-- A movement of this many counts goes in a trip's drum direction. -/
def inDirection (delta : Int) (d : DrumDirection) : Bool :=
  match d with
  | .forward => decide (0 < delta)
  | .reverse => decide (delta < 0)

/-- A trip in this state is moving: RUNNING, CREEPING, SETTLING or STOPPING (R46, R49). -/
def TripState.isMoving : TripState → Bool
  | .running => true
  | .creeping => true
  | .settling => true
  | .stopping => true
  | _ => false

/-- The active trip is moving. -/
def tripMoving (s : State) : Bool :=
  match s.pipeline.active with
  | some t => t.state.isMoving
  | none => false

/-- A rope speed at or below `rest_speed` (R15). -/
def isSlow (speed : Nat) (s : State) : Bool :=
  match timingRow s with
  | some r => decide (speed ≤ r.restSpeed)
  | none => false

/-- The rope speed of every moving drum is at or below `rest_speed` (R82). -/
def movingDrumsSlow (t : Trip) (s : State) : Bool :=
  isSlow s.drums.skip.speed s && (!t.movesAll || isSlow s.drums.cage.speed s)

/-- The drift accumulator set to 0 (R49). -/
def clearDrift (s : State) : State := { s with drums.drift := 0 }

/-- A trip in WAITING starts on a movement of its lead's drum in the trip direction above `rest_speed` (R80). -/
def judgeStart (d : Drum) (delta : Int) (s : State) : State :=
  match s.pipeline.active with
  | none => s
  | some t =>
    if t.state = .waiting ∧ d = t.lead.drum ∧ inDirection delta t.direction ∧ (timingRow s).isSome
        ∧ !isSlow (channel d s).speed s then
      clearDrift (enterState .running s)
    else s

/-- `d_creep` of a trip's regime (R16). -/
def creepDistance (t : Trip) (s : State) : Nat :=
  match regimeRow t.regime s with
  | some r => r.dCreep
  | none => 0

/-- A trip in RUNNING becomes CREEPING at `d_creep` or less from its target (R81). -/
def judgeCreeping (s : State) : State :=
  match s.pipeline.active with
  | none => s
  | some t =>
    if t.state = .running ∧ distanceToTarget t s ≤ creepDistance t s then enterState .creeping s else s

/-- A movement of a moving drum settles a RUNNING or CREEPING trip, or takes a SETTLING one back to CREEPING (R82). -/
def judgeSettling (d : Drum) (s : State) : State :=
  match s.pipeline.active with
  | none => s
  | some t =>
    if isMovingDrum t.movesAll d then
      match t.state with
      | .running => if movingDrumsSlow t s then enterState .settling s else s
      | .creeping => if movingDrumsSlow t s then enterState .settling s else s
      | .settling => if isSlow (channel d s).speed s then s else enterState .creeping s
      | _ => s
    else s

/-- What the pipeline makes of a movement handed on: the start, the creep band, then settling (R80 to R82). -/
def pipelineMovement (d : Drum) (delta : Int) (s : State) : State :=
  judgeSettling d (judgeCreeping (judgeStart d delta s))

/-! ### A lost channel and a datum mid-trip (R89, R92) -/

/-- The pipeline takes a loss of lock: a trip in WAITING finishes ABORTED, NOT-READY (R89). -/
def pipelineLoss (s : State) : State :=
  match s.pipeline.active with
  | none => s
  | some t => if t.state = .waiting then finishBoth .aborted (some .notReady) s else s

/-- Two sets of zone indices joined, in index order, each index once. -/
def joinZones (zones : List ZoneRow) (a b : List Nat) : List Nat :=
  (zones.zipIdx.map Prod.snd).filter fun i => decide (i ∈ a) || decide (i ∈ b)

/-- A datum of a conveyance the ACTIVE trip moves, whose planned start is absent, completes the plan for it and adds its
zones to the swept set (R92). -/
def datumMidTrip (c : Conveyance) (s : State) : State :=
  match s.pipeline.active with
  | none => s
  | some t =>
    if inMovingSet t.movesAll c ∧ (t.starts.get c).isNone then
      let start := (tracker c s).reported
      let finish := movedBy c t.direction start (distanceToTarget t s)
      let only : PerConveyance (Option Int) := .of fun _ => none
      let added := sweptSet t (only.set c (some start)) (only.set c (some finish)) s
      setActive (some { t with
        starts := t.starts.set c (some start)
        ends := t.ends.set c (some finish)
        swept := joinZones (zoneList s) t.swept added }) s
    else s

end Sys2Proof.Machine
end

