-- ==== Sys2Proof/Machine/Protective.lean ====
section
/-! DEFINITION. Protective.lean: the protective trip, ONE shared operation, the taking of a cause, and what every event that
may have changed the part hands on at its end (R93, R107, R132, R135 to R138, R155). -/

namespace Sys2Proof.Machine

/-- Index of a cause in the cause set (8.4, R182). -/
def Cause.index : Cause → Nat
  | .overspeed => 0
  | .overwind => 1
  | .position => 2
  | .sample => 3
  | .unplanned => 4
  | .disagree => 5
  | .creep => 6
  | .slack => 7
  | .pair => 8
  | .gate => 9
  | .clutch => 10
  | .stopFail => 11

/-- The set that holds one cause. -/
def causeBit (c : Cause) : BitVec 12 := BitVec.twoPow 12 c.index

/-- A cause stands in the cause set. -/
def causePresent (c : Cause) (s : State) : Bool := s.protection.causes.getLsbD c.index

/-- Steps 1 to 3 of a protective trip: first cause and cause set, TRIPPED with TRIP set, CHAIN open (R136). -/
def openChain (c : Cause) (s : State) : State :=
  setFlag .trip { s with
    protection.firstCause := some c
    protection.causes := causeBit c
    protection.state := .tripped
    protection.chainClosed := false }

/-- Step 6 of a protective trip: the echo wait begins (R136). -/
def beginEcho (s : State) : State :=
  { s with
    protection.driveHeard := false
    protection.driveSilent := false
    protection.echo := startTimer Config.echoTimerMs }

/-- A protective trip: the six steps of R136 as one event, with the drift accumulator held at 0 and an open commitment
abandoned (R28, R49, R90, R137). -/
def protectiveTrip (c : Cause) (s : State) : State :=
  let s := placeDemand partDemand (openChain c s)
  let s := finishBoth .tripped (some (.protective c)) s
  abandon .trip (clearDrift (beginEcho s))

/-- A cause added to the cause set (R138). -/
def addCause (c : Cause) (s : State) : State :=
  { s with protection.causes := s.protection.causes ||| causeBit c }

/-- A reported cause taken according to the supervisor state (R135). -/
def reportCause (c : Cause) (s : State) : State :=
  match s.protection.state with
  | .noTables => s
  | .undatumed => protectiveTrip c s
  | .armed => protectiveTrip c s
  | .tripped => addCause c s

/-- A cause reported when a condition holds. -/
def reportIf (condition : Bool) (c : Cause) (s : State) : State :=
  if condition then reportCause c s else s

/-- The end of an event that may have changed the pipeline, the trackers or the supervisor state: the Envelope Unit
computes, then the Zone Map takes what it is handed and judges its watch list once (R93, R107, R132, R148, R155). -/
def handOn (s : State) : State := handOnZones (recomputeSpeed s)

end Sys2Proof.Machine
end

