-- ==== Sys2Proof/Machine/Tracking.lean ====
section
/-! DEFINITION. Tracking.lean: the Conveyance Trackers: expectation, misses, overwind, slack, datum, sync, the pair check,
loads, and losing datum (R54 to R70). -/

namespace Sys2Proof.Machine

/-! ### The expected marker (R62, R63) -/

/-- A depth lies strictly ahead of another in a direction (R62). -/
def isAhead (dir : Direction) (here there : Int) : Bool :=
  match dir with
  | .none => false
  | .down => decide (here < there)
  | .up => decide (there < here)

/-- The better of a candidate found and one more marker: the nearer of the two in a direction. -/
def nearer (dir : Direction) (best : Option (Int × Nat)) (depth : Int) (i : Nat) : Option (Int × Nat) :=
  match best with
  | none => some (depth, i)
  | some (d, j) => if isAhead dir depth d then some (depth, i) else some (d, j)

/-- Index of the nearest marker of a compartment, not UNRELIABLE, strictly ahead of a depth, if any (R62, R63). -/
def nearestAhead (ms : List MarkerRow) (c : Conveyance) (dir : Direction) (here : Int) : Option Nat :=
  (ms.zipIdx.foldl (fun best (m, i) =>
    if m.compartment = c ∧ m.unreliable = false ∧ isAhead dir here m.depth then nearer dir best m.depth i else best)
    none).map Prod.snd

/-- The tracker's expected marker written. -/
def setExpected (c : Conveyance) (e : Option Nat) (s : State) : State :=
  setTracker c { tracker c s with expected := e } s

/-- The expectation found afresh from the reported depth in the present direction (R62). -/
def searchAfresh (c : Conveyance) (s : State) : State :=
  setExpected c (nearestAhead (markers s) c (tracker c s).direction (tracker c s).reported) s

/-- The expectation advanced beyond a marker's depth in the present direction (R63). -/
def advanceBeyond (c : Conveyance) (depth : Int) (s : State) : State :=
  setExpected c (nearestAhead (markers s) c (tracker c s).direction depth) s

/-! ### Misses (R64, R65) -/

/-- A depth lies beyond a marker by more than `missDistance` in a direction (R64). -/
def passed (dir : Direction) (reported depth : Int) (missDistance : Nat) : Bool :=
  match dir with
  | .none => false
  | .down => decide (depth + missDistance < reported)
  | .up => decide (reported < depth - missDistance)

/-- The expected marker that a DATUMED tracker has missed now, if any: its index and row (R64). -/
def missedMarker (c : Conveyance) (s : State) : Option (Nat × MarkerRow) :=
  let t := tracker c s
  match t.expected, compartmentRow c s with
  | some i, some row =>
    match (markers s)[i]? with
    | some m => if t.datumed ∧ passed t.direction t.reported m.depth row.missDistance then some (i, m) else none
    | none => none
  | _, _ => none

/-- Write a marker's runtime record. -/
def setRecord (i : Nat) (r : MarkerRecord) (s : State) : State :=
  { s with tables.markers := s.tables.markers.set i r }

/-- A marker's runtime record. -/
def recordOf (i : Nat) (s : State) : MarkerRecord :=
  s.tables.markers.getD i { missCount := 0, suspect := false }

/-- The effects of a miss, in R65's order: miss count, SUSPECT at 3, misses counter with MISS, then POSITION or the miss
flag. -/
def takeMiss (c : Conveyance) (i : Nat) (s : State) : State :=
  let r := recordOf i s
  let missCount := min (r.missCount + 1) 255
  let becomesSuspect := decide (r.missCount + 1 = 3)
  let s := setRecord i { missCount, suspect := r.suspect || becomesSuspect } s
  let s := if becomesSuspect then setFlag .suspect s else s
  let s := setFlag .miss (count .misses s)
  if (tracker c s).missFlag then reportCause .position s
  else setTracker c { tracker c s with missFlag := true } s

/-- The miss check, run again after each miss against the next expected marker; the first argument bounds the
markers that one change of depth can pass (R64). -/
def missCheck (c : Conveyance) : Nat → State → State
  | 0, s => s
  | n + 1, s =>
    match missedMarker c s with
    | none => s
    | some (i, m) => missCheck c n (advanceBeyond c m.depth (takeMiss c i s))

/-- The miss check over every marker there is (R64). -/
def checkMisses (c : Conveyance) (s : State) : State := missCheck c ((markers s).length + 1) s

/-! ### Overwind and slack (R66, R67) -/

/-- A DATUMED reported depth lies beyond a travel limit (R66). -/
def isOverwound (c : Conveyance) (s : State) : Bool :=
  let t := tracker c s
  match compartmentRow c s with
  | some row => t.datumed && decide (t.reported < row.topLimit ∨ row.bottomLimit < t.reported)
  | none => false

/-- The overwind check (R66). -/
def checkOverwind (c : Conveyance) (s : State) : State := reportIf (isOverwound c s) .overwind s

/-- A conveyance that descends on a locked moving drum is lighter than its `slack_threshold` (R67). -/
def isSlack (c : Conveyance) (s : State) : Bool :=
  let t := tracker c s
  let ch := channel (drumOf c) s
  match compartmentRow c s with
  | some row =>
    decide (ch.lock = .locked) && decide (0 < ch.speed) && decide (t.direction = .down)
      && decide (t.load < row.slackThreshold)
  | none => false

/-- The slack check; in NO-TABLES no SHAFT table is active and it does not run (R67). -/
def checkSlack (c : Conveyance) (s : State) : State := reportIf (isSlack c s) .slack s

/-! ### Recomputation and its follow-on (R55, R56) -/

/-- A tracker's depths recomputed from its offset, load and drum's payout (R55). -/
def recomputeTracker (c : Conveyance) (s : State) : State :=
  setTracker c ((tracker c s).recomputed c (compartmentRow c s) (channel (drumOf c) s).payout) s

/-- The checks that follow a change of a DATUMED tracker's reported depth: misses, then overwind (R56). -/
def depthChecks (c : Conveyance) (s : State) : State :=
  if (tracker c s).datumed then checkOverwind c (checkMisses c s) else s

/-- The follow-on of a recomputation by a movement or a load: the depth checks if the reported depth changed, then
the slack check whether or not it did (R56). `before` is the reported depth before. -/
def followOn (c : Conveyance) (before : Int) (s : State) : State :=
  checkSlack c (if (tracker c s).reported = before then s else depthChecks c s)

/-- A tracker's direction taken from its drum's sense; a change makes a DATUMED tracker search afresh (R53, R62). That the
search comes before the miss check of R56 is the model's own order (assumption 31, DESIGN CHOICE). -/
def takeDirection (c : Conveyance) (s : State) : State :=
  let direction := directionUnder c (channel (drumOf c) s).sense
  if direction = (tracker c s).direction then s
  else
    let s := setTracker c { tracker c s with direction } s
    if (tracker c s).datumed then searchAfresh c s else s

/-- A tracker takes a movement of its drum: depths, direction, checks (R53, R55, R56, R62). -/
def trackMovement (c : Conveyance) (s : State) : State :=
  followOn c (tracker c s).reported (takeDirection c (recomputeTracker c s))

/-- The trackers of a drum take its movement, CAGE before COUNTERWEIGHT (R53). -/
def trackDrum (d : Drum) (s : State) : State :=
  match d with
  | .skip => trackMovement .skip s
  | .cage => trackMovement .counterweight (trackMovement .cage s)

/-! ### Datum and sync (R57 to R63) -/

/-- Half-interval search, `n` times, for the largest value from `lo` on, below `lo + 2 ^ n`, that passes a test which
`lo` passes and which fails from some value on. -/
def largestPassing (test : Int → Bool) : Nat → Int → Int
  | 0, lo => lo
  | n + 1, lo => if test (lo + 2 ^ n) then largestPassing test n (lo + 2 ^ n) else largestPassing test n lo

/-- The largest base depth, in whole mm, that with the stretch at it does not exceed a depth (R58). It lies between
the depth less the stretch at the depth, and the depth. -/
def datumBase (row : CompartmentRow) (load : Nat) (depth : Int) : Int :=
  let most := stretchAt row load depth
  largestPassing (fun b => decide (b + stretchAt row load b ≤ depth)) (most.log2 + 1) (depth - most)

/-- A GOOD read gives datum: the offset, the depths, DATUMED, the miss flag and the expectation (R58). -/
def takeDatum (c : Conveyance) (depth : Int) (s : State) : State :=
  match compartmentRow c s with
  | none => s
  | some row =>
    let payout := (channel (drumOf c) s).payout
    let base := datumBase row (tracker c s).load depth * (Config.fineUnits : Int)
    let s := setTracker c { tracker c s with offset := offsetFor c base payout } s
    let s := recomputeTracker c s
    let s := setTracker c { tracker c s with datumed := true, missFlag := false } s
    depthChecks c (searchAfresh c s)

/-- A datum that leaves all three trackers DATUMED takes UNDATUMED to ARMED, with DATUM set (R131). -/
def armIfDatumed (s : State) : State :=
  if s.protection.state = .undatumed ∧ allDatumed s then
    setFlag .datum { s with protection.state := .armed }
  else s

/-- The marker is the one its tracker expects. -/
def isExpected (c : Conveyance) (i : Nat) (s : State) : Bool := decide ((tracker c s).expected = some i)

/-- A read of the expected marker, without a sync, advances the expectation, and the miss check runs after the advance
(R63, R64). -/
def satisfy (c : Conveyance) (i : Nat) (depth : Int) (s : State) : State :=
  if isExpected c i s then checkMisses c (advanceBeyond c depth s) else s

/-- The offset that moves the base depth by a deviation in mm (R59). Base depth rises with the offset for all three
conveyances (R53), so the deviation is added for all three (DEDUCED; assumption 29: R59 also says "subtracted" for the
skip and the counterweight, against R53, R58 and the worked sync of Operating Sequences). -/
def shiftOffset (offset deviation : Int) : Int := offset + deviation * (Config.fineUnits : Int)

/-- The offset corrected, the depths recomputed, the sync counted, the miss flag cleared (R59). -/
def makeSync (c : Conveyance) (deviation : Int) (s : State) : State :=
  let s := setTracker c { tracker c s with offset := shiftOffset (tracker c s).offset deviation } s
  let s := count .syncs (recomputeTracker c s)
  setTracker c { tracker c s with missFlag := false } s

/-- After a sync: an expected marker is satisfied, and the sync of another finds the expectation afresh (R63), before the
miss check of R56, so that the marker expected until then takes no miss (assumption 31, DESIGN CHOICE). -/
def expectAfterSync (c : Conveyance) (i : Nat) (depth : Int) (s : State) : State :=
  if isExpected c i s then advanceBeyond c depth s else searchAfresh c s

/-- The sum of the cage's and the counterweight's base depths stands off `pair_sum` by more than `pair_tolerance`
while both are DATUMED (R61). -/
def pairBroken (s : State) : Bool :=
  match shaftRow s with
  | none => false
  | some row =>
    let cage := s.trackers.cage
    let cw := s.trackers.counterweight
    cage.datumed && cw.datumed
      && decide (row.pairTolerance < (mm cage.baseFine + mm cw.baseFine - (row.pairSum : Int)).natAbs)

/-- The pair check after a sync of the CAGE or the COUNTERWEIGHT (R61). -/
def checkPair (c : Conveyance) (s : State) : State :=
  reportIf (decide (c ≠ .skip) && pairBroken s) .pair s

/-- The miss check after an advance, and the depth checks if the reported depth changed (R56, R63, R64). -/
def afterRead (c : Conveyance) (before : Int) (s : State) : State :=
  if (tracker c s).reported = before then checkMisses c s else depthChecks c s

/-- A GOOD read by a DATUMED tracker: a sync within `sync_window`, else POSITION; then the expectation (R59, R63). R63
gives the order expectation, follow-on of R56, pair check for a sync of the expected marker; the model keeps that order for
the sync of another marker too, which R63 leaves open (assumption 31, DESIGN CHOICE). -/
def judgeSync (c : Conveyance) (i : Nat) (m : MarkerRow) (s : State) : State :=
  match compartmentRow c s with
  | none => s
  | some row =>
    let before := (tracker c s).reported
    let deviation := m.depth - before
    if deviation.natAbs ≤ row.syncWindow then
      checkPair c (afterRead c before (expectAfterSync c i m.depth (makeSync c deviation s)))
    else satisfy c i m.depth (reportCause .position s)

/-- The active marker with this id: its index among the MARKER rows and its row (R57). -/
def findMarker (id : Nat) (s : State) : Option (Nat × MarkerRow) :=
  ((markers s).zipIdx.find? fun (m, _) => decide (m.markerId = id)).map fun (m, i) => (i, m)

/-- The last marker read, written (R57). -/
def setLastMarker (c : Conveyance) (id : Nat) (s : State) : State :=
  setTracker c { tracker c s with lastMarker := id } s

/-- An own read, by the table of R57: datum, sync judgement, expectation only, or no further effect. What a read did is
judged for the creep band (R81) and handed on. A datum's own checks come before the Protection Controller takes it, so
that an OVERWIND at the third datum leaves no entry into ARMED (R58, R131; assumption 31, DESIGN CHOICE). -/
def takeOwnRead (c : Conveyance) (i : Nat) (m : MarkerRow) (good : Bool) (s : State) : State :=
  if (tracker c s).datumed then
    handOn (judgeCreeping (if good then judgeSync c i m s else satisfy c i m.depth s))
  else if good && !(recordOf i s).suspect then
    handOn (judgeCreeping (datumMidTrip c (armIfDatumed (takeDatum c m.depth s))))
  else s

/-- A MARKER EVENT observed: a foreign read is counted; an own read becomes the last marker read and is handled
(R57). -/
def observeMarker (r : MarkerRead) (s : State) : State :=
  match findMarker r.markerId s with
  | none => count .foreign s
  | some (i, m) =>
    if m.compartment = r.conveyance then
      takeOwnRead r.conveyance i m r.good (setLastMarker r.conveyance r.markerId s)
    else count .foreign s

/-! ### Loads (R54) -/

/-- A ROPE LOAD observed: the load, the depths, the checks, and the hand-on (R54 to R56). -/
def observeLoad (r : LoadReport) (s : State) : State :=
  let before := (tracker r.conveyance s).reported
  let s := setTracker r.conveyance { tracker r.conveyance s with load := r.load } s
  handOn (judgeCreeping (followOn r.conveyance before (recomputeTracker r.conveyance s)))

/-! ### Losing datum (R69) -/

/-- A tracker UNDATUMED: offset, load, depths, direction and last marker kept (R69). -/
def Tracker.undatumed (t : Tracker) : Tracker :=
  { t with datumed := false, expected := none, missFlag := false }

/-- Every tracker becomes UNDATUMED (R69). -/
def undatumAll (s : State) : State :=
  { s with
    trackers.skip := s.trackers.skip.undatumed
    trackers.cage := s.trackers.cage.undatumed
    trackers.counterweight := s.trackers.counterweight.undatumed }

end Sys2Proof.Machine
end

