-- ==== Sys2Proof/Machine/Drums.lean ====
section
/-! DEFINITION. Drums.lean: the Drum Stream Monitor: unwrapping, judgement, lock, payout, speed, rest, the accumulators and
what each movement and each loss hands on (R35 to R50, R106, R122, R123). -/

namespace Sys2Proof.Machine

/-! ### Payout (R18, R40) -/

/-- The layer of a position: the highest-numbered layer in use whose start count does not exceed it, else layer 0
(R18). -/
def layerOf (r : LayerRow) (position : Int) : Layer :=
  (r.inUse.reverse.find? fun l => l.startCount ≤ position).getD r.layer0

/-- Scale change at the start of each further layer in use, times the counts beyond it: what the layers above layer 0
add to the fine units from the datum to a position. -/
def fineAbove (position : Int) : Nat → List Layer → Int
  | _, [] => 0
  | below, l :: rest =>
    max 0 (position - l.startCount) * ((l.scale : Int) - below) + fineAbove position l.scale rest

/-- Fine units of all the count steps from the drum datum to a position, signed (R40): layer 0's scale for every
count, and each further layer's difference for the counts beyond its start. -/
def fineAt (r : LayerRow) (position : Int) : Int :=
  position * r.layer0.scale + fineAbove position r.layer0.scale (r.inUse.drop 1)

/-- Payout change of a movement from one position to another (R40). -/
def payoutChange (r : LayerRow) (p q : Int) : Int := fineAt r q - fineAt r p

/-! ### Taking a sample (R35, R36) -/

/-- The count brought forward: position, applied position and count reference, and the sample's Δcount (R35). -/
def Channel.bringForward (ch : Channel) (count : BitVec 32) : Channel × Int :=
  match ch.countRef with
  | none => ({ ch with position := count.toInt, applied := count.toInt, countRef := some count }, 0)
  | some ref =>
    let delta := (count - ref).toInt
    ({ ch with position := ch.position + delta, countRef := some count }, delta)

/-- Δt of a sample against a baseline, modulo 65,536 µs (R36). -/
def stampDifference (b : Baseline) (stamp : BitVec 16) : Nat := (stamp - b.stamp).toNat

/-- The sample is good against a baseline (R36). -/
def isGood (r : DrumRow) (b : Baseline) (seq : Byte) (stamp : BitVec 16) : Bool :=
  decide (seq = b.seq + 1) && decide (r.samplePeriod ≤ 2 * stampDifference b stamp)
    && decide (stampDifference b stamp ≤ 2 * r.samplePeriod)

/-- Rope speed of a payout change in a time (R43). -/
def ropeSpeed (fine : Int) (dt : Nat) : Nat := fine.natAbs * 1000000 / (Config.fineUnits * dt)

/-- Sense after a movement (R43). -/
def senseAfter (delta : Int) (sense : Sense) : Sense :=
  if 0 < delta then .forward else if delta < 0 then .reverse else sense

/-! ### Rest (R44, R45) -/

/-- The at-rest flag and rest timer after a movement of this speed: started, run on and judged against `rest_time` as it
stands now, or cleared and stopped (R15, R44). -/
def Channel.restOn (ch : Channel) (timing : Option TimingRow) : Channel :=
  match timing with
  | none => { ch with atRest := false, restTimer := none }
  | some r =>
    if ch.speed ≤ r.restSpeed then
      match ch.restTimer with
      | none => { ch with restTimer := startTimer r.restTime }
      | some t =>
        let t := { t with lengthMs := r.restTime }
        { ch with restTimer := some t, atRest := ch.atRest || t.reached }
    else { ch with atRest := false, restTimer := none }

/-- The drift accumulator returns to 0 when the winder becomes at rest (R45, R49). -/
def noteRest (before : Bool) (s : State) : State :=
  if !before && winderAtRest s then clearDrift s else s

/-! ### Accumulators (R41, R47 to R49) -/

/-- `disagree_limit`, `hold_limit` or `drift_limit` is passed. -/
def beyond (limit : DrumRow → Nat) (n : Nat) (s : State) : Bool :=
  match drumRow s with
  | some r => decide (limit r < n)
  | none => false

/-- A relock whose whole change exceeds `drift_limit` (R41). -/
def judgeRelock (relock : Bool) (delta : Int) (s : State) : State :=
  reportIf (relock && beyond DrumRow.driftLimit delta.natAbs s) .unplanned s

/-- The disagreement accumulator takes a movement while the clutch is IN (R47). -/
def addDisagreement (d : Drum) (delta : Int) (s : State) : State :=
  if s.protection.image.clutch = .engaged then
    match d with
    | .skip => { s with drums.disagree := s.drums.disagree + delta }
    | .cage => { s with drums.disagree := s.drums.disagree - delta }
  else s

/-- The hold accumulator takes a cage-drum movement while the clutch is OUT (R48). -/
def addHold (d : Drum) (delta : Int) (s : State) : State :=
  if s.protection.image.clutch = .disengaged ∧ d = .cage then
    { s with drums.hold := s.drums.hold + delta.natAbs }
  else s

/-- Disagreement after a movement (R47). -/
def judgeDisagreement (d : Drum) (delta : Int) (s : State) : State :=
  let s := addDisagreement d delta s
  reportIf (decide (s.protection.image.clutch = .engaged) && beyond DrumRow.disagreeLimit s.drums.disagree.natAbs s)
    .disagree s

/-- Hold after a cage-drum movement (R48). -/
def judgeHold (d : Drum) (delta : Int) (s : State) : State :=
  let s := addHold d delta s
  reportIf (decide (s.protection.image.clutch = .disengaged) && decide (d = .cage)
    && beyond DrumRow.holdLimit s.drums.hold s) .creep s

/-- The drift accumulator takes this movement: UNDATUMED or ARMED, and no trip in the ACTIVE slot, or one in WAITING
that the movement goes against (R49). -/
def drifts (delta : Int) (s : State) : Bool :=
  decide (s.protection.state = .undatumed ∨ s.protection.state = .armed) &&
    match s.pipeline.active with
    | none => true
    | some t => decide (t.state = .waiting) && decide (delta ≠ 0) && !inDirection delta t.direction

/-- Drift after a movement (R49). -/
def judgeDrift (delta : Int) (s : State) : State :=
  if drifts delta s then
    let s := { s with drums.drift := s.drums.drift + delta.natAbs }
    reportIf (beyond DrumRow.driftLimit s.drums.drift s) .unplanned s
  else s

/-- The monitor's own causes on a movement, in the order of their rules (R41, R47 to R49; assumption 12, DESIGN
CHOICE). -/
def accumulate (d : Drum) (relock : Bool) (delta : Int) (s : State) : State :=
  judgeDrift delta (judgeHold d delta (judgeDisagreement d delta (judgeRelock relock delta s)))

/-! ### What a movement hands on (R50, R106, R122, R123) -/

/-- OVERSPEED judged against the thresholds in force; a trip it takes is followed by a computation (R106). -/
def judgeOverspeed (d : Drum) (s : State) : State :=
  if overspeeds d s then recomputeSpeed (reportCause .overspeed s) else s

/-- A locked sample of the lead's drum during a controlled stop: the ramp steps, the over-speed run is judged, and,
if the stop still runs, a substitute reference is placed (R122, R123, R125). -/
def rampStep (d : Drum) (dt : Nat) (s : State) : State :=
  match s.guard.stop, s.pipeline.active with
  | some r, some t =>
    match regimeRow t.regime s with
    | none => s
    | some regime =>
      if d = t.lead.drum then
        let r := r.stepped regime dt (channel d s).speed
        let s := { s with guard.stop := some r }
        if r.overRun = 3 then recomputeSpeed (reportCause .stopFail s)
        else coalesce { frame := substituteFrame r s, source := some .substitute } s
      else s
  | _, _ => s

/-- A drum movement that is not zero abandons an open commitment (R29). -/
def noteMotion (delta : Int) (s : State) : State := if delta = 0 then s else abandonByMotion s

/-- A relock whose whole change is 0: it applies nothing and raises nothing (R41). -/
def appliesNothing (relock : Bool) (delta : Int) : Bool := relock && decide (delta = 0)

/-- A movement taken by the Table Store, the monitor's accumulators, the trackers and the pipeline, in this order (R50;
assumption 12, DESIGN CHOICE). -/
def takeMovement (d : Drum) (relock : Bool) (delta : Int) (s : State) : State :=
  pipelineMovement d delta (trackDrum d (accumulate d relock delta (noteMotion delta s)))

/-- What the channel's rest after a movement brings: the winder's rest, and the finish of a trip (R45, R49, R83). -/
def takeRest (d : Drum) (restBefore drumBefore : Bool) (s : State) : State :=
  let s := noteRest restBefore s
  if !drumBefore && (channel d s).atRest then finishAtRest s else s

/-- A movement judged against its threshold and for a controlled stop, after the Envelope Unit computed (R106, R122,
R123). -/
def judgeSpeed (d : Drum) (dt : Nat) (s : State) : State := rampStep d dt (judgeOverspeed d (recomputeSpeed s))

/-- A movement handed on, in the order: Table Store, the monitor's causes, the trackers, the pipeline, a rest newly
come by, the Envelope Unit with its judgement, the Reference Guard, the Zone Map (R50; assumption 12, DESIGN CHOICE).
A relock of zero change is handed on as no movement: it reaches no tracker, so no slack check, no accumulator and no
judgement of speed, though its own counts may give a rope speed above 0; only its rest is taken (R41, R43, R44, R67;
assumption 13, DEDUCED). -/
def handOnMovement (d : Drum) (relock : Bool) (delta : Int) (dt : Nat) (restBefore drumBefore : Bool) (s : State) :
    State :=
  if appliesNothing relock delta then handOnZones (recomputeSpeed (takeRest d restBefore drumBefore s))
  else handOnZones (judgeSpeed d dt (takeRest d restBefore drumBefore (takeMovement d relock delta s)))

/-- A movement applied to payout and handed on. `own` is the completing sample's own Δcount, which alone sets the rope
speed; the movement runs from the applied position to the drum position (R40, R41, R43, R44). -/
def applyMovement (d : Drum) (relock : Bool) (own : Int) (dt : Nat) (s : State) : State :=
  match layerRow d s with
  | none => s
  | some layers =>
    let ch := channel d s
    let delta := ch.position - ch.applied
    let moved := { ch with
      payout := ch.payout + payoutChange layers ch.applied ch.position
      applied := ch.position
      speed := ropeSpeed (payoutChange layers (ch.position - own) ch.position) dt
      sense := senseAfter delta ch.sense }
    handOnMovement d relock delta dt (winderAtRest s) ch.atRest (setChannel d (moved.restOn (timingRow s)) s)

/-! ### Lock (R37 to R39, R46) -/

/-- The channel without lock, baseline and rest (R38). -/
def Channel.lockLost (ch : Channel) : Channel :=
  { ch with lock := .unlocked, baseline := none, atRest := false, restTimer := none }

/-- A loss raises SAMPLE: a moving trip, or a drum not at rest just before (R46). -/
def lossRaisesSample (wasAtRest : Bool) (s : State) : Bool := tripMoving s || !wasAtRest

/-- The order R89 leaves open: the pipeline's abort of a WAITING trip and cause SAMPLE from one loss. A fresh free
choice decides it where both arise. -/
def takeLoss (raises : Bool) (s : State) : State :=
  let both := raises && decide (s.pipeline.active.map (·.state) = some TripState.waiting)
  if both then
    let first := Config.pipelineTakesLossFirst s.freeCount
    let s := { s with freeCount := s.freeCount + 1 }
    if first then reportCause .sample (abandonByMotion (pipelineLoss s))
    else pipelineLoss (abandonByMotion (reportCause .sample s))
  else reportIf raises .sample (abandonByMotion (pipelineLoss s))

/-- A LOCKED channel loses its lock: the pipeline and the Table Store take the loss, and SAMPLE may be raised (R38,
R46, R89). -/
def loseLock (d : Drum) (s : State) : State :=
  let ch := channel d s
  let raises := lossRaisesSample ch.atRest s
  handOn (takeLoss raises (setChannel d ch.lockLost s))

/-- The watch timer restarted by an observed sample while a DRUM table is active (R39). -/
def restartSampleWatch (d : Drum) (s : State) : State :=
  match drumRow s with
  | some r => setChannel d { channel d s with watchTimer := startTimer r.sampleWatch } s
  | none => s

/-- The channel's lock state and baseline written. -/
def setLock (d : Drum) (lock : Lock) (baseline : Option Baseline) (s : State) : State :=
  setChannel d { channel d s with lock, baseline } s

/-- The sample judged and the lock state moved by the table of R37. `own` is the sample's Δcount. -/
def judgeSample (d : Drum) (r : DrumRow) (x : Sample) (own : Int) (s : State) : State :=
  let here : Option Baseline := some { seq := x.seq, stamp := x.stamp }
  match (channel d s).lock, (channel d s).baseline with
  | .locking run, some b =>
    if isGood r b x.seq x.stamp then
      if run < 3 then setLock d (.locking (run + 1)) here s
      else applyMovement d true own (stampDifference b x.stamp) (setLock d .locked here s)
    else setLock d .unlocked none s
  | .locked, some b =>
    if isGood r b x.seq x.stamp then
      applyMovement d false own (stampDifference b x.stamp) (setLock d .locked here s)
    else loseLock d s
  | _, _ => setLock d (.locking 0) here s

/-- A DRUM SAMPLE observed by its channel: the count brought forward, the watch restarted, and, with an active DRUM
table, the sample judged (R35 to R37). -/
def observeSample (x : Sample) (s : State) : State :=
  let forward := (channel x.drum s).bringForward x.count
  let s := restartSampleWatch x.drum (setChannel x.drum forward.1 s)
  match drumRow s with
  | none => s
  | some r => judgeSample x.drum r x forward.2 s

/-! ### Expiries (R39, R44) -/

/-- A channel's watch timer expires: LOCKED loses its lock, otherwise any baseline is discarded and the channel is
UNLOCKED. A stopped timer does not expire (R39). -/
def expireSampleWatch (d : Drum) (s : State) : State :=
  if (channel d s).watchTimer.isNone then s
  else
    let s := setChannel d { channel d s with watchTimer := none } s
    match (channel d s).lock with
    | .locked => loseLock d s
    | _ => setLock d .unlocked none s

/-- A channel's rest timer reaches its length: the at-rest flag is set, with what the winder's or the trip's rest then
brings. A stopped timer, or one whose flag is set already, brings nothing (R44, R45, R83). -/
def expireRestTimer (d : Drum) (s : State) : State :=
  if (channel d s).restTimer.isSome && !(channel d s).atRest then
    let before := winderAtRest s
    let s := setChannel d { channel d s with atRest := true } s
    handOn (finishAtRest (noteRest before s))
  else s

end Sys2Proof.Machine
end

