-- ==== Sys2Proof/Machine/Replies.lean ====
section
/-! DEFINITION. Replies.lean: result codes, replies, and the codes that replies carry (R171, R178, R182). -/

namespace Sys2Proof.Machine

/-- The result codes (R178). -/
inductive Result where
  | done
  | busy
  | full
  | order
  | range
  | locked
  | origin
  | state
  | held
  | occupied
  | planned
  | unknown
  | notReady
  | clutch
  | undatumed
  | duplicate
  | empty
  | unknownRequest
deriving DecidableEq, Repr

/-- Code of a result (R178). -/
def Result.code : Result → Byte
  | .done => 0x00
  | .busy => 0x01
  | .full => 0x02
  | .order => 0x03
  | .range => 0x04
  | .locked => 0x05
  | .origin => 0x06
  | .state => 0x07
  | .held => 0x08
  | .occupied => 0x09
  | .planned => 0x0A
  | .unknown => 0x0B
  | .notReady => 0x0C
  | .clutch => 0x0D
  | .undatumed => 0x0E
  | .duplicate => 0x0F
  | .empty => 0x10
  | .unknownRequest => 0x12

/-- What a request is answered: a result and its data (R178). -/
structure Reply where
  result : Result
  data : List Byte
deriving DecidableEq, Repr

/-- DONE with no data. -/
def Reply.ok : Reply := { result := .done, data := [] }

/-- A reply with no data. -/
def Reply.bare (r : Result) : Reply := { result := r, data := [] }

/-- A RANGE refusal naming a field position (R178). -/
def Reply.outOfRange (position : Byte) : Reply := { result := .range, data := [position] }

/-- The REPLY frame to a request: its kind and tag echoed, the result code, the data; origin 240, target the request's
origin (R171, R172, R178). -/
def replyFrame (origin kind tag : Byte) (r : Reply) : Frame :=
  makeFrame (classCode .reply) Config.partStation origin ([kind, tag, r.result.code] ++ r.data)

/-- A number as one byte. -/
def byteOf (n : Nat) : Byte := BitVec.ofNat 8 n

/-- Code of a supervisor state: its position in the list of R128. -/
def Supervisor.code : Supervisor → Nat
  | .noTables => 0
  | .undatumed => 1
  | .armed => 2
  | .tripped => 3

/-- Code of a trip record's cause (R182). -/
def TripCause.code : TripCause → Nat
  | .protective c => c.index
  | .abort => 12
  | .watch => 13
  | .notReady => 14
  | .held => 15

/-- Code of an active trip's state, WAITING to STOPPING (R182). A queued trip is never in the ACTIVE slot; its code is
the empty slot's. -/
def TripState.code : TripState → Nat
  | .waiting => 0
  | .running => 1
  | .creeping => 2
  | .settling => 3
  | .stopping => 4
  | .queued => 5

/-- Code of an outcome: its position in the list of R72 (R178). -/
def TripOutcome.code : TripOutcome → Nat
  | .landed => 0
  | .offStation => 1
  | .completed => 2
  | .aborted => 3
  | .tripped => 4
  | .withdrawn => 5
  | .discarded => 6

/-- Code of a lead. -/
def Lead.code : Lead → Nat
  | .skip => 0
  | .cage => 1

/-- Code of a lock state: its position in the list of R34 (R178, R182). -/
def Lock.code : Lock → Nat
  | .unlocked => 0
  | .locking _ => 1
  | .locked => 2

/-- Code of a bank state: its position in the list of R20 (R178, R182). -/
def BankState.code : BankState → Nat
  | .loading => 0
  | .validating => 1
  | .validated => 2

/-- Code of a check, in the order of the tables of R25 and R26 (R182). -/
def Check.code : Check → Nat
  | .entryOrder => 0
  | .markerId => 1
  | .zoneCover => 2
  | .withinLimits => 3
  | .stationRegime => 4
  | .creepMax => 5
  | .inspectionMax => 6
  | .recoverySpeeds => 7
  | .layerStart => 8
  | .layerOrder => 9

/-- Code of an abandonment's reason (R182). -/
def AbandonReason.code : AbandonReason → Nat
  | .key => 0
  | .trip => 1
  | .motion => 2

end Sys2Proof.Machine
end

