-- ==== Sys2Proof/Machine/Reading.lean ====
section
/-! DEFINITION. Reading.lean: STATUS READ, POSITION READ and COUNTER READ (R182, R183, R187). -/

namespace Sys2Proof.Machine

/-- A signed 4-byte field; a value beyond 32 bits is a free value (assumption 4, DESIGN CHOICE). -/
def signedField4 (v : Int) : List Byte :=
  if -(2 ^ 31) ≤ v ∧ v < 2 ^ 31 then signedBytes 4 v else beBytes 4 (Config.signedBeyondField v).toNat

/-- An unsigned 4-byte field; a value beyond 32 bits is a free value (assumption 4, DESIGN CHOICE). -/
def unsignedField4 (n : Nat) : List Byte :=
  if n < 2 ^ 32 then beBytes 4 n else beBytes 4 (Config.unsignedBeyondField n).toNat

/-! ### STATUS READ (R182) -/

/-- The trip state and tag of the ACTIVE slot, 5 and 0 when it is empty. -/
def activeBytes (s : State) : List Byte :=
  match s.pipeline.active with
  | some t => [byteOf t.state.code, t.tag]
  | none => [5, 0]

/-- The waiting trip's tag, 0 for none. -/
def waitingByte (s : State) : Byte :=
  match s.pipeline.waiting with
  | some t => t.tag
  | none => 0

/-- Kind, lead and regime of a record in bits 0, 1 and 2 to 4. -/
def recordKind (r : HistoryRecord) : Byte :=
  byteOf (r.travel.toNat + 2 * r.lead.code + 4 * r.regime.index)

/-- Twelve bytes of a history record; an empty one is all zero, and so has tag 0 (assumption 25, DEDUCED). -/
def recordBytes (r : Option HistoryRecord) : List Byte :=
  match r with
  | none => List.replicate 12 0
  | some r =>
    let cause := match r.cause with
      | some c => byteOf c.code
      | none => 255
    [r.tag, recordKind r, byteOf r.outcome.code, cause] ++ signedField4 r.finalDepth
      ++ signedField4 (r.deviation.getD 0)

/-- Code of the first cause, 12 for NONE. -/
def firstCauseByte (s : State) : Byte :=
  match s.protection.firstCause with
  | some c => byteOf c.index
  | none => 12

/-- Bit 0 DRIVE-SILENT, bit 1 KEY UNLOCKED. -/
def linkStateByte (s : State) : Byte :=
  byteOf (s.protection.driveSilent.toNat + 2 * (decide (s.key = .unlocked)).toNat)

/-- Bits 0 to 2 DATUMED per conveyance, bits 3 and 4 at rest per drum. -/
def trackersByte (s : State) : Byte :=
  byteOf (s.trackers.skip.datumed.toNat + 2 * s.trackers.cage.datumed.toNat
    + 4 * s.trackers.counterweight.datumed.toNat + 8 * s.drums.skip.atRest.toNat + 16 * s.drums.cage.atRest.toNat)

/-- The two lock states. -/
def locksByte (s : State) : Byte := byteOf (s.drums.skip.lock.code + 4 * s.drums.cage.lock.code)

/-- The clutch in bits 0 and 1; bit 2 for LIFTED. -/
def interlockByte (s : State) : Byte :=
  byteOf (s.protection.image.clutch.code + 4 * (!s.protection.image.brakeApplied).toNat)

/-- Shadow bank state and fill count of a table. -/
def bankBytes (t : TableId) (s : State) : List Byte :=
  [byteOf (bank t s).state.code, byteOf (bank t s).shadow.length]

/-- Five bytes of the last validation result. -/
def resultBytes : ValidationResult → List Byte
  | .none => [0, 0, 0, 0, 0]
  | .running named => [1, named.byte, 0, 0, 0]
  | .passed named => [2, named.byte, 0, 0, 0]
  | .failed named table row check => [3, named.byte, byteOf table.code, byteOf row, byteOf check.code]
  | .abandoned named reason => [4, named.byte, byteOf reason.code, 0, 0]
  | .cancelled named => [5, named.byte, 0, 0, 0]

/-- The 48 data bytes of a STATUS READ reply (R182). -/
def statusBytes (s : State) : List Byte :=
  [byteOf s.protection.state.code, firstCauseByte s] ++ beBytes 2 s.protection.causes.toNat ++ [linkStateByte s]
    ++ activeBytes s ++ [waitingByte s] ++ recordBytes s.pipeline.history[0]? ++ recordBytes s.pipeline.history[1]?
    ++ [trackersByte s, locksByte s, interlockByte s] ++ bankBytes .shaft s ++ bankBytes .profile s
    ++ bankBytes .drum s ++ resultBytes s.tables.result ++ beBytes 2 s.requests.flags.toNat

/-- Every attention flag cleared (R182, R188). -/
def clearFlags (s : State) : State := { s with requests.flags := 0 }

/-- STATUS READ: the flags are cleared for station 1 alone (R182). -/
def takeStatusRead (origin : Byte) (s : State) : State × Reply :=
  (if origin = Config.controllerStation then clearFlags s else s, { result := .done, data := statusBytes s })

/-! ### POSITION READ (R183) -/

/-- An envelope's two bytes, 65,535 where absent. -/
def envelopeBytes (e : Option Nat) : List Byte := beBytes 2 (e.getD 65535)

/-- Lowest and highest occupied zone: 254 twice for UNKNOWN, 255 twice for none. -/
def occupancyBytes : Occupancy → List Byte
  | .unknown => [254, 254]
  | .run lo hi => [byteOf lo, byteOf hi]
  | .none => [255, 255]

/-- The 28 data bytes of a POSITION READ reply (R183). -/
def positionBytes (c : Conveyance) (s : State) : List Byte :=
  let t := tracker c s
  beBytes 2 s.envelope.permitted ++ envelopeBytes s.envelope.envelopes.skip
    ++ envelopeBytes s.envelope.envelopes.cage ++ envelopeBytes s.envelope.envelopes.counterweight
    ++ [byteOf c.index] ++ signedField4 t.reported ++ signedField4 (mm t.baseFine) ++ unsignedField4 t.stretch
    ++ beBytes 2 (min (channel (drumOf c) s).speed 65535) ++ [byteOf t.datumed.toNat] ++ beBytes 2 t.lastMarker
    ++ occupancyBytes (s.zones.occupancy.get c)

/-- POSITION READ (R183). It changes no state. -/
def takePositionRead (params : List Byte) (s : State) : State × Reply :=
  match Conveyance.ofCode (field params 0 1) with
  | some c => (s, { result := .done, data := positionBytes c s })
  | none => (s, .outOfRange 1)

/-! ### COUNTER READ (R187) -/

/-- The eleven counters, two bytes each, in index order. -/
def counterBytes (s : State) : List Byte := s.requests.counters.values.flatMap (beBytes 2)

/-- Every counter set to 0. -/
def clearCounters (s : State) : State := { s with requests.counters := State.resetCounters }

/-- COUNTER READ (R187). -/
def takeCounterRead (params : List Byte) (s : State) : State × Reply :=
  match field params 0 1 with
  | 0 => (s, { result := .done, data := counterBytes s })
  | 1 => (clearCounters s, { result := .done, data := counterBytes s })
  | _ => (s, .outOfRange 1)

end Sys2Proof.Machine
end

