-- ==== Sys2Proof/Machine/TableRequests.lean ====
section
/-! DEFINITION. TableRequests.lean: ROW LOAD, ROW READ, COMMIT PREPARE, COMMIT CONFIRM and COMMIT CANCEL (R21 to R24, R30 to
R33, R179). The origin has been judged before: only station 1 reaches these (R177). -/

namespace Sys2Proof.Machine

/-! ### Loading and reading rows (R21, R22) -/

/-- A RANGE refusal of ROW LOAD: the table and row bytes as received, and a field position (R21, R178). -/
def rowLoadRange (table row position : Byte) : Reply := { result := .range, data := [table, row, position] }

/-- A row stored at the fill count, or as row 0 of a bank emptied first (R21). -/
def Bank.stored (b : Bank) (n : Nat) (r : Row) : Bank :=
  if n = b.shadow.length then { b with shadow := b.shadow ++ [r] } else { b with shadow := [r] }

/-- A ROW LOAD for a table, from condition 2 of R21 on. -/
def loadRow (t : TableId) (table row : Byte) (content : List Byte) (s : State) : State × Reply :=
  let b := bank t s
  if b.state ≠ .loading then (s, .bare .busy)
  else if capacity t ≤ row.toNat then (s, rowLoadRange table row (Config.rowNumberPosition table row))
  else if row.toNat ≠ b.shadow.length ∧ row.toNat ≠ 0 then (s, .bare .order)
  else
    match judgeRow t row.toNat b.shadow content with
    | .error position => (s, rowLoadRange table row (byteOf position))
    | .ok r => (setBank t (b.stored row.toNat r) s, .ok)

/-- ROW LOAD (R21). -/
def takeRowLoad (params : List Byte) (s : State) : State × Reply :=
  match params with
  | table :: row :: content =>
    match TableId.ofByte table with
    | some t => loadRow t table row content s
    | none => (s, rowLoadRange table row 0)
  | [table] => (s, rowLoadRange table 0 0)
  | [] => (s, rowLoadRange 0 0 0)

/-- The runtime record that ROW READ shows for MARKER row `n` of a bank: the active row's own; miss count 0 and SUSPECT
clear for a shadow row, which has none (R11). -/
def shownRecord (ofActive : Bool) (rows : List Row) (n : Nat) (s : State) : MarkerRecord :=
  if ofActive then recordOf (markerRows (rows.take n)).length s else { missCount := 0, suspect := false }

/-- A row's bytes as ROW READ returns them: a MARKER row is followed by its runtime record (R22, R172), a shadow-bank one
by miss count 0 and SUSPECT clear, as R11 says, where R22 and R172 speak of the active bank alone (assumption 30,
DEDUCED). -/
def readBytes (ofActive : Bool) (rows : List Row) (n : Nat) (r : Row) (s : State) : List Byte :=
  match r with
  | .marker _ =>
    let record := shownRecord ofActive rows n s
    rowBytes r ++ [byteOf record.missCount, byteOf record.suspect.toNat]
  | _ => rowBytes r

/-- A ROW READ of a table's bank, from condition 2 of R22 on. -/
def readRow (t : TableId) (ofActive : Bool) (row : Byte) (s : State) : Reply :=
  let rows := if ofActive then (bank t s).active else (bank t s).shadow
  if capacity t ≤ row.toNat then .outOfRange 3
  else
    match rows[row.toNat]? with
    | some r => { result := .done, data := readBytes ofActive rows row.toNat r s }
    | none => .bare .empty

/-- ROW READ (R22). It changes no state. -/
def takeRowRead (params : List Byte) (s : State) : State × Reply :=
  match TableId.ofByte (params.getD 0 0) with
  | none => (s, .outOfRange 1)
  | some t =>
    match field params 1 1 with
    | 0 => (s, readRow t true (params.getD 2 0) s)
    | 1 => (s, readRow t false (params.getD 2 0) s)
    | _ => (s, .outOfRange 2)

/-! ### Commitment (R23, R24, R30 to R33) -/

/-- The winder at rest and both slots empty, which every state but NO-TABLES requires (R23, R30). -/
def restAllows (s : State) : Bool :=
  decide (s.protection.state = .noTables) || (winderAtRest s && pipelineEmpty s)

/-- The first table of a set, in the order SHAFT, PROFILE, DRUM, whose shadow bank is short of its minimum (R23). -/
def shortTable (named : TableSet) (s : State) : Option TableId :=
  [TableId.shaft, .profile, .drum].find? fun t =>
    named.has t && decide ((bank t s).shadow.length < minimumRows t)

/-- The set a prepare may name in this state: all three tables in NO-TABLES (R23). -/
def nameable (named : TableSet) (s : State) : Bool :=
  decide (s.protection.state ≠ .noTables) || (named.shaft && named.profile && named.drum)

/-- A bank put into VALIDATING if it is named. -/
def Bank.startedIf (named : Bool) (b : Bank) : Bank := if named then { b with state := .validating } else b

/-- Every named bank VALIDATING and the result RUNNING (R24). -/
def startValidation (named : TableSet) (s : State) : State :=
  setResult (.running named) { s with
    tables.shaft := s.tables.shaft.startedIf named.shaft
    tables.profile := s.tables.profile.startedIf named.profile
    tables.drum := s.tables.drum.startedIf named.drum }

/-- COMMIT PREPARE (R23, R24). -/
def takeCommitPrepare (params : List Byte) (s : State) : State × Reply :=
  if s.key = .locked then (s, .bare .locked)
  else if commitmentOpen s then (s, .bare .busy)
  else if s.protection.state = .tripped then (s, .bare .state)
  else if !restAllows s then (s, .bare .state)
  else
    match readTableSet (params.getD 0 0) with
    | none => (s, .outOfRange 1)
    | some named =>
      if !nameable named s then (s, .outOfRange 1)
      else
        match shortTable named s with
        | some t => (s, { result := .empty, data := [byteOf t.code] })
        | none => (startValidation named s, .ok)

/-- The first confirm: CHAIN closes and the state is UNDATUMED, each channel's applied position is set to its drum
position, and its watch timer starts with the `sample_watch` now active (R32, R39, R42, R130). -/
def firstConfirm (s : State) : State :=
  let watch := (drumRow s).bind fun r => startTimer r.sampleWatch
  { s with
    protection.state := .undatumed
    protection.chainClosed := true
    drums.skip.applied := s.drums.skip.position
    drums.skip.watchTimer := watch
    drums.cage.applied := s.drums.cage.position
    drums.cage.watchTimer := watch }

/-- The trackers lose datum at a SHAFT or DRUM confirm, and UNDATUMED or ARMED becomes UNDATUMED (R32, R69, R131). -/
def confirmUndatums (s : State) : State :=
  let s := undatumAll s
  match s.protection.state with
  | .armed => { s with protection.state := .undatumed }
  | _ => s

/-- A confirmed SHAFT table: depths under the new rows, no holder on any zone of the new table, an empty watch list
(R55, R69, R160). -/
def confirmShaft (s : State) : State :=
  let s := recomputeTracker .counterweight (recomputeTracker .cage (recomputeTracker .skip s))
  { s with
    zones.holders := List.replicate (zoneList s).length none
    zones.watchList := [] }

/-- An accepted confirm (R31, R32, R160). -/
def confirm (s : State) : State :=
  let first := decide (s.protection.state = .noTables)
  let shaft := decide (s.tables.shaft.state = .validated)
  let drum := decide (s.tables.drum.state = .validated)
  let s := swapBanks s
  let s := if first then firstConfirm s else s
  let s := if shaft || drum then confirmUndatums s else s
  handOn (if shaft then confirmShaft s else s)

/-- COMMIT CONFIRM (R30 to R32). -/
def takeCommitConfirm (s : State) : State × Reply :=
  if s.key = .locked then (s, .bare .locked)
  else if anyValidating s then (s, .bare .busy)
  else if !anyValidated s then (s, .bare .state)
  else if !restAllows s then (s, .bare .state)
  else (confirm s, .ok)

/-- COMMIT CANCEL (R33). -/
def takeCommitCancel (s : State) : State × Reply :=
  if commitmentOpen s then (setResult (.cancelled (openSet s)) (closeCommitment s), .ok)
  else (s, .bare .empty)

end Sys2Proof.Machine
end

