-- ==== Sys2Proof/Machine/TripRequests.lean ====
section
/-! DEFINITION. TripRequests.lean: TRIP REQUEST, TRIP ABORT, TRIP RESET and RESTART (R73, R75, R76, R85, R141 to R143, R180,
R188). The origin has been judged before: only station 1 reaches these (R177). -/

namespace Sys2Proof.Machine

/-! ### TRIP REQUEST (R73, R75, R76) -/

/-- A kind, lead and regime that agree (R73). -/
def agrees (travel : Bool) (lead : Lead) (r : Regime) : Bool :=
  match travel, r, lead with
  | false, .rock, .skip => true
  | false, .material, .cage => true
  | false, .persons, .cage => true
  | false, .inspection, _ => true
  | true, .inspection, _ => true
  | true, .recovery, _ => true
  | _, _, _ => false

/-- The trip that the fields of a request ask for, before any plan is made. -/
structure TripAsked where
  tag : Byte
  kind : TripKind
  lead : Lead
  regime : Regime
  direction : DrumDirection
deriving DecidableEq, Repr

/-- The lead a code names, if any (R178). -/
def Lead.ofCode : Nat → Option Lead
  | 0 => some .skip
  | 1 => some .cage
  | _ => none

/-- The drum direction a code names, if any (R178; assumption 25, DEDUCED). -/
def DrumDirection.ofCode : Nat → Option DrumDirection
  | 0 => some .forward
  | 1 => some .reverse
  | _ => none

/-- The field ranges of condition 6 and then its relations, judged on the fields that are read: the trip asked for, or
the position of the field that a RANGE refusal names (R75, R180; assumption 2, DESIGN CHOICE). -/
def readTrip (params : List Byte) (s : State) : Except Byte TripAsked :=
  let p := readTripParams params
  match p.kind, Lead.ofCode p.lead, Regime.ofCode p.regime with
  | 0, some lead, some regime =>
    match (stations s)[p.station]? with
    | none => .error 5
    | some st =>
      if !agrees false lead regime then .error (Config.tripFieldNamed 0 params)
      else if st.compartment ≠ lead.conveyance then .error (Config.tripFieldNamed 1 params)
      else if !st.allows regime then .error (Config.tripFieldNamed 2 params)
      else .ok { tag := p.tag, kind := .station p.station, lead, regime, direction := .forward }
  | 1, some lead, some regime =>
    match DrumDirection.ofCode p.direction with
    | none => .error 6
    | some direction =>
      if p.travel < 100 ∨ 100000 < p.travel then .error 7
      else if !agrees true lead regime then .error (Config.tripFieldNamed 0 params)
      else .ok { tag := p.tag, kind := .travel p.travel, lead, regime, direction }
  | 0, none, _ => .error 3
  | 1, none, _ => .error 3
  | 0, _, none => .error 4
  | 1, _, none => .error 4
  | _, _, _ => .error 2

/-- The trip asked for, planned from where it would start: behind the active trip, from that trip's planned ends, or
from the present depths (R73, R76 to R78). -/
def candidate (a : TripAsked) (s : State) : Trip :=
  let movesAll := decide (s.protection.image.clutch = .engaged)
  let starts := match s.pipeline.active with
    | some t => t.ends
    | none => presentStarts movesAll s
  let bare : Trip :=
    { tag := a.tag, kind := a.kind, lead := a.lead, direction := a.direction, regime := a.regime, movesAll, starts,
      ends := .of fun _ => none, swept := [], payoutOrigin := none, state := .queued, cause := none }
  let direction := match starts.get a.lead.conveyance, stopDepthOf bare s with
    | some start, some stop => directionToward a.lead start stop a.direction
    | _, _ => a.direction
  planned { bare with direction := direction } s

/-- The lowest station in a compartment of the moving set whose readiness bit is clear (R75). -/
def unreadyStation (movesAll : Bool) (image : Interlock) (sts : List StationRow) : Option Nat :=
  (sts.zipIdx.find? fun (st, k) =>
    inMovingSet movesAll st.compartment && !image.readiness.getLsbD k).map Prod.snd

/-- The first channel not LOCKED (R75). -/
def unlockedChannel (s : State) : Option Nat :=
  if s.drums.skip.lock ≠ .locked then some 0 else if s.drums.cage.lock ≠ .locked then some 1 else none

/-- What NOT-READY names, if condition 9 of R75 fails: a station or a channel (R178). -/
def notReady (movesAll : Bool) (s : State) : Option (List Byte) :=
  match unreadyStation movesAll s.protection.image (stations s) with
  | some k => some [0, byteOf k]
  | none => (unlockedChannel s).map fun d => [1, byteOf d]

/-- The lead's planned start lies within its station's `window` of the stop: condition 10 of R75 fails. -/
def startsWithinWindow (t : Trip) (s : State) : Bool :=
  match t.starts.get t.lead.conveyance, stopDepthOf t s, windowOf t s with
  | some start, some stop, some window => decide ((start - stop).natAbs ≤ window)
  | _, _, _ => false

/-- A tag that condition 5 of R75 refuses. -/
def tagRefused (tag : Byte) (s : State) : Bool :=
  decide (tag = 0) || s.pipeline.active.any (fun t => t.tag = tag) || s.pipeline.waiting.any (fun t => t.tag = tag)

/-- An accepted trip placed: in the ACTIVE slot in WAITING with its payout origin, or queued (R76). -/
def placeTrip (t : Trip) (s : State) : State × Reply :=
  match s.pipeline.active with
  | none =>
    let t := { t with state := .waiting, payoutOrigin := some (channel t.lead.drum s).payout }
    (handOn (setActive (some t) s), { result := .done, data := [0] })
  | some _ => (handOn (setWaiting (some t) s), { result := .done, data := [1] })

/-- Conditions 7 to 11 of R75, judged on the trip asked for. -/
def judgeTrip (params : List Byte) (a : TripAsked) (s : State) : State × Reply :=
  let t := candidate a s
  if s.protection.state = .undatumed ∧ a.regime ≠ .recovery then (s, .bare .undatumed)
  else if s.protection.image.clutch = .moving ∨ (a.lead = .cage ∧ s.protection.image.clutch ≠ .engaged) then
    (s, .bare .clutch)
  else
    match notReady t.movesAll s with
    | some data => (s, { result := .notReady, data })
    | none =>
      if startsWithinWindow t s then (s, .outOfRange (Config.tripFieldNamed 3 params))
      else
        match heldAgainst t s with
        | z :: _ => (s, { result := .held, data := [byteOf z] })
        | [] => placeTrip t s

/-- TRIP REQUEST (R75, R76). -/
def takeTripRequest (params : List Byte) (s : State) : State × Reply :=
  if s.protection.state = .noTables ∨ s.protection.state = .tripped ∨ stopRuns s then (s, .bare .state)
  else if commitmentOpen s then (s, .bare .busy)
  else if s.pipeline.waiting.isSome then (s, .bare .full)
  else if tagRefused (params.getD 0 0) s then (s, .bare .duplicate)
  else
    match readTrip params s with
    | .error position => (s, .outOfRange position)
    | .ok a => judgeTrip params a s

/-! ### TRIP ABORT (R85) -/

/-- The abort of the active trip, by its state (R85). -/
def abortActive (t : Trip) (s : State) : State :=
  match t.state with
  | .waiting => finishBoth .aborted (some .abort) s
  | .stopping => s
  | _ => enterStopping .abort s

/-- The waiting trip carries this tag, which is not 0. -/
def waitingHas (tag : Byte) (s : State) : Bool :=
  decide (tag ≠ 0) && s.pipeline.waiting.any fun t => t.tag = tag

/-- TRIP ABORT (R85). -/
def takeTripAbort (params : List Byte) (s : State) : State × Reply :=
  let tag := params.getD 0 0
  if waitingHas tag s then (handOn (finishWaiting .aborted (some .abort) s), .ok)
  else
    match s.pipeline.active with
    | some t => if tag = 0 ∨ tag = t.tag then (handOn (abortActive t s), .ok) else (s, .bare .empty)
    | none => (s, .bare .empty)

/-! ### TRIP RESET (R141 to R143) -/

/-- The causes that un-datum the trackers at a reset (R143). -/
def Cause.undatums : Cause → Bool
  | .position => true
  | .sample => true
  | .unplanned => true
  | .disagree => true
  | .creep => true
  | .pair => true
  | _ => false

/-- The twelve causes, in index order (8.4). -/
def allCauses : List Cause :=
  [.overspeed, .overwind, .position, .sample, .unplanned, .disagree, .creep, .slack, .pair, .gate, .clutch, .stopFail]

/-- The cause set holds a cause that un-datums the trackers (R143). -/
def resetUndatums (s : State) : Bool := allCauses.any fun c => c.undatums && causePresent c s

/-- The four changes of an accepted TRIP RESET (R142). -/
def resetTrip (s : State) : State :=
  let s := if resetUndatums s then undatumAll s else s
  let s := { s with protection.causes := 0, protection.firstCause := none }
  let s :=
    if allDatumed s then setFlag .datum { s with protection.state := .armed }
    else { s with protection.state := .undatumed }
  { s with protection.chainClosed := true }

/-- A STATE refusal of TRIP RESET, naming the unmet condition (R178). -/
def resetRefused (condition : Byte) : Reply := { result := .state, data := [condition] }

/-- TRIP RESET (R141, R142). -/
def takeTripReset (s : State) : State × Reply :=
  if s.protection.state ≠ .tripped then (s, resetRefused 0)
  else if !s.protection.driveHeard then (s, resetRefused 1)
  else if !winderAtRest s then (s, resetRefused 2)
  else if !s.protection.image.brakeApplied then (s, resetRefused 3)
  else
    let s := handOn (resetTrip s)
    (s, { result := .done, data := [byteOf s.protection.state.code] })

/-! ### RESTART (R188) -/

/-- What an accepted RESTART writes before the START flag: trackers, history, watch list, counters and flags, with the
RESTART values of the guard and the Protection Controller (R69, R95, R127, R145, R161, R188). -/
def restartWrites (s : State) : State :=
  let s := undatumAll s
  { s with
    pipeline.history := []
    zones.watchList := []
    requests.counters := State.resetCounters
    requests.flags := 0
    guard.watch := none
    guard.stop := none
    protection.firstCause := none
    protection.causes := 0
    protection.echo := none
    protection.driveSilent := false }

/-- An accepted RESTART (R188). -/
def restartPart (s : State) : State :=
  let s := setFlag .start (restartWrites s)
  handOn { s with protection.state := .undatumed, protection.chainClosed := true }

/-- RESTART (R188). -/
def takeRestart (s : State) : State × Reply :=
  if s.protection.state ≠ .undatumed ∧ s.protection.state ≠ .armed then (s, .bare .state)
  else if !winderAtRest s then (s, .bare .state)
  else if !pipelineEmpty s then (s, .bare .state)
  else (restartPart s, .ok)

end Sys2Proof.Machine
end

