-- ==== Sys2Proof/Machine/ZoneRequests.lean ====
section
/-! DEFINITION. ZoneRequests.lean: ZONE INQUIRY, ZONE HOLD and ZONE RELEASE (R150 to R158, R181). The origin has been judged
before: only stations 1 to 15 reach these (R150, R177). -/

namespace Sys2Proof.Machine

/-- The action in the reply to a ZONE INQUIRY (R151). -/
inductive ZoneAction where
  | none
  | withdrawn
  | watched
  | watchFull
deriving DecidableEq, Repr

/-- Code of an action: its position in R181's list (R178; assumption 15, DEDUCED). -/
def ZoneAction.code : ZoneAction → Byte
  | .none => 0
  | .withdrawn => 1
  | .watched => 2
  | .watchFull => 3

/-- The zone, its summary, its holder and the action, as the zone stands now (R151, R181). -/
def inquiryReply (z : Nat) (action : ZoneAction) (s : State) : Reply :=
  { result := .done, data := [byteOf z, (summaryOf z s).code, (holderOf z s).getD 0, action.code] }

/-- A watch entry asked for by an inquiry (R154). -/
def watchZone (z : Nat) (station : Byte) (s : State) : State × ZoneAction :=
  let added := addWatch { zone := z, station } s
  (added.1, if added.2 then .watched else .watchFull)

/-- An inquiry with the withdraw option, by the zone's summary and the active trip's state as the Zone Map holds it
(R152, R153). -/
def withdraw (z : Nat) (station : Byte) (s : State) : State × ZoneAction :=
  match summaryOf z s with
  | .plannedWaiting => (handOn (finishWaiting .withdrawn none s), .withdrawn)
  | .plannedActive =>
    if s.zones.activeState = some .waiting then (handOn (finishBoth .withdrawn none s), .withdrawn)
    else watchZone z station s
  | .occupied => watchZone z station s
  | _ => (s, .none)

/-- ZONE INQUIRY (R150 to R152). -/
def takeZoneInquiry (origin : Byte) (params : List Byte) (s : State) : State × Reply :=
  let z := field params 0 1
  if !zoneExists z s then (s, .outOfRange 1)
  else
    match field params 1 1 with
    | 0 => (s, inquiryReply z .none s)
    | 1 =>
      let done := withdraw z origin s
      (done.1, inquiryReply z done.2 done.1)
    | _ => (s, .outOfRange 2)

/-- What a ZONE HOLD is answered for a summary: the refusal, or none for CLEAR (R156, R178). -/
def holdRefusal (z : Nat) (s : State) : Option Reply :=
  match summaryOf z s with
  | .clear => none
  | .occupied => some (.bare .occupied)
  | .plannedActive => some { result := .planned, data := [0] }
  | .plannedWaiting => some { result := .planned, data := [1] }
  | .unknown => some (.bare .unknown)
  | .held => some { result := .held, data := [(holderOf z s).getD 0] }

/-- ZONE HOLD (R150, R156). -/
def takeZoneHold (origin : Byte) (params : List Byte) (s : State) : State × Reply :=
  let z := field params 0 1
  if !zoneExists z s then (s, .outOfRange 1)
  else
    match holdRefusal z s with
    | some r => (s, r)
    | none => (setHolder z (some origin) s, .ok)

/-- ZONE RELEASE (R150, R158). -/
def takeZoneRelease (origin : Byte) (params : List Byte) (s : State) : State × Reply :=
  let z := field params 0 1
  if !zoneExists z s then (s, .outOfRange 1)
  else
    match holderOf z s with
    | none => (s, .bare .empty)
    | some h =>
      if origin = h ∨ origin = Config.controllerStation then (setHolder z none s, .ok) else (s, .bare .origin)

end Sys2Proof.Machine
end

