-- ==== Sys2Proof/Machine/Requests.lean ====
section
/-! DEFINITION. Requests.lean: what every request passes before its own rule, and the reply that follows it (R166, R171,
R177, R178). -/

namespace Sys2Proof.Machine

/-- A request of a defined kind, by the rule that owns it (R179 to R183, R187, R188). -/
def ownRule (k : RequestKind) (origin : Byte) (params : List Byte) (s : State) : State × Reply :=
  match k with
  | .rowLoad => takeRowLoad params s
  | .rowRead => takeRowRead params s
  | .commitPrepare => takeCommitPrepare params s
  | .commitConfirm => takeCommitConfirm s
  | .commitCancel => takeCommitCancel s
  | .tripRequest => takeTripRequest params s
  | .tripAbort => takeTripAbort params s
  | .tripReset => takeTripReset s
  | .restart => takeRestart s
  | .zoneInquiry => takeZoneInquiry origin params s
  | .zoneHold => takeZoneHold origin params s
  | .zoneRelease => takeZoneRelease origin params s
  | .statusRead => takeStatusRead origin s
  | .positionRead => takePositionRead params s
  | .counterRead => takeCounterRead params s

/-- The parameters have the length the kind requires; ROW LOAD's are judged by its own rule (R177, R179). -/
def lengthFits (k : RequestKind) (params : List Byte) : Bool :=
  match k.paramLength with
  | some n => decide (params.length = n)
  | none => true

/-- A request judged: kind, origin, parameter length, then its own rule (R177). -/
def answerRequest (origin kind : Byte) (params : List Byte) (s : State) : State × Reply :=
  match RequestKind.ofByte kind with
  | none => (s, .bare .unknownRequest)
  | some k =>
    if !originMayUse origin k then (s, .bare .origin)
    else if !lengthFits k params then (s, .outOfRange 0)
    else ownRule k origin params s

/-- A request answered whole: its effects, then its one reply offered upstream (R171, R178). -/
def serveRequest (origin kind tag : Byte) (params : List Byte) (s : State) : State :=
  let answered := answerRequest origin kind params s
  offerUp .part (replyFrame origin kind tag answered.2) answered.1

/-- A REQUEST frame addressed to station 240; one with no kind and tag is malformed (R166). -/
def takeRequest (f : Frame) (s : State) : State :=
  match f.body with
  | kind :: tag :: params => serveRequest f.origin kind tag params s
  | _ => count .malformed s

end Sys2Proof.Machine
end

