-- ==== Sys2Proof/Machine/Field.lean ====
section
/-! DEFINITION. Field.lean: what the Protection Controller makes of interlock states and drive answers, the expiries of its
timer and of the guard's, and the two inputs KEY and NRST (R28, R87, R88, R120, R124, R130, R133, R134, R139, R140). -/

namespace Sys2Proof.Machine

/-! ### Interlock states (R88, R133, R134) -/

/-- The accumulators after an image: the disagreement is kept only while the clutch stays IN, the hold only while it
stays OUT; otherwise each stands at 0 (R47, R48; assumption 22, DEDUCED). -/
def accumulatorsOn (old new : Clutch) (s : State) : State :=
  { s with
    drums.disagree := if old = .engaged ∧ new = .engaged then s.drums.disagree else 0
    drums.hold := if old = .disengaged ∧ new = .disengaged then s.drums.hold else 0 }

/-- The pipeline's judgement of a new image against the one it replaced (R88). -/
def pipelineImage (old new : Interlock) (s : State) : State :=
  match s.pipeline.active with
  | none => s
  | some t =>
    let changed := decide (new.clutch ≠ old.clutch)
    let unready := (unreadyStation t.movesAll new (stations s)).isSome
    match t.state with
    | .waiting =>
      if changed then finishBoth .aborted (some (.protective .clutch)) s
      else if unready then finishBoth .aborted (some .notReady) s
      else s
    | .queued => s
    | _ => reportIf unready .gate (reportIf changed .clutch s)

/-- An INTERLOCK STATE observed: the image replaced whole, then handed with the old one to its readers (R133,
R134). -/
def observeInterlock (new : Interlock) (s : State) : State :=
  let old := s.protection.image
  let s := { s with protection.image := new }
  handOn (pipelineImage old new (accumulatorsOn old.clutch new.clutch s))

/-! ### Drive answers and the echo timer (R139, R140) -/

/-- A DRIVE ANSWER observed (R139). -/
def observeAnswer (s : State) : State :=
  { s with protection.driveHeard := true, protection.echo := none, protection.driveSilent := false }

/-- The echo timer expires; a stopped timer does not (R140). -/
def expireEcho (s : State) : State :=
  if s.protection.echo.isNone then s
  else setFlag .silent { s with protection.driveSilent := true, protection.echo := none }

/-! ### The guard's timers (R87, R120, R124) -/

/-- The reference watch expires; a stopped one does not. A RUNNING or CREEPING trip enters STOPPING (R87, R120). -/
def expireWatch (s : State) : State :=
  if s.guard.watch.isNone then s
  else
    let s := stopWatch s
    handOn (if watchRuns s then enterStopping .watch s else s)

/-- The stop deadline expires; without a stop there is none (R124). -/
def expireDeadline (s : State) : State :=
  if s.guard.stop.isNone then s else handOn (reportCause .stopFail s)

/-! ### KEY and NRST (R28, R130) -/

/-- The KEY input comes to a position; a change to LOCKED abandons an open commitment (R28). -/
def turnKey (position : KeyPosition) (s : State) : State :=
  if s.key = position then s
  else
    let s := { s with key := position }
    match position with
    | .locked => abandon .key s
    | .unlocked => s

/-- NRST: every block at its NRST values; the KEY input, the queue of waiting commands and the model's own counter are
not the part's to reset (R130, R175). -/
def resetPart (s : State) : State :=
  { State.reset with pending := s.pending, key := s.key, freeCount := s.freeCount }

end Sys2Proof.Machine
end

