-- ==== Sys2Proof/Machine/Reception.lean ====
section
/-! DEFINITION. Reception.lean: the receivers, the judgement of a frame that ended, and the handing of a whole frame to the
block that owns its class (R162 to R168). -/

namespace Sys2Proof.Machine

/-! ### Handing on (R166, R167) -/

/-- A frame offered upstream, marked FIELD (R167). -/
def offerField (f : Frame) (s : State) : State := offerUp .field f s

/-- The observation of a D-link frame by the block that owns its class, if its body reads (R167). -/
def observe (f : Frame) (s : State) : State :=
  match classOf f.cls with
  | .drumSample => match readSample f.body with
    | some x => observeSample x s
    | none => s
  | .markerEvent => match readMarker f.body with
    | some r => observeMarker r s
    | none => s
  | .ropeLoad => match readLoad f.body with
    | some r => observeLoad r s
    | none => s
  | .interlockState => match readInterlock f.body with
    | some image => observeInterlock image s
    | none => s
  | .driveAnswer => if f.body.length = 2 then observeAnswer s else s
  | _ => s

/-- A whole D-link frame: a REQUEST is malformed, any other is observed whole and then offered upstream (R167,
R168). -/
def takeFromD (f : Frame) (s : State) : State :=
  match classOf f.cls with
  | .request => count .malformed s
  | _ => offerField f (observe f s)

/-- A frame of another class, appended unchanged (R111, R114). -/
def passDown (f : Frame) (s : State) : State := appendDown { frame := f, source := none } s

/-- A gated command of one byte; another length is malformed (R166). -/
def takeCommand (f : Frame) (s : State) : State :=
  if f.body.length = 1 then gateCommand f s else count .malformed s

/-- A whole C-link frame, by class and target (R111, R166). -/
def takeFromC (f : Frame) (s : State) : State :=
  match classOf f.cls with
  | .request => if f.target = Config.partStation then takeRequest f s else passDown f s
  | .speedReference => match readSpeed f.body with
    | some ref => guardReference f ref s
    | none => count .malformed s
  | .brakeCommand => takeCommand f s
  | .clutchCommand => takeCommand f s
  | .brakeDemand => placeDemand f s
  | _ => passDown f s

/-- A whole frame handed on. -/
def takeFrame (l : Link) (f : Frame) (s : State) : State :=
  match l with
  | .c => takeFromC f s
  | .d => takeFromD f s

/-- The check-error counter of a link (R164). -/
def checkCounter : Link → Counter
  | .c => .checkErrorsC
  | .d => .checkErrorsD

/-- A judged frame handed on or dropped (R164). -/
def takeJudged (l : Link) (j : Judged) (s : State) : State :=
  match j with
  | .malformed => count .malformed s
  | .checkError => setFlag .link (count (checkCounter l) s)
  | .whole f => takeFrame l f s

/-! ### The receivers (R163) -/

/-- A byte meets a receiver (R163). -/
def takeByte (r : Receiver) (b : LineByte) : Receiver :=
  match r with
  | .waitingIdle => .waitingIdle
  | .idle => .receiving [b.value] (!b.stopBit)
  | .receiving buffer bad =>
    if buffer.length < 62 then .receiving (buffer ++ [b.value]) (bad || !b.stopBit) else .discarding
  | .discarding => .discarding

/-- What 16 µs of silence ends, if anything (R163). -/
def ended : Receiver → Option Judged
  | .waitingIdle => none
  | .idle => none
  | .receiving buffer bad => some (judgeFrame buffer bad)
  | .discarding => some .malformed

/-- 16 µs of silence on a link: its receiver is IDLE, and a frame that ended is taken (R163, R164). -/
def silence (l : Link) (s : State) : State :=
  let r := receiver l s
  let s := setReceiver l .idle s
  match ended r with
  | none => s
  | some j => takeJudged l j s

/-- These bytes on a link, then 16 µs of silence (R163; assumption 10, DEDUCED). -/
def deliver (l : Link) (bytes : List LineByte) (s : State) : State :=
  silence l (setReceiver l (bytes.foldl takeByte (receiver l s)) s)

/-- A frame's bytes on a link, every stop bit present, then silence. -/
def deliverFrame (l : Link) (cls origin target : Byte) (body : List Byte) (s : State) : State :=
  deliver l ((frameBytes (makeFrame cls origin target body)).map goodByte) s

/-- A REQUEST to station 240 of a kind code, as its frame arrives on the C-link (R166, R172). -/
def deliverRequest (origin kind tag : Byte) (params : List Byte) (s : State) : State :=
  deliverFrame .c (classCode .request) origin Config.partStation (kind :: tag :: params) s

end Sys2Proof.Machine
end

