-- ==== Sys2Proof/Machine/FieldCommands.lean ====
section
/-! DEFINITION. FieldCommands.lean: the meanings of the inputs and of the D-link's frames. -/

namespace Sys2Proof.Machine

/-- NRST (R130). -/
def execNrst (s : State) : Host.Outcome State Fault Refusal := .next (resetPart s)

/-- KEY_CHANGE (R28). -/
def execKeyChange (position : KeyPosition) (s : State) : Host.Outcome State Fault Refusal := .next (turnKey position s)

/-- DRUM_SAMPLE: the frame arrives on the D-link (R35, R167). -/
def execDrumSample (origin target : Byte) (body : List Byte) (s : State) : Host.Outcome State Fault Refusal :=
  .next (deliverFrame .d (classCode .drumSample) origin target body s)

/-- MARKER_EVENT: the frame arrives on the D-link (R57, R167). -/
def execMarkerEvent (origin target : Byte) (body : List Byte) (s : State) : Host.Outcome State Fault Refusal :=
  .next (deliverFrame .d (classCode .markerEvent) origin target body s)

/-- ROPE_LOAD: the frame arrives on the D-link (R54, R167). -/
def execRopeLoad (origin target : Byte) (body : List Byte) (s : State) : Host.Outcome State Fault Refusal :=
  .next (deliverFrame .d (classCode .ropeLoad) origin target body s)

/-- INTERLOCK_STATE: the frame arrives on the D-link (R133, R167). -/
def execInterlockState (origin target : Byte) (body : List Byte) (s : State) : Host.Outcome State Fault Refusal :=
  .next (deliverFrame .d (classCode .interlockState) origin target body s)

/-- DRIVE_ANSWER: the frame arrives on the D-link (R139, R167). -/
def execDriveAnswer (origin target : Byte) (body : List Byte) (s : State) : Host.Outcome State Fault Refusal :=
  .next (deliverFrame .d (classCode .driveAnswer) origin target body s)

/-- D_LINK_OTHER_FRAME: a frame of this class arrives on the D-link (R167). -/
def execDLinkOtherFrame (cls origin target : Byte) (body : List Byte) (s : State) :
    Host.Outcome State Fault Refusal :=
  .next (deliverFrame .d cls origin target body s)

end Sys2Proof.Machine
end

