-- ==== Sys2Proof/Machine/LineCommands.lean ====
section
/-! DEFINITION. LineCommands.lean: the meanings of the C-link's command frames, of rejected frames and silence, and of the two
transmitters' starts and ends. -/

namespace Sys2Proof.Machine

/-- FRAME_REJECTED: these bytes arrive on a link (R163, R164). -/
def execFrameRejected (link : Link) (bytes : List LineByte) (s : State) : Host.Outcome State Fault Refusal :=
  .next (deliver link bytes s)

/-- RECEIVER_IDLE: 16 µs of silence on a link (R163). -/
def execReceiverIdle (link : Link) (s : State) : Host.Outcome State Fault Refusal := .next (silence link s)

/-- SPEED_REFERENCE: the frame arrives on the C-link (R112, R166). -/
def execSpeedReference (origin target : Byte) (body : List Byte) (s : State) : Host.Outcome State Fault Refusal :=
  .next (deliverFrame .c (classCode .speedReference) origin target body s)

/-- BRAKE_COMMAND: the frame arrives on the C-link (R118, R166). -/
def execBrakeCommand (origin target : Byte) (body : List Byte) (s : State) : Host.Outcome State Fault Refusal :=
  .next (deliverFrame .c (classCode .brakeCommand) origin target body s)

/-- CLUTCH_COMMAND: the frame arrives on the C-link (R119, R166). -/
def execClutchCommand (origin target : Byte) (body : List Byte) (s : State) : Host.Outcome State Fault Refusal :=
  .next (deliverFrame .c (classCode .clutchCommand) origin target body s)

/-- BRAKE_DEMAND: the frame arrives on the C-link (R115, R166). -/
def execBrakeDemand (origin target : Byte) (body : List Byte) (s : State) : Host.Outcome State Fault Refusal :=
  .next (deliverFrame .c (classCode .brakeDemand) origin target body s)

/-- DOWNSTREAM_OTHER_FRAME: a frame of this class arrives on the C-link (R114, R166). -/
def execDownstreamOtherFrame (cls origin target : Byte) (body : List Byte) (s : State) :
    Host.Outcome State Fault Refusal :=
  .next (deliverFrame .c cls origin target body s)

/-- The D-link transmitter looks at its queue: a frame in transmission is not disturbed (R116). -/
def startDown (s : State) : State :=
  match s.guard.transmitter with
  | .sending _ => s
  | _ => takeNext s.guard.queue s

/-- D_TRANSMIT_START (R116). -/
def execDTransmitStart (s : State) : Host.Outcome State Fault Refusal := .next (startDown s)

/-- The frame in transmission completes, and the line is left silent for 16 µs (R116). -/
def endDown (s : State) : State :=
  match s.guard.transmitter with
  | .sending _ => { s with guard.transmitter := .gap }
  | _ => s

/-- D_TRANSMIT_END (R116). -/
def execDTransmitEnd (s : State) : Host.Outcome State Fault Refusal := .next (endDown s)

/-- The C-link transmitter takes the head frame, or is IDLE with none; a frame in transmission is not disturbed
(R170). -/
def startUp (s : State) : State :=
  match s.line.transmitter with
  | .sending _ => s
  | _ =>
    match s.line.queue with
    | [] => { s with line.transmitter := .idle }
    | f :: rest => { s with line.queue := rest, line.transmitter := .sending f.frame }

/-- C_TRANSMIT_START (R170). -/
def execCTransmitStart (s : State) : Host.Outcome State Fault Refusal := .next (startUp s)

/-- The frame in transmission completes: GAP (R170). -/
def endUp (s : State) : State :=
  match s.line.transmitter with
  | .sending _ => { s with line.transmitter := .gap }
  | _ => s

/-- C_TRANSMIT_END (R170). -/
def execCTransmitEnd (s : State) : Host.Outcome State Fault Refusal := .next (endUp s)

end Sys2Proof.Machine
end

