-- ==== Sys2Proof/Machine/RequestCommands.lean ====
section
/-! DEFINITION. RequestCommands.lean: the meanings of the requests to station 240: each is its REQUEST frame arriving on the
C-link, which the Request Handler answers (R166, R177). -/

namespace Sys2Proof.Machine

/-- UNKNOWN_REQUEST: a request of an undefined kind (R177). -/
def execUnknownRequest (origin kind tag : Byte) (params : List Byte) (s : State) : Host.Outcome State Fault Refusal :=
  .next (deliverRequest origin kind tag params s)

/-- ROW_LOAD (R21). -/
def execRowLoad (origin tag : Byte) (params : List Byte) (s : State) : Host.Outcome State Fault Refusal :=
  .next (deliverRequest origin (RequestKind.code .rowLoad) tag params s)

/-- ROW_READ (R22). -/
def execRowRead (origin tag : Byte) (params : List Byte) (s : State) : Host.Outcome State Fault Refusal :=
  .next (deliverRequest origin (RequestKind.code .rowRead) tag params s)

/-- COMMIT_PREPARE (R23, R24). -/
def execCommitPrepare (origin tag : Byte) (params : List Byte) (s : State) : Host.Outcome State Fault Refusal :=
  .next (deliverRequest origin (RequestKind.code .commitPrepare) tag params s)

/-- COMMIT_CONFIRM (R30 to R32). -/
def execCommitConfirm (origin tag : Byte) (params : List Byte) (s : State) : Host.Outcome State Fault Refusal :=
  .next (deliverRequest origin (RequestKind.code .commitConfirm) tag params s)

/-- COMMIT_CANCEL (R33). -/
def execCommitCancel (origin tag : Byte) (params : List Byte) (s : State) : Host.Outcome State Fault Refusal :=
  .next (deliverRequest origin (RequestKind.code .commitCancel) tag params s)

/-- TRIP_REQUEST (R75, R76). -/
def execTripRequest (origin tag : Byte) (params : List Byte) (s : State) : Host.Outcome State Fault Refusal :=
  .next (deliverRequest origin (RequestKind.code .tripRequest) tag params s)

/-- TRIP_ABORT (R85). -/
def execTripAbort (origin tag : Byte) (params : List Byte) (s : State) : Host.Outcome State Fault Refusal :=
  .next (deliverRequest origin (RequestKind.code .tripAbort) tag params s)

/-- TRIP_RESET (R141, R142). -/
def execTripReset (origin tag : Byte) (params : List Byte) (s : State) : Host.Outcome State Fault Refusal :=
  .next (deliverRequest origin (RequestKind.code .tripReset) tag params s)

/-- RESTART (R188). -/
def execRestart (origin tag : Byte) (params : List Byte) (s : State) : Host.Outcome State Fault Refusal :=
  .next (deliverRequest origin (RequestKind.code .restart) tag params s)

/-- ZONE_INQUIRY (R151, R152). -/
def execZoneInquiry (origin tag : Byte) (params : List Byte) (s : State) : Host.Outcome State Fault Refusal :=
  .next (deliverRequest origin (RequestKind.code .zoneInquiry) tag params s)

/-- ZONE_HOLD (R156). -/
def execZoneHold (origin tag : Byte) (params : List Byte) (s : State) : Host.Outcome State Fault Refusal :=
  .next (deliverRequest origin (RequestKind.code .zoneHold) tag params s)

/-- ZONE_RELEASE (R158). -/
def execZoneRelease (origin tag : Byte) (params : List Byte) (s : State) : Host.Outcome State Fault Refusal :=
  .next (deliverRequest origin (RequestKind.code .zoneRelease) tag params s)

/-- STATUS_READ (R182). -/
def execStatusRead (origin tag : Byte) (params : List Byte) (s : State) : Host.Outcome State Fault Refusal :=
  .next (deliverRequest origin (RequestKind.code .statusRead) tag params s)

/-- POSITION_READ (R183). -/
def execPositionRead (origin tag : Byte) (params : List Byte) (s : State) : Host.Outcome State Fault Refusal :=
  .next (deliverRequest origin (RequestKind.code .positionRead) tag params s)

/-- COUNTER_READ (R187). -/
def execCounterRead (origin tag : Byte) (params : List Byte) (s : State) : Host.Outcome State Fault Refusal :=
  .next (deliverRequest origin (RequestKind.code .counterRead) tag params s)

end Sys2Proof.Machine
end

