-- ==== Sys2Proof/Machine/TimerCommands.lean ====
section
/-! DEFINITION. TimerCommands.lean: the meanings of the expiries and of the validation operation's end. -/

namespace Sys2Proof.Machine

/-- SAMPLE_WATCH_EXPIRY (R39). -/
def execSampleWatchExpiry (drum : Drum) (s : State) : Host.Outcome State Fault Refusal :=
  .next (expireSampleWatch drum s)

/-- REST_TIMER_EXPIRY (R44). -/
def execRestTimerExpiry (drum : Drum) (s : State) : Host.Outcome State Fault Refusal := .next (expireRestTimer drum s)

/-- VALIDATION_COMPLETE (R27). -/
def execValidationComplete (s : State) : Host.Outcome State Fault Refusal := .next (completeValidation s)

/-- REF_WATCH_EXPIRY (R87, R120). -/
def execRefWatchExpiry (s : State) : Host.Outcome State Fault Refusal := .next (expireWatch s)

/-- STOP_DEADLINE_EXPIRY (R124). -/
def execStopDeadlineExpiry (s : State) : Host.Outcome State Fault Refusal := .next (expireDeadline s)

/-- ECHO_TIMER_EXPIRY (R140). -/
def execEchoTimerExpiry (s : State) : Host.Outcome State Fault Refusal := .next (expireEcho s)

end Sys2Proof.Machine
end

