-- ==== Sys2Proof/Machine/Dispatch.lean ====
section
/-! DEFINITION. Dispatch.lean: one arm per command, each one call of its meaning. -/

namespace Sys2Proof.Machine

/-- The effect of a command on everything but the queue of waiting commands. -/
def exec (i : Instr) (s : State) : Host.Outcome State Fault Refusal :=
  match i with
  | .nrst => Sys2Proof.Machine.execNrst s
  | .keyChange position => Sys2Proof.Machine.execKeyChange position s
  | .frameRejected link bytes => Sys2Proof.Machine.execFrameRejected link bytes s
  | .drumSample origin target body => Sys2Proof.Machine.execDrumSample origin target body s
  | .sampleWatchExpiry drum => Sys2Proof.Machine.execSampleWatchExpiry drum s
  | .restTimerExpiry drum => Sys2Proof.Machine.execRestTimerExpiry drum s
  | .markerEvent origin target body => Sys2Proof.Machine.execMarkerEvent origin target body s
  | .ropeLoad origin target body => Sys2Proof.Machine.execRopeLoad origin target body s
  | .interlockState origin target body => Sys2Proof.Machine.execInterlockState origin target body s
  | .driveAnswer origin target body => Sys2Proof.Machine.execDriveAnswer origin target body s
  | .dLinkOtherFrame cls origin target body => Sys2Proof.Machine.execDLinkOtherFrame cls origin target body s
  | .speedReference origin target body => Sys2Proof.Machine.execSpeedReference origin target body s
  | .brakeCommand origin target body => Sys2Proof.Machine.execBrakeCommand origin target body s
  | .clutchCommand origin target body => Sys2Proof.Machine.execClutchCommand origin target body s
  | .brakeDemand origin target body => Sys2Proof.Machine.execBrakeDemand origin target body s
  | .downstreamOtherFrame cls origin target body => Sys2Proof.Machine.execDownstreamOtherFrame cls origin target body s
  | .dTransmitStart => Sys2Proof.Machine.execDTransmitStart s
  | .dTransmitEnd => Sys2Proof.Machine.execDTransmitEnd s
  | .cTransmitStart => Sys2Proof.Machine.execCTransmitStart s
  | .cTransmitEnd => Sys2Proof.Machine.execCTransmitEnd s
  | .unknownRequest origin kind tag params => Sys2Proof.Machine.execUnknownRequest origin kind tag params s
  | .rowLoad origin tag params => Sys2Proof.Machine.execRowLoad origin tag params s
  | .rowRead origin tag params => Sys2Proof.Machine.execRowRead origin tag params s
  | .commitPrepare origin tag params => Sys2Proof.Machine.execCommitPrepare origin tag params s
  | .validationComplete => Sys2Proof.Machine.execValidationComplete s
  | .commitConfirm origin tag params => Sys2Proof.Machine.execCommitConfirm origin tag params s
  | .commitCancel origin tag params => Sys2Proof.Machine.execCommitCancel origin tag params s
  | .tripRequest origin tag params => Sys2Proof.Machine.execTripRequest origin tag params s
  | .tripAbort origin tag params => Sys2Proof.Machine.execTripAbort origin tag params s
  | .refWatchExpiry => Sys2Proof.Machine.execRefWatchExpiry s
  | .stopDeadlineExpiry => Sys2Proof.Machine.execStopDeadlineExpiry s
  | .echoTimerExpiry => Sys2Proof.Machine.execEchoTimerExpiry s
  | .tripReset origin tag params => Sys2Proof.Machine.execTripReset origin tag params s
  | .restart origin tag params => Sys2Proof.Machine.execRestart origin tag params s
  | .zoneInquiry origin tag params => Sys2Proof.Machine.execZoneInquiry origin tag params s
  | .zoneHold origin tag params => Sys2Proof.Machine.execZoneHold origin tag params s
  | .zoneRelease origin tag params => Sys2Proof.Machine.execZoneRelease origin tag params s
  | .statusRead origin tag params => Sys2Proof.Machine.execStatusRead origin tag params s
  | .positionRead origin tag params => Sys2Proof.Machine.execPositionRead origin tag params s
  | .counterRead origin tag params => Sys2Proof.Machine.execCounterRead origin tag params s
  | .receiverIdle link => Sys2Proof.Machine.execReceiverIdle link s

end Sys2Proof.Machine
end

