-- ==== Sys2Proof/Machine/Step.lean ====
section
/-! DEFINITION. Step.lean: one step of the machine: the command at the front of the queue, or, with none waiting, the passing of
one microsecond. -/

namespace Sys2Proof.Machine

/-- One step: the command at the front is taken from the queue and has its effect on the rest; on an empty queue one
microsecond passes for the timers that run (assumptions 6 and 7, DESIGN CHOICE). -/
def step (s : State) : Host.Outcome State Fault Refusal :=
  match s.pending with
  | c :: rest => exec c { s with pending := rest }
  | [] => .next (passMicrosecond s)

/-- The state with the command that a word spells put at the front of the queue, or as it was where the word spells
none. -/
def State.withFetchWord (s : State) (nbits w : Nat) : State :=
  match decodeTableWord nbits w with
  | some c => { s with pending := c :: s.pending }
  | none => s

end Sys2Proof.Machine
end

