-- ==== Sys2Proof/WellFormed.lean ====
section
/-! DEFINITION. WellFormed.lean: which commands are what their rows say they are: bodies and parameters that a frame can carry,
classes and kinds that are not another row's, and rejected frames that R164 does reject. The machine gives every
command an effect, a command that is not well formed included (assumption 26, DESIGN CHOICE). -/

namespace Sys2Proof

open Machine in
/-- Bytes that a receiver in IDLE rejects: too many, or judged malformed or in error (R163, R164). -/
def rejected (bytes : List LineByte) : Bool :=
  match judgeFrame (bytes.map LineByte.value) (bytes.any fun b => !b.stopBit) with
  | .whole _ => false
  | _ => !bytes.isEmpty

/-- A body that a frame can carry (R172). -/
def bodyFits (body : List Byte) : Bool := decide (body.length ≤ 56)

/-- Parameters that a REQUEST can carry (R172). -/
def paramsFit (params : List Byte) : Bool := decide (params.length ≤ 54)

open Machine in
/-- A class that no block observes on the D-link: it has no row of its own (R167). -/
def isOtherField (cls : Byte) : Bool :=
  match classOf cls with
  | .drumSample => false
  | .markerEvent => false
  | .ropeLoad => false
  | .interlockState => false
  | .driveAnswer => false
  | _ => true

open Machine in
/-- A class that the Reference Guard passes as another class, a REQUEST not addressed to station 240 among them
(R111, R166). -/
def isOtherCommand (cls target : Byte) : Bool :=
  match classOf cls with
  | .speedReference => false
  | .brakeCommand => false
  | .clutchCommand => false
  | .brakeDemand => false
  | .request => decide (target ≠ Config.partStation)
  | _ => true

open Machine in
/-- A kind that is none of the fifteen codes (R177). -/
def isUndefinedKind (kind : Byte) : Bool := (RequestKind.ofByte kind).isNone

/-- A command is what its row says. -/
def Instr.wellFormed (i : Instr) : Bool :=
  match i with
  | .nrst => true
  | .keyChange _ => true
  | .frameRejected _ bytes => rejected bytes
  | .drumSample _ _ body => bodyFits body
  | .sampleWatchExpiry _ => true
  | .restTimerExpiry _ => true
  | .markerEvent _ _ body => bodyFits body
  | .ropeLoad _ _ body => bodyFits body
  | .interlockState _ _ body => bodyFits body
  | .driveAnswer _ _ body => bodyFits body
  | .dLinkOtherFrame cls _ _ body => isOtherField cls && bodyFits body
  | .speedReference _ _ body => bodyFits body
  | .brakeCommand _ _ body => bodyFits body
  | .clutchCommand _ _ body => bodyFits body
  | .brakeDemand _ _ body => bodyFits body
  | .downstreamOtherFrame cls _ target body => isOtherCommand cls target && bodyFits body
  | .dTransmitStart => true
  | .dTransmitEnd => true
  | .cTransmitStart => true
  | .cTransmitEnd => true
  | .unknownRequest _ kind _ params => isUndefinedKind kind && paramsFit params
  | .rowLoad _ _ params => paramsFit params
  | .rowRead _ _ params => paramsFit params
  | .commitPrepare _ _ params => paramsFit params
  | .validationComplete => true
  | .commitConfirm _ _ params => paramsFit params
  | .commitCancel _ _ params => paramsFit params
  | .tripRequest _ _ params => paramsFit params
  | .tripAbort _ _ params => paramsFit params
  | .refWatchExpiry => true
  | .stopDeadlineExpiry => true
  | .echoTimerExpiry => true
  | .tripReset _ _ params => paramsFit params
  | .restart _ _ params => paramsFit params
  | .zoneInquiry _ _ params => paramsFit params
  | .zoneHold _ _ params => paramsFit params
  | .zoneRelease _ _ params => paramsFit params
  | .statusRead _ _ params => paramsFit params
  | .positionRead _ _ params => paramsFit params
  | .counterRead _ _ params => paramsFit params
  | .receiverIdle _ => true

end Sys2Proof
end

