-- ==== Sys2Proof/Safety.lean ====
section
/-! DEFINITION. Safety.lean: what the manual says stands at every moment between commands, and the words the statements
use: each says in its own terms, over states before and after, what a rule says. -/

namespace Sys2Proof.Machine

/-! ### What stands between commands -/

/-- CHAIN is closed exactly while the supervisor state is UNDATUMED or ARMED (R129). -/
def ChainFollowsState (s : State) : Prop :=
  s.protection.chainClosed = true ↔ s.protection.state = .undatumed ∨ s.protection.state = .armed

/-- The state is ARMED only while all three trackers are DATUMED (R131). -/
def ArmedIsDatumed (s : State) : Prop := s.protection.state = .armed → allDatumed s = true

/-- P, the envelopes and the thresholds in force are those that the present inputs give (R107). -/
def EnvelopeCurrent (s : State) : Prop := s.envelope = computeEnvelope s

/-- The pipeline is empty in NO-TABLES and in TRIPPED (R75, R90). -/
def StoppedIsEmpty (s : State) : Prop :=
  s.protection.state = .noTables ∨ s.protection.state = .tripped →
    s.pipeline.active = none ∧ s.pipeline.waiting = none

/-- A trip waits only behind an active one (R74). -/
def WaitingHasActive (s : State) : Prop := s.pipeline.waiting.isSome → s.pipeline.active.isSome

/-- In TRIPPED the cause set contains the first cause (R138); in every other state there is neither (R142, R145). -/
def CausesFollowState (s : State) : Prop :=
  if s.protection.state = .tripped then
    match s.protection.firstCause with
    | some c => causePresent c s = true
    | none => False
  else s.protection.firstCause = none ∧ s.protection.causes = 0

/-- The downstream queue holds at most 8 frames, at most one of them a speed reference and at most one a brake demand
(R110, R115). -/
def DownQueueBounded (s : State) : Prop :=
  s.guard.queue.length ≤ 8 ∧ (s.guard.queue.filter DownFrame.isReference).length ≤ 1
    ∧ (s.guard.queue.filter DownFrame.isDemand).length ≤ 1

/-- The upstream queue holds at most 16 frames (R162), at most 12 of them FIELD (R169). -/
def UpQueueBounded (s : State) : Prop :=
  s.line.queue.length ≤ 16 ∧ (s.line.queue.filter fun f => decide (f.mark = .field)).length ≤ 12

/-- The release watch list holds at most 4 entries, no two the same (R154). -/
def WatchListBounded (s : State) : Prop := s.zones.watchList.length ≤ 4 ∧ s.zones.watchList.Nodup

/-- The history holds at most two records (R94). -/
def HistoryBounded (s : State) : Prop := s.pipeline.history.length ≤ 2

/-- Every counter stays within 0 to 65,535 (R186). -/
def CountersBounded (s : State) : Prop := ∀ n ∈ s.requests.counters.values, n ≤ 65535

/-- What the manual bounds: the two queues, the watch list, the history and the counters. -/
def Bounded (s : State) : Prop :=
  DownQueueBounded s ∧ UpQueueBounded s ∧ WatchListBounded s ∧ HistoryBounded s ∧ CountersBounded s

/-- The ACTIVE slot's trip stands in one of its five states, the WAITING slot's is queued (R72). -/
def SlotsHoldTheirStates (s : State) : Prop :=
  (∀ t, s.pipeline.active = some t → t.state ≠ .queued) ∧ (∀ t, s.pipeline.waiting = some t → t.state = .queued)

/-- The reference watch runs only under a RUNNING or CREEPING trip (R120), and a stop record stands only under a
STOPPING one (R110, R125). -/
def GuardFollowsTrip (s : State) : Prop :=
  (s.guard.watch.isSome → watchRuns s = true) ∧ (s.guard.stop.isSome → stopRuns s = true)

/-- The disagreement accumulator stands at 0 unless the clutch is IN, the hold accumulator unless it is OUT, and the
drift accumulator while a trip moves and in TRIPPED (R47 to R49). -/
def AccumulatorsHeld (s : State) : Prop :=
  (s.protection.image.clutch ≠ .engaged → s.drums.disagree = 0)
    ∧ (s.protection.image.clutch ≠ .disengaged → s.drums.hold = 0)
    ∧ (tripMoving s = true ∨ s.protection.state = .tripped → s.drums.drift = 0)

/-- Shadow banks of one commitment stand together: not one VALIDATING and another VALIDATED (R20). -/
def BanksTogether (s : State) : Prop := ¬(anyValidating s = true ∧ anyValidated s = true)

/-- One runtime record per active MARKER row (R11), and one holder per active ZONE row (R146). -/
def RecordsFitTables (s : State) : Prop :=
  s.tables.markers.length = (markers s).length ∧ s.zones.holders.length = (zoneList s).length

/-- The Zone Map holds what the trackers and the pipeline show now (R147, R148). -/
def ZoneMapCurrent (s : State) : Prop :=
  s.zones.occupancy = .of (fun c => occupancyOf c s) ∧ s.zones.activeSwept = sweptOf s.pipeline.active
    ∧ s.zones.waitingSwept = sweptOf s.pipeline.waiting
    ∧ s.zones.activeState = s.pipeline.active.map (·.state)

/-- No hold stands against a trip: on a zone of its swept set, or in the compartment of an UNDATUMED conveyance it
moves (R78). -/
def NoHoldAgainst (t : Trip) (s : State) : Prop := heldAgainst t s = []

/-- No hold stands against a trip of the pipeline (R78, R157). -/
def HoldsStandClear (s : State) : Prop :=
  (∀ t, s.pipeline.active = some t → NoHoldAgainst t s) ∧ (∀ t, s.pipeline.waiting = some t → NoHoldAgainst t s)

/-- Every watched zone is OCCUPIED or planned (R155). -/
def WatchedZonesBusy (s : State) : Prop := ∀ e ∈ s.zones.watchList, (summaryOf e.zone s).staysWatched = true

/-- Every downstream frame of class SPEED REFERENCE carries its source and a readable body, and no other does
(R110). -/
def ReferencesMarked (s : State) : Prop :=
  ∀ f ∈ s.guard.queue, (classOf f.frame.cls = .speedReference ↔ f.source.isSome)
    ∧ (f.source.isSome → (readSpeed f.frame.body).isSome)

/-! ### The words of the statements -/

/-- A link's receiver stands in IDLE, ready for a frame (R163). -/
def Ready (l : Link) (s : State) : Prop := receiver l s = .idle

/-- The command completes with this state. -/
def Completes (i : Instr) (s t : State) : Prop := exec i s = .next t

/-- A request completes: with its effects made, its one reply is offered upstream (R171, R178). -/
def Answers (i : Instr) (origin kind tag : Byte) (s after : State) (r : Reply) : Prop :=
  exec i s = .next (offerUp .part (replyFrame origin kind tag r) after)

/-- The code of a drum in a DRUM SAMPLE (R35). -/
def drumCode : Drum → Byte
  | .skip => 0
  | .cage => 1

/-- The other drum. -/
def otherDrum : Drum → Drum
  | .skip => .cage
  | .cage => .skip

/-- The body of an INTERLOCK STATE that carries this image (R172). -/
def imageBody (image : Interlock) : List Byte :=
  interlockBody image.readiness (byteOf image.clutch.code) (if image.brakeApplied then 1 else 2)

/-- What no field frame and no drum timer writes: KEY, the active banks, the holders, the receivers, both transmitters
and the last forwarded reference. -/
def LeavesAlone (s t : State) : Prop :=
  t.key = s.key ∧ t.tables.shaft.active = s.tables.shaft.active ∧ t.tables.profile.active = s.tables.profile.active
    ∧ t.tables.drum.active = s.tables.drum.active ∧ t.zones.holders = s.zones.holders
    ∧ t.line.cReceiver = s.line.cReceiver ∧ t.line.dReceiver = s.line.dReceiver
    ∧ t.line.transmitter = s.line.transmitter ∧ t.guard.transmitter = s.guard.transmitter
    ∧ t.guard.lastRef = s.guard.lastRef

/-- The supervisor state is UNDATUMED or ARMED, so that a cause takes a protective trip (R135). -/
def TakesCauses (s : State) : Prop := s.protection.state = .undatumed ∨ s.protection.state = .armed

/-- The next downstream queue and state when a frame joins its tail: appended, or dropped at a full queue (R114). -/
def joinsTail (f : DownFrame) (s : State) : State :=
  if s.guard.queue.length < 8 then { s with guard.queue := s.guard.queue ++ [f] }
  else setFlag .drop (count .droppedDown s)

/-- A D-link frame completes: with its effects made, it is offered upstream as FIELD (R167, R168). -/
def Forwards (i : Instr) (f : Frame) (s after : State) : Prop := exec i s = .next (offerUp .field f after)

/-- An upstream frame that is an ATTENTION notice to station 1 (R185). -/
def IsAttention (f : UpFrame) : Prop :=
  f.mark = .part ∧ ∃ bit flags : Nat,
    f.frame = makeFrame 0x42 240 1 [1, BitVec.ofNat 8 bit, BitVec.ofNat 8 (flags / 256), BitVec.ofNat 8 flags]

/-- A command that may empty the release watch list with no notice: NRST, RESTART, and COMMIT CONFIRM while the SHAFT bank
stands VALIDATED (R160, R161). -/
def EmptiesWatchList (c : Instr) (s : State) : Prop :=
  c = .nrst ∨ (∃ origin tag params, c = .restart origin tag params)
    ∨ ∃ origin tag params, c = .commitConfirm origin tag params ∧ s.tables.shaft.state = .validated

/-! ### Finishes and plans, as the statements say them -/

/-- A history record of this trip, outcome and cause, made in this state (R94). -/
def IsRecord (r : HistoryRecord) (trip : Trip) (outcome : TripOutcome) (cause : Option TripCause) (s : State) : Prop :=
  r.tag = trip.tag ∧ r.lead = trip.lead ∧ r.regime = trip.regime ∧ r.outcome = outcome ∧ r.cause = cause
    ∧ r.finalDepth = (tracker trip.lead.conveyance s).reported
    ∧ (∀ length, trip.kind = .travel length → r.travel = true ∧ r.deviation = none)
    ∧ ∀ k st, trip.kind = .station k → (stations s)[k]? = some st →
        r.travel = false ∧ r.deviation = some (r.finalDepth - st.stopDepth)

/-- The active trip finishes, and a waiting one is DISCARDED with its record ahead of the other's (R83, R94). -/
def FinishesBoth (trip : Trip) (outcome : TripOutcome) (cause : Option TripCause) (s t : State) : Prop :=
  t.pipeline.active = none ∧ t.pipeline.waiting = none
    ∧ ∃ r, IsRecord r trip outcome cause s
      ∧ (s.pipeline.waiting = none → t.pipeline.history = (r :: s.pipeline.history).take 2)
      ∧ ∀ w, s.pipeline.waiting = some w → ∃ r', IsRecord r' w .discarded none s ∧ t.pipeline.history = [r', r]

/-- A trip planned from where the conveyances stand: the present depth of each DATUMED one that it moves (R76, R84). -/
def StartsHere (trip : Trip) (s : State) : Prop :=
  ∀ c, trip.starts.get c =
    if inMovingSet trip.movesAll c = true ∧ (tracker c s).datumed = true then some (tracker c s).reported else none

/-- A STATION trip's drum direction takes its lead from its planned start toward the stop (R73). -/
def HeadsForStop (trip : Trip) (s : State) : Prop :=
  ∀ k st start, trip.kind = .station k → (stations s)[k]? = some st →
    trip.starts.get trip.lead.conveyance = some start →
    (start < st.stopDepth → goesDown trip.lead.conveyance trip.direction = true)
      ∧ (st.stopDepth < start → goesDown trip.lead.conveyance trip.direction = false)

/-- The planned ends of a trip: the stop for the lead of a STATION trip, and each other start moved by the rope travel in
its own trip direction (R77). -/
def EndsAsPlanned (trip : Trip) (s : State) : Prop :=
  ∃ rope : Int,
    (∀ length, trip.kind = .travel length → rope = length)
    ∧ (∀ k st start, trip.kind = .station k → (stations s)[k]? = some st →
        trip.starts.get trip.lead.conveyance = some start → rope = (st.stopDepth - start).natAbs)
    ∧ ∀ c, (trip.starts.get c = none → trip.ends.get c = none)
      ∧ ∀ start, trip.starts.get c = some start → ∃ finish, trip.ends.get c = some finish
        ∧ (∀ k st, trip.kind = .station k → (stations s)[k]? = some st → c = trip.lead.conveyance →
            finish = st.stopDepth)
        ∧ ((∃ length, trip.kind = .travel length) ∨ c ≠ trip.lead.conveyance →
            finish = if goesDown c trip.direction then start + rope else start - rope)

/-- A zone shares a depth with what a trip claims in its compartment: the body from start to end, longer by
`follower_margin` at a follower's far end (R78). -/
def Claims (trip : Trip) (z : ZoneRow) (s : State) : Prop :=
  ∃ row start finish, compartmentRow z.compartment s = some row ∧ trip.starts.get z.compartment = some start
    ∧ trip.ends.get z.compartment = some finish ∧
    let margin : Nat := if z.compartment = trip.lead.conveyance then 0 else followerMargin s
    let down := goesDown z.compartment trip.direction
    min start finish - row.bodyAbove - (if down then 0 else margin) ≤ z.bottom
      ∧ z.top ≤ max start finish + row.bodyBelow + (if down then margin else 0)

/-- A trip carries its plan: the planned ends of its starts, and the zones it claims, these and no other (R77, R78). -/
def CarriesItsPlan (trip : Trip) (s : State) : Prop :=
  EndsAsPlanned trip s ∧ ∀ n, n ∈ trip.swept ↔ ∃ z, (zoneList s)[n]? = some z ∧ Claims trip z s

/-- A hold stands against a trip: on a zone of its swept set, or in the compartment of an UNDATUMED conveyance that it
moves (R75, R84). -/
def MeetsHold (trip : Trip) (s : State) : Prop :=
  ∃ n z h, (zoneList s)[n]? = some z ∧ holderOf n s = some h
    ∧ (n ∈ trip.swept ∨ (inMovingSet trip.movesAll z.compartment = true ∧ (tracker z.compartment s).datumed = false))

/-- A trip's lead stands within the `window` of its station (R83, R84). -/
def StandsAtStop (trip : Trip) (s : State) : Prop :=
  ∃ k st, trip.kind = .station k ∧ (stations s)[k]? = some st
    ∧ ((tracker trip.lead.conveyance s).reported - st.stopDepth).natAbs ≤ st.window

/-- A waiting trip re-based for the ACTIVE slot: planned afresh from where the conveyances stand, in WAITING, with its
payout origin taken (R84). -/
def IsRebased (b w : Trip) (s : State) : Prop :=
  b = { w with starts := b.starts, ends := b.ends, swept := b.swept, direction := b.direction, state := .waiting,
               payoutOrigin := some (channel w.lead.drum s).payout }
    ∧ StartsHere b s ∧ HeadsForStop b s ∧ CarriesItsPlan b s
    ∧ ((∃ length, w.kind = .travel length) → b.direction = w.direction)
    ∧ (∀ k st, w.kind = .station k → (stations s)[k]? = some st →
        b.starts.get w.lead.conveyance = some st.stopDepth → b.direction = w.direction)

/-- The ACTIVE trip after the datum of a conveyance: for one that it moves with no planned start, the plan completed from
the depth then reported, over the trip's remaining travel, with the zones claimed so added to the swept set; otherwise
its plan as it was (R92). -/
def PlanTakesDatum (c : Conveyance) (s t : State) : Prop :=
  (s.pipeline.active = none → t.pipeline.active = none)
    ∧ ∀ trip, s.pipeline.active = some trip → ∃ new, t.pipeline.active = some new
      ∧ new = { trip with starts := new.starts, ends := new.ends, swept := new.swept, state := new.state }
      ∧ (new.state = trip.state ∨ trip.state = .running ∧ new.state = .creeping)
      ∧ let due := inMovingSet trip.movesAll c = true ∧ trip.starts.get c = none
        let here := (tracker c t).reported
        let travel := distanceToTarget trip t
        (¬due → new.starts = trip.starts ∧ new.ends = trip.ends ∧ new.swept = trip.swept)
        ∧ (due → new.starts = trip.starts.set c (some here)
          ∧ new.ends = trip.ends.set c (some (if goesDown c trip.direction then here + travel else here - travel))
          ∧ ∀ n, n ∈ new.swept ↔ ∃ z, (zoneList t)[n]? = some z
              ∧ (n ∈ trip.swept ∨ z.compartment = c ∧ Claims new z t))

/-- The active trip finishes with the waiting one promoted behind it: re-based, then DISCARDED for a hold, LANDED if
already there, or left in WAITING (R83, R84). -/
def FinishesAndPromotes (trip : Trip) (outcome : TripOutcome) (s t : State) : Prop :=
  t.pipeline.waiting = none
    ∧ ∃ r, IsRecord r trip outcome none s
      ∧ (s.pipeline.waiting = none →
          t.pipeline.active = none ∧ t.pipeline.history = (r :: s.pipeline.history).take 2)
      ∧ ∀ w, s.pipeline.waiting = some w → ∃ b, IsRebased b w s
        ∧ (MeetsHold b s → t.pipeline.active = none
            ∧ ∃ r', IsRecord r' b .discarded (some .held) s ∧ t.pipeline.history = [r', r])
        ∧ (¬MeetsHold b s → StandsAtStop b s → t.pipeline.active = none
            ∧ ∃ r', IsRecord r' b .landed none s ∧ t.pipeline.history = [r', r])
        ∧ (¬MeetsHold b s → ¬StandsAtStop b s → t.pipeline.active = some b
            ∧ t.pipeline.history = (r :: s.pipeline.history).take 2)

/-- The trip that the parameters of a TRIP REQUEST ask for meets condition 6: every field that is read lies in its
range, kind, lead and regime agree, and a station lies in the lead's compartment and allows the regime (R73, R75). -/
def AsksFor (params : List Byte) (a : TripAsked) (s : State) : Prop :=
  let p := readTripParams params
  a.tag = p.tag ∧ Lead.ofCode p.lead = some a.lead ∧ Regime.ofCode p.regime = some a.regime
    ∧ ((p.kind = 0 ∧ a.kind = .station p.station ∧ a.direction = .forward
          ∧ (∃ st, (stations s)[p.station]? = some st ∧ st.compartment = a.lead.conveyance
              ∧ st.allowed.getLsbD a.regime.index = true)
          ∧ (a.regime = .rock ∧ a.lead = .skip ∨ a.regime = .material ∧ a.lead = .cage
              ∨ a.regime = .persons ∧ a.lead = .cage ∨ a.regime = .inspection))
      ∨ (p.kind = 1 ∧ a.kind = .travel p.travel ∧ DrumDirection.ofCode p.direction = some a.direction
          ∧ 100 ≤ p.travel ∧ p.travel ≤ 100000 ∧ (a.regime = .inspection ∨ a.regime = .recovery)))

/-! ### Causes, depths and markers, as the statements say them -/

/-- A cause is reported between two states: outside NO-TABLES the part then stands in TRIPPED, with the cause in its
set (R135, R138). -/
def Reports (c : Cause) (s t : State) : Prop :=
  s.protection.state ≠ .noTables → t.protection.state = .tripped ∧ causePresent c t = true

/-- A conveyance's depths are those of its offset, its load and its drum's payout (R53, R55). -/
def DepthsFollow (c : Conveyance) (t : State) : Prop :=
  (tracker c t).baseFine = baseDepth c (tracker c t).offset (channel (drumOf c) t).payout
    ∧ (tracker c t).stretch =
        (match compartmentRow c t with
          | none => 0
          | some row => stretchAt row (tracker c t).load (mm (tracker c t).baseFine))
    ∧ (tracker c t).reported = mm (tracker c t).baseFine + (tracker c t).stretch

/-- A marker that a tracker may expect: of its compartment, not UNRELIABLE, strictly ahead of a depth (R62). -/
def LiesAhead (c : Conveyance) (dir : Direction) (here : Int) (m : MarkerRow) : Prop :=
  m.compartment = c ∧ m.unreliable = false ∧ (dir = .down ∧ here < m.depth ∨ dir = .up ∧ m.depth < here)

/-- An expectation is the nearest marker ahead of a depth, or NONE where there is none (R62, R63). -/
def IsNearest (expected : Option Nat) (c : Conveyance) (dir : Direction) (here : Int) (s : State) : Prop :=
  (expected = none → ∀ m ∈ markers s, ¬LiesAhead c dir here m)
    ∧ ∀ i, expected = some i → ∃ m, (markers s)[i]? = some m ∧ LiesAhead c dir here m
      ∧ ∀ m' ∈ markers s, LiesAhead c dir here m' →
        (dir = .down → m.depth ≤ m'.depth) ∧ (dir = .up → m'.depth ≤ m.depth)

/-- The expectation went on from a marker of this depth, if to any, then to one strictly beyond it (R63). -/
def WentBeyond (c : Conveyance) (depth : Int) (t : State) : Prop :=
  ∀ j m, (tracker c t).expected = some j → (markers t)[j]? = some m → LiesAhead c (tracker c t).direction depth m

/-- A conveyance stands beyond a marker by more than `miss_distance` (R64). -/
def HasPassed (c : Conveyance) (m : MarkerRow) (s : State) : Prop :=
  ∃ row, compartmentRow c s = some row
    ∧ ((tracker c s).direction = .down ∧ m.depth + row.missDistance < (tracker c s).reported
      ∨ (tracker c s).direction = .up ∧ (tracker c s).reported < m.depth - row.missDistance)

/-- The marker of this index is the one that a tracker expects. -/
def Expects (c : Conveyance) (i : Nat) (m : MarkerRow) (s : State) : Prop :=
  (tracker c s).expected = some i ∧ (markers s)[i]? = some m

/-- A miss of marker `i` was taken between two states: the miss flag and MISS stand set, the miss is counted, and the
marker is expected no more (R64, R65). -/
def TookMiss (c : Conveyance) (i : Nat) (s t : State) : Prop :=
  (tracker c t).missFlag = true ∧ flagSet .miss t = true ∧ (tracker c t).expected ≠ some i
    ∧ (s.requests.counters.misses < t.requests.counters.misses ∨ t.requests.counters.misses = 65535)

/-- A reported depth lies beyond a travel limit of its compartment (R66). -/
def BeyondLimits (c : Conveyance) (t : State) : Prop :=
  ∃ row, compartmentRow c t = some row
    ∧ ((tracker c t).reported < row.topLimit ∨ row.bottomLimit < (tracker c t).reported)

/-- The four facts of a slack rope (R67). -/
def RopeIsSlack (c : Conveyance) (t : State) : Prop :=
  (channel (drumOf c) t).lock = .locked ∧ 0 < (channel (drumOf c) t).speed ∧ (tracker c t).direction = .down
    ∧ ∃ row, compartmentRow c t = some row ∧ (tracker c t).load < row.slackThreshold

/-! ### Speeds, as the statements say them -/

/-- The largest whole number whose square does not exceed another (R102). -/
def IsFloorRoot (root n : Nat) : Prop := root * root ≤ n ∧ n < (root + 1) * (root + 1)

/-- The target constraint at a distance: 0 at the target, `v_creep` within `d_creep`, the braking curve beyond
(R100). -/
def IsTargetConstraint (v : Nat) (R : RegimeRow) (d : Int) : Prop :=
  (d ≤ 0 → v = 0) ∧ (0 < d → d ≤ R.dCreep → v = R.vCreep)
    ∧ ∀ beyond : Nat, d = R.dCreep + beyond → 0 < beyond → IsFloorRoot v (R.vCreep * R.vCreep + 2 * R.decel * beyond)

/-- A value constrains the speed of a conveyance that a trip moves, going in its trip direction: the regime ceiling always;
the ceiling of a zone that the body meets, if DATUMED; the target constraint, of the lead or if DATUMED; and the braking
curve to a zone ahead of the leading edge and no farther than the target, if DATUMED (R97 to R103). -/
def Constrains (v : Nat) (trip : Trip) (c : Conveyance) (R : RegimeRow) (row : CompartmentRow) (s : State) : Prop :=
  let here := (tracker c s).reported
  let datumed := (tracker c s).datumed = true
  let down := goesDown c trip.direction = true
  let d : Int :=
    if c = trip.lead.conveyance then distanceToTarget trip s
    else if down then row.bottomLimit - here else here - row.topLimit
  v = R.vMax
  ∨ (datumed ∧ ∃ z ∈ zoneList s, z.compartment = c ∧ z.top ≤ here + row.bodyBelow ∧ here - row.bodyAbove ≤ z.bottom
      ∧ v = z.ceiling)
  ∨ ((datumed ∨ c = trip.lead.conveyance) ∧ IsTargetConstraint v R d)
  ∨ (datumed ∧ ∃ z ∈ zoneList s, z.compartment = c ∧ ∃ ahead : Nat,
      (down → (ahead : Int) = z.top - (here + row.bodyBelow))
      ∧ (¬down → (ahead : Int) = here - row.bodyAbove - z.bottom)
      ∧ 0 < ahead ∧ (ahead : Int) ≤ d ∧ IsFloorRoot v (z.ceiling * z.ceiling + 2 * R.decel * ahead))

/-! ### Movements, as the statements say them -/

/-- The at-rest flag and rest timer after a movement (R44). -/
def RestFollows (d : Drum) (s t : State) : Prop :=
  ∀ T, timingRow s = some T →
    (T.restSpeed < (channel d t).speed → (channel d t).atRest = false ∧ (channel d t).restTimer = none)
    ∧ ((channel d t).speed ≤ T.restSpeed →
      ((channel d s).restTimer = none → (channel d t).restTimer = some { lengthMs := T.restTime, runUs := 0 }
        ∧ (channel d t).atRest = (channel d s).atRest)
      ∧ ∀ timer, (channel d s).restTimer = some timer →
          (channel d t).restTimer = some { lengthMs := T.restTime, runUs := timer.runUs }
          ∧ ((channel d t).atRest = true ↔ (channel d s).atRest = true ∨ T.restTime * 1000 ≤ timer.runUs))

/-- What the trackers of a drum make of a movement: depths, direction, a search afresh at a reversal, and the checks
for misses, overwind and slack; the other drum's trackers take nothing (R53, R55, R56, R62, R64, R66, R67). That a reversal
finds the expectation afresh before the miss check is the model's choice (assumption 31). -/
def TrackersFollow (d : Drum) (s t : State) : Prop :=
  ∀ c, (drumOf c ≠ d → tracker c t = tracker c s)
    ∧ (drumOf c = d →
      DepthsFollow c t ∧ (tracker c t).offset = (tracker c s).offset ∧ (tracker c t).load = (tracker c s).load
      ∧ (tracker c t).datumed = (tracker c s).datumed
      ∧ (tracker c t).direction = directionUnder c (channel d t).sense
      ∧ ((tracker c s).datumed = true → (tracker c t).direction ≠ (tracker c s).direction →
          IsNearest (tracker c t).expected c (tracker c t).direction (tracker c t).reported t)
      ∧ ((tracker c s).datumed = true → (tracker c t).direction = (tracker c s).direction →
          (tracker c t).reported ≠ (tracker c s).reported →
          (∀ i m, Expects c i m s → HasPassed c m t → TookMiss c i s t)
          ∧ ((∀ i m, Expects c i m s → ¬HasPassed c m t) → (tracker c t).expected = (tracker c s).expected
              ∧ (tracker c t).missFlag = (tracker c s).missFlag))
      ∧ ((tracker c s).datumed = true → (tracker c t).reported ≠ (tracker c s).reported → BeyondLimits c t →
          Reports .overwind s t)
      ∧ (RopeIsSlack c t → Reports .slack s t))

/-- A movement that no trip allows: with the ACTIVE slot empty, or against the direction of a trip in WAITING (R49). -/
def CountsAsDrift (delta : Int) (s : State) : Prop :=
  s.pipeline.active = none ∨ ∃ trip, s.pipeline.active = some trip ∧ trip.state = .waiting
    ∧ (trip.direction = .forward ∧ delta < 0 ∨ trip.direction = .reverse ∧ 0 < delta)

/-- The disagreement and hold accumulators after a movement, and the causes of the three accumulators (R41, R47 to
R49). -/
def AccumulatorsTake (d : Drum) (r : DrumRow) (delta : Int) (s t : State) : Prop :=
  let engaged := s.protection.image.clutch = .engaged
  let disengaged := s.protection.image.clutch = .disengaged
  let disagrees := engaged ∧ r.disagreeLimit < t.drums.disagree.natAbs
  let creeps := disengaged ∧ d = .cage ∧ r.holdLimit < t.drums.hold
  (engaged → d = .skip → t.drums.disagree = s.drums.disagree + delta)
    ∧ (engaged → d = .cage → t.drums.disagree = s.drums.disagree - delta)
    ∧ (¬engaged → t.drums.disagree = s.drums.disagree)
    ∧ (disengaged ∧ d = .cage → t.drums.hold = s.drums.hold + delta.natAbs)
    ∧ (¬(disengaged ∧ d = .cage) → t.drums.hold = s.drums.hold)
    ∧ (disagrees → Reports .disagree s t) ∧ (creeps → Reports .creep s t)
    ∧ ((channel d s).lock = .locking 3 → r.driftLimit < delta.natAbs → Reports .unplanned s t)
    ∧ (TakesCauses s → CountsAsDrift delta s → r.driftLimit < s.drums.drift + delta.natAbs → ¬disagrees → ¬creeps →
        t.protection.state = .tripped ∧ t.protection.firstCause = some .unplanned)
    ∧ (TakesCauses s → CountsAsDrift delta s → t.protection.state ≠ .tripped →
        t.drums.drift = if winderAtRest s = false ∧ winderAtRest t = true then 0 else s.drums.drift + delta.natAbs)

/-- A movement of a drum brought it newly to rest, and every drum that a trip moves then stands at rest (R44, R83). -/
def LastToRest (d : Drum) (movesAll : Bool) (s t : State) : Prop :=
  (channel d s).atRest = false ∧ (channel d t).atRest = true
    ∧ ∀ x, isMovingDrum movesAll x = true → (channel x t).atRest = true

/-- The finish of a trip in SETTLING: a TRAVEL trip COMPLETED, a STATION trip LANDED within its `window`, and OFF-STATION
beyond it; the waiting trip promoted behind the first two, DISCARDED behind the last (R83, R84). -/
def FinishesSettled (trip : Trip) (s t : State) : Prop :=
  ((∃ length, trip.kind = .travel length) → FinishesAndPromotes trip .completed s t)
    ∧ ∀ k st, trip.kind = .station k → (stations s)[k]? = some st →
      (StandsAtStop trip s → FinishesAndPromotes trip .landed s t)
      ∧ (¬StandsAtStop trip s → FinishesBoth trip .offStation none s t)

/-- The active trip after a movement that took no protective trip: the start, the creep band, settling and moving on, each
with its part of the reference watch, and its finish from SETTLING and STOPPING where the movement brings the last of
its drums to rest, recorded and promoted behind from the depths after the movement (R80 to R84, R94, R120, R125). -/
def TripFollows (d : Drum) (delta : Int) (s t : State) : Prop :=
  ∀ trip R T, s.pipeline.active = some trip → regimeRow trip.regime s = some R → timingRow s = some T →
    t.protection.state ≠ .tripped →
    let fast := T.restSpeed < (channel d t).speed
    let along := trip.direction = .forward ∧ 0 < delta ∨ trip.direction = .reverse ∧ delta < 0
    let turns (x : Drum) := isMovingDrum trip.movesAll x = true
    let slows := turns d ∧ ∀ x, turns x → (channel x t).speed ≤ T.restSpeed
    let rested := LastToRest d trip.movesAll s t
    let moved : State := { t with pipeline := s.pipeline }
    let becomes (st : TripState) := t.pipeline.active = some { trip with state := st }
    let onward : TripState := if distanceToTarget trip t ≤ (R.dCreep : Int) then .creeping else .running
    let restarted := t.guard.watch = some { lengthMs := T.refWatch, runUs := 0 }
    let settles := (rested → FinishesSettled trip moved t ∧ t.guard.stop = none) ∧ (¬rested → becomes .settling)
    (trip.state = .waiting →
      (d = trip.lead.drum ∧ along ∧ fast → becomes onward ∧ t.drums.drift = 0 ∧ restarted)
      ∧ (¬(d = trip.lead.drum ∧ along ∧ fast) → becomes .waiting))
    ∧ (trip.state = .running →
      (slows → settles ∧ t.guard.watch = none) ∧ (¬slows → becomes onward ∧ t.guard.watch = s.guard.watch))
    ∧ (trip.state = .creeping →
      (slows → settles ∧ t.guard.watch = none) ∧ (¬slows → becomes .creeping ∧ t.guard.watch = s.guard.watch))
    ∧ (trip.state = .settling →
      (turns d ∧ fast → becomes .creeping ∧ restarted)
      ∧ (¬(turns d ∧ fast) → settles ∧ (rested → t.guard.watch = none)))
    ∧ (trip.state = .stopping →
      (rested → FinishesBoth trip .aborted trip.cause moved t ∧ t.guard.watch = none ∧ t.guard.stop = none)
      ∧ (¬rested → becomes .stopping))

/-- What a LOCKED channel's loss of lock brings, by a sample that is not good or by its watch. SAMPLE is raised under a
moving trip or where the drum was not at rest just before; a trip under way finishes TRIPPED, one in WAITING ABORTED,
NOT-READY, or either of the two where both arise (assumption 1), and the one behind it is DISCARDED. An open commitment is
abandoned outside NO-TABLES, with reason MOTION: the Table Store takes the loss before the protective trip (assumption 12),
or, where the pipeline's abort and the trip both arise, on either side of it. The trackers and the other drum keep
theirs (R28, R29, R38, R46, R89, R90). -/
def LossFollows (d : Drum) (s t : State) : Prop :=
  let still := (channel d s).atRest = true
  let raises := tripMoving s = true ∨ (channel d s).atRest = false
  let waits := ∃ trip, s.pipeline.active = some trip ∧ trip.state = .waiting
  let abandoned (reason : AbandonReason) := t.tables.result = .abandoned (openSet s) reason
  channel (otherDrum d) t = channel (otherDrum d) s ∧ t.trackers = s.trackers ∧ LeavesAlone s t
    ∧ (TakesCauses s → raises →
        t.protection.state = .tripped ∧ t.protection.firstCause = some .sample ∧ t.protection.chainClosed = false)
    ∧ (s.protection.state = .tripped → raises → causePresent .sample t = true)
    ∧ (¬raises ∨ s.protection.state = .noTables → t.protection = s.protection)
    ∧ (¬raises → ¬waits → t.pipeline = s.pipeline)
    ∧ (∀ trip, s.pipeline.active = some trip →
        let trips := FinishesBoth trip .tripped (some (.protective .sample)) s t
        let aborts := FinishesBoth trip .aborted (some .notReady) s t
        (TakesCauses s → tripMoving s = true → trips)
        ∧ (trip.state = .waiting → still → aborts)
        ∧ (TakesCauses s → trip.state = .waiting → ¬still → aborts ∨ trips))
    ∧ (s.protection.state = .noTables ∨ commitmentOpen s = false → t.tables = s.tables)
    ∧ (s.protection.state ≠ .noTables → commitmentOpen s = true →
        (∀ b, bank b t = { bank b s with state := .loading }) ∧ t.tables.markers = s.tables.markers
        ∧ flagSet .valid t = true ∧ (abandoned .motion ∨ abandoned .trip)
        ∧ (¬(waits ∧ ¬still) → abandoned .motion))

/-- A controlled stop's ramp at a sample of the lead's drum: it falls by `stop_decel` × Δt, a speed above it counts
toward STOP-FAIL at the third, and otherwise the substitute joins the queue; unless that sample brings the last of the
trip's drums to rest, and so ends the stop (R83, R122, R123). -/
def RampFollows (d : Drum) (dt : Nat) (s t : State) : Prop :=
  ∀ trip R stop, s.pipeline.active = some trip → trip.state = .stopping → d = trip.lead.drum →
    regimeRow trip.regime s = some R → s.guard.stop = some stop → ¬LastToRest d trip.movesAll s t →
    let value := stop.rampValue - R.stopDecel * dt
    let run := if value / 1000000 + R.marginAbs < (channel d t).speed then min (stop.overRun + 1) 3 else 0
    let magnitude : Int := (min (value / 1000000) t.envelope.permitted : Nat)
    let substitute := makeFrame 0x10 240 s.guard.lastRef.target
      (speedBody (s.guard.lastRef.seq + 1) (if stop.forward then magnitude else -magnitude) 2)
    (t.protection.state ≠ .tripped →
      t.guard.stop = some { stop with rampValue := value, rampSpeed := value / 1000000, overRun := run }
      ∧ (run < 3 → t.guard.queue = (coalesce { frame := substitute, source := some .substitute } s).guard.queue))
    ∧ (run = 3 → TakesCauses s → t.protection.state = .tripped
        ∧ (t.protection.firstCause = some .stopFail
          ∨ ∃ c ∈ [Cause.unplanned, .disagree, .creep, .position, .overwind, .slack, .overspeed],
              t.protection.firstCause = some c))

/-! ### Rows and checks, as the statements say them -/

/-- A depth of the line (00_scope, "Depth"). -/
def IsDepth (d : Int) : Prop := -50000 ≤ d ∧ d ≤ 4200000

/-- Every field of a row lies in its range (R5, R6, R10, R12 to R19). -/
def FieldsInRange : Row → Prop
  | .shaft r => r.pairSum ≤ 8400000 ∧ 10 ≤ r.pairTolerance ∧ r.pairTolerance ≤ 5000 ∧ r.followerMargin ≤ 20000
  | .compartment r =>
    IsDepth r.topLimit ∧ IsDepth r.bottomLimit ∧ r.topLimit < r.bottomLimit ∧ r.bodyAbove ≤ 30000
      ∧ r.bodyBelow ≤ 30000 ∧ r.sheaveHeight ≤ 200000 ∧ r.compliance ≤ 1000 ∧ 10 ≤ r.syncWindow
      ∧ r.syncWindow ≤ 2000 ∧ 100 ≤ r.missDistance ∧ r.missDistance ≤ 10000 ∧ r.slackThreshold ≤ 20000
  | .marker r => 1 ≤ r.markerId ∧ r.markerId ≤ 65535 ∧ IsDepth r.depth
  | .zone r => IsDepth r.top ∧ IsDepth r.bottom ∧ r.top < r.bottom ∧ 100 ≤ r.ceiling ∧ r.ceiling ≤ 20000
  | .station r =>
    (r.compartment = .skip ∨ r.compartment = .cage) ∧ IsDepth r.stopDepth ∧ 20 ≤ r.window ∧ r.window ≤ 1000
      ∧ r.allowed.toNat ≤ 15
  | .timing r =>
    50 ≤ r.refWatch ∧ r.refWatch ≤ 1000 ∧ 5 ≤ r.restSpeed ∧ r.restSpeed ≤ 100 ∧ 100 ≤ r.restTime ∧ r.restTime ≤ 5000
  | .regime r =>
    100 ≤ r.vMax ∧ r.vMax ≤ 20000 ∧ 100 ≤ r.decel ∧ r.decel ≤ 3000 ∧ 100 ≤ r.vCreep ∧ r.vCreep ≤ 2000
      ∧ r.dCreep ≤ 20000 ∧ 50 ≤ r.marginAbs ∧ r.marginAbs ≤ 2000 ∧ r.marginPct ≤ 25 ∧ 100 ≤ r.stopDecel
      ∧ r.stopDecel ≤ 3000
  | .drum r =>
    1000 ≤ r.samplePeriod ∧ r.samplePeriod ≤ 10000 ∧ 5 ≤ r.sampleWatch ∧ r.sampleWatch ≤ 100 ∧ 10 ≤ r.disagreeLimit
      ∧ r.disagreeLimit ≤ 100000 ∧ 1 ≤ r.holdLimit ∧ r.holdLimit ≤ 10000 ∧ 1 ≤ r.driftLimit ∧ r.driftLimit ≤ 10000
  | .layers r =>
    1 ≤ r.layerCount ∧ r.layerCount ≤ 4
      ∧ ∀ i l, [r.layer0, r.layer1, r.layer2, r.layer3][i]? = some l →
        (i < r.layerCount → -(2 ^ 31) ≤ l.startCount ∧ l.startCount < 2 ^ 31 ∧ 1 ≤ l.scale ∧ l.scale ≤ 1048575)
        ∧ (r.layerCount ≤ i → l = { startCount := 0, scale := 0 })

/-- A row is of the kind that its table has at this number, and its kind's count in the shadow bank is below its limit
(R4, R15 to R17). -/
def StandsAt (table : TableId) (n : Nat) (held : List Row) (row : Row) : Prop :=
  match table, n, row with
  | .shaft, 0, .shaft _ => True
  | .shaft, 1, .compartment r => r.compartment = .skip
  | .shaft, 2, .compartment r => r.compartment = .cage
  | .shaft, 3, .compartment r => r.compartment = .counterweight
  | .shaft, _ + 4, .marker _ => (markerRows held).length < 96
  | .shaft, _ + 4, .zone _ => (zoneRows held).length < 64
  | .shaft, _ + 4, .station _ => (stationRows held).length < 32
  | .profile, 0, .timing _ => True
  | .profile, _ + 1, .regime _ => True
  | .drum, 0, .drum _ => True
  | .drum, _ + 1, .layers _ => True
  | _, _, _ => False

/-- Row `n` is an entry row of a kind, with the compartment and depth that order it (R25). -/
def EntryAt (rows : List Row) (n kind : Nat) (c : Conveyance) (depth : Int) : Prop :=
  (kind = 2 ∧ ∃ m : MarkerRow, rows[n]? = some (.marker m) ∧ m.compartment = c ∧ m.depth = depth)
    ∨ (kind = 3 ∧ ∃ z : ZoneRow, rows[n]? = some (.zone z) ∧ z.compartment = c ∧ z.top = depth)
    ∨ (kind = 4 ∧ ∃ st : StationRow, rows[n]? = some (.station st) ∧ st.compartment = c ∧ st.stopDepth = depth)

/-- Row `n` is a ZONE row of a compartment. -/
def ZoneAt (rows : List Row) (n : Nat) (c : Conveyance) (z : ZoneRow) : Prop :=
  rows[n]? = some (.zone z) ∧ z.compartment = c

/-- Row `m` is the last ZONE row of a compartment before row `n`. -/
def ZoneBefore (rows : List Row) (m n : Nat) (c : Conveyance) (z : ZoneRow) : Prop :=
  m < n ∧ ZoneAt rows m c z ∧ ∀ j z', m < j → j < n → ¬ZoneAt rows j c z'

/-- A check names row `n` of a table's rows (R25, R26). -/
def Names (check : Check) (table : TableId) (rows : List Row) (n : Nat) : Prop :=
  match check with
  | .entryOrder => table = .shaft ∧ ∃ m kind c depth c' depth', m < n ∧ EntryAt rows n kind c depth
      ∧ EntryAt rows m kind c' depth' ∧ (∀ j c'' depth'', m < j → j < n → ¬EntryAt rows j kind c'' depth'')
      ∧ ¬(c'.index < c.index ∨ c' = c ∧ depth' < depth)
  | .markerId => table = .shaft ∧ ∃ m r r', m < n ∧ rows[n]? = some (.marker r) ∧ rows[m]? = some (.marker r')
      ∧ r'.markerId = r.markerId
  | .zoneCover => table = .shaft
      ∧ ((∃ r, rows[n]? = some (.compartment r)
          ∧ ((∀ j z, ¬ZoneAt rows j r.compartment z)
            ∨ ∃ m z, ZoneBefore rows m rows.length r.compartment z ∧ z.bottom ≠ r.bottomLimit))
        ∨ ∃ z, rows[n]? = some (.zone z)
          ∧ ((∃ m z', ZoneBefore rows m n z.compartment z' ∧ z.top ≠ z'.bottom + 1)
            ∨ ((∀ j z', j < n → ¬ZoneAt rows j z.compartment z')
              ∧ ∃ r, compartmentOf rows z.compartment = some r ∧ z.top ≠ r.topLimit)))
  | .withinLimits => table = .shaft ∧ ∃ kind c depth r, kind ≠ 3 ∧ EntryAt rows n kind c depth
      ∧ compartmentOf rows c = some r ∧ (depth < r.topLimit ∨ r.bottomLimit < depth)
  | .stationRegime => table = .shaft ∧ ∃ st : StationRow, rows[n]? = some (.station st)
      ∧ (st.allowed.getLsbD 2 = true ∧ st.compartment ≠ .cage ∨ st.allowed.getLsbD 0 = true ∧ st.compartment ≠ .skip)
  | .creepMax => table = .profile ∧ ∃ r, rows[n]? = some (.regime r) ∧ r.vMax < r.vCreep
  | .inspectionMax => table = .profile ∧ n = 4 ∧ ∃ r, rows[n]? = some (.regime r) ∧ 2000 < r.vMax
  | .recoverySpeeds => table = .profile ∧ n = 5 ∧ ∃ r, rows[n]? = some (.regime r)
      ∧ (1000 < r.vMax ∨ r.vMax ≠ r.vCreep)
  | .layerStart => table = .drum ∧ ∃ r, rows[n]? = some (.layers r) ∧ r.layer0.startCount ≠ 0
  | .layerOrder => table = .drum ∧ ∃ r i a b, rows[n]? = some (.layers r) ∧ i + 1 < r.layerCount
      ∧ [r.layer0, r.layer1, r.layer2, r.layer3][i]? = some a
      ∧ [r.layer0, r.layer1, r.layer2, r.layer3][i + 1]? = some b ∧ b.startCount ≤ a.startCount

end Sys2Proof.Machine
end

