-- ==== Sys2Proof/Certificates/Slice0/Obligations.lean ====
section
/-! DEFINITION. Obligations.lean: the statements for the provers. Each docstring names the rules of spec/ that the statement
rests on. Names of shared operations stand for what their own definitions, and the statements about them, say. -/

open Sys2Proof Sys2Proof.Machine

/-! ### Lines and frames (chapter 10) -/

/-- A frame made with its check word and received whole is judged whole, with every field as sent; with a stop bit absent,
or with any other check word, it is judged in error (R164, R165, R172). -/
def Obligations.FramesSurviveTheLine : Prop :=
  ∀ (cls origin target : Byte) (body : List Byte), body.length ≤ 56 →
    judgeFrame (frameBytes (makeFrame cls origin target body)) false = .whole (makeFrame cls origin target body)
    ∧ judgeFrame (frameBytes (makeFrame cls origin target body)) true = .checkError
    ∧ ∀ w, w ≠ (makeFrame cls origin target body).check →
        judgeFrame (frameBytes { makeFrame cls origin target body with check := w }) false = .checkError

/-- Every frame and request command completes: on a receiver in IDLE, its frame reaches the block that owns its class, and
a request is served under its own kind code with its origin, tag and parameters as sent (R163 to R167, R171, R177). That
a frame comes as its whole run of bytes with the silence behind it, and that a command with another row's class or kind
is handled by its bytes, are the model's choices (assumptions 10 and 26). -/
def Obligations.FrameCommandsReachTheirBlock : Prop :=
  (∀ (s : State) (origin target : Byte) (body : List Byte), body.length ≤ 56 →
    (Ready .d s →
      Completes (.drumSample origin target body) s (takeFromD (makeFrame 0x20 origin target body) s)
      ∧ Completes (.markerEvent origin target body) s (takeFromD (makeFrame 0x21 origin target body) s)
      ∧ Completes (.ropeLoad origin target body) s (takeFromD (makeFrame 0x22 origin target body) s)
      ∧ Completes (.interlockState origin target body) s (takeFromD (makeFrame 0x23 origin target body) s)
      ∧ Completes (.driveAnswer origin target body) s (takeFromD (makeFrame 0x24 origin target body) s)
      ∧ ∀ cls, Completes (.dLinkOtherFrame cls origin target body) s (takeFromD (makeFrame cls origin target body) s))
    ∧ (Ready .c s →
      Completes (.speedReference origin target body) s (takeFromC (makeFrame 0x10 origin target body) s)
      ∧ Completes (.brakeCommand origin target body) s (takeFromC (makeFrame 0x11 origin target body) s)
      ∧ Completes (.clutchCommand origin target body) s (takeFromC (makeFrame 0x12 origin target body) s)
      ∧ Completes (.brakeDemand origin target body) s (takeFromC (makeFrame 0x13 origin target body) s)
      ∧ ∀ cls, Completes (.downstreamOtherFrame cls origin target body) s
          (takeFromC (makeFrame cls origin target body) s)))
  ∧ (∀ (s : State) (origin tag : Byte) (params : List Byte), Ready .c s → params.length ≤ 54 →
    (∀ kind, Completes (.unknownRequest origin kind tag params) s (serveRequest origin kind tag params s))
    ∧ Completes (.rowLoad origin tag params) s (serveRequest origin 0x01 tag params s)
    ∧ Completes (.rowRead origin tag params) s (serveRequest origin 0x02 tag params s)
    ∧ Completes (.commitPrepare origin tag params) s (serveRequest origin 0x03 tag params s)
    ∧ Completes (.commitConfirm origin tag params) s (serveRequest origin 0x04 tag params s)
    ∧ Completes (.commitCancel origin tag params) s (serveRequest origin 0x05 tag params s)
    ∧ Completes (.tripRequest origin tag params) s (serveRequest origin 0x06 tag params s)
    ∧ Completes (.tripAbort origin tag params) s (serveRequest origin 0x07 tag params s)
    ∧ Completes (.tripReset origin tag params) s (serveRequest origin 0x08 tag params s)
    ∧ Completes (.restart origin tag params) s (serveRequest origin 0x09 tag params s)
    ∧ Completes (.zoneInquiry origin tag params) s (serveRequest origin 0x0A tag params s)
    ∧ Completes (.zoneHold origin tag params) s (serveRequest origin 0x0B tag params s)
    ∧ Completes (.zoneRelease origin tag params) s (serveRequest origin 0x0C tag params s)
    ∧ Completes (.statusRead origin tag params) s (serveRequest origin 0x0D tag params s)
    ∧ Completes (.positionRead origin tag params) s (serveRequest origin 0x0E tag params s)
    ∧ Completes (.counterRead origin tag params) s (serveRequest origin 0x0F tag params s))

/-- Bytes that fail R164 are dropped: a frame of wrong size or length field counts as malformed, once, however long; one
with a failed check counts as a check error of its link and sets LINK (R163, R164). -/
def Obligations.RejectedFramesAreCounted : Prop :=
  ∀ (s : State) (l : Link) (bytes : List LineByte), Ready l s → rejected bytes = true →
    let bad := bytes.any fun b => !b.stopBit
    (62 < bytes.length → Completes (.frameRejected l bytes) s (count .malformed s))
    ∧ (judgeFrame (bytes.map LineByte.value) bad = .malformed →
        Completes (.frameRejected l bytes) s (count .malformed s))
    ∧ (bytes.length ≤ 62 → judgeFrame (bytes.map LineByte.value) bad = .checkError →
        Completes (.frameRejected l bytes) s
          (setFlag .link (count (match l with | .c => .checkErrorsC | .d => .checkErrorsD) s)))

/-- Silence on a link ends what its receiver was doing, by the table of R163; and a receiver still in WAITING-IDLE
delivers nothing of the bytes it sees, however they read (R163). That frames come as whole runs of bytes is assumption
10. -/
def Obligations.SilenceEndsAFrame : Prop :=
  ∀ (s : State) (l : Link),
    (Ready l s → Completes (.receiverIdle l) s s)
    ∧ (receiver l s = .waitingIdle → ∀ bytes, Completes (.receiverIdle l) s (setReceiver l .idle s)
        ∧ Completes (.frameRejected l bytes) s (setReceiver l .idle s))
    ∧ (receiver l s = .discarding → ∀ bytes,
        Completes (.receiverIdle l) s (count .malformed (setReceiver l .idle s))
        ∧ Completes (.frameRejected l bytes) s (count .malformed (setReceiver l .idle s)))
    ∧ (∀ buffer bad, receiver l s = .receiving buffer bad →
        Completes (.receiverIdle l) s (takeJudged l (judgeFrame buffer bad) (setReceiver l .idle s)))

/-- Frames of no block: a D-link frame of another class is offered upstream unchanged, and a REQUEST from the D-link is
malformed; a C-link frame of another class joins the downstream queue unchanged; and a field frame of wrong length, or
with a value that its layout does not define, is offered upstream with no other effect (R35, R54, R57, R111, R114, R133,
R166, R167). The upstream queue they are offered to, the attention flags and the counters: a FIELD frame joins the tail below 12
frames, a PART frame below 16, and a frame without room is counted and sets DROP (R169); a clear flag that is set offers
one notice to station 1, of the flag and the whole set with it, and a set one none (R184, R185); an event of a counter
raises that counter by one, held at 65,535, and no other (R186). -/
def Obligations.OtherFramesPass : Prop :=
  (∀ (m : UpMark) (f : Frame) (s : State),
    let room := s.line.queue.length < (match m with | .field => 12 | .part => 16)
    (room → offerUp m f s = { s with line.queue := s.line.queue ++ [{ frame := f, mark := m }] })
    ∧ (¬room → offerUp m f s = setFlag .drop (count .droppedUp s)))
  ∧ (∀ (bit : Nat) (f : Flag) (s : State),
    [Flag.start, .trip, .finish, .clamp, .stop, .miss, .suspect, .link, .drop, .datum, .valid, .silent][bit]? = some f →
    (flagSet f s = s.requests.flags.getLsbD bit)
    ∧ (flagSet f s = true → setFlag f s = s)
    ∧ (flagSet f s = false →
        let flags := s.requests.flags ||| BitVec.ofNat 12 (2 ^ bit)
        let notice := makeFrame 0x42 240 1
          [1, BitVec.ofNat 8 bit, BitVec.ofNat 8 (flags.toNat / 256), BitVec.ofNat 8 flags.toNat]
        setFlag f s = offerUp .part notice { s with requests.flags := flags }))
  ∧ (∀ (i : Nat) (c : Counter) (s : State),
    [Counter.clamped, .superseded, .droppedDown, .droppedUp, .blocked, .checkErrorsC, .checkErrorsD, .malformed, .syncs,
      .misses, .foreign][i]? = some c →
    let all (k : Counters) : List Nat :=
      [k.clamped, k.superseded, k.droppedDown, k.droppedUp, k.blocked, k.checkErrorsC, k.checkErrorsD, k.malformed,
        k.syncs, k.misses, k.foreign]
    ∃ k, count c s = { s with requests.counters := k }
      ∧ all k = (all s.requests.counters).modify i fun n => min (n + 1) 65535)
  ∧ ∀ (s : State) (cls origin target : Byte) (body : List Byte), body.length ≤ 56 →
    (Ready .d s → isOtherField cls = true → classOf cls ≠ .request →
      Forwards (.dLinkOtherFrame cls origin target body) (makeFrame cls origin target body) s s)
    ∧ (Ready .d s → classOf cls = .request →
      Completes (.dLinkOtherFrame cls origin target body) s (count .malformed s))
    ∧ (Ready .c s → isOtherCommand cls target = true →
      Completes (.downstreamOtherFrame cls origin target body) s
        (joinsTail { frame := makeFrame cls origin target body, source := none } s))
    ∧ (Ready .d s →
      (body.length ≠ 8 ∨ 2 ≤ field body 0 1 →
        Forwards (.drumSample origin target body) (makeFrame 0x20 origin target body) s s)
      ∧ (body.length ≠ 4 ∨ 3 ≤ field body 0 1 ∨ (field body 3 1 ≠ 1 ∧ field body 3 1 ≠ 2) →
        Forwards (.markerEvent origin target body) (makeFrame 0x21 origin target body) s s)
      ∧ (body.length ≠ 3 ∨ 3 ≤ field body 0 1 →
        Forwards (.ropeLoad origin target body) (makeFrame 0x22 origin target body) s s)
      ∧ (body.length ≠ 6 ∨ field body 4 1 = 0 ∨ 4 ≤ field body 4 1 ∨ (field body 5 1 ≠ 1 ∧ field body 5 1 ≠ 2) →
        Forwards (.interlockState origin target body) (makeFrame 0x23 origin target body) s s)
      ∧ (body.length ≠ 2 → Forwards (.driveAnswer origin target body) (makeFrame 0x24 origin target body) s s))

/-- The D-link and C-link transmitters complete their frame into the gap, and the C-link's takes the head of the
upstream queue; a frame in transmission is not disturbed by a start (R116, R170). That a start taken in the gap means
that the gap is over, and that a frame in transmission ignores one, is the model's reading (assumption 11). -/
def Obligations.TransmittersTakeTheHead : Prop :=
  ∀ s : State,
    (∀ f, s.guard.transmitter = .sending f →
      Completes .dTransmitEnd s { s with guard.transmitter := .gap } ∧ Completes .dTransmitStart s s)
    ∧ (∀ f, s.line.transmitter = .sending f →
      Completes .cTransmitEnd s { s with line.transmitter := .gap } ∧ Completes .cTransmitStart s s)
    ∧ (s.line.transmitter = .idle ∨ s.line.transmitter = .gap →
      (s.line.queue = [] → Completes .cTransmitStart s { s with line.transmitter := .idle })
      ∧ ∀ f rest, s.line.queue = f :: rest →
          Completes .cTransmitStart s { s with line.queue := rest, line.transmitter := .sending f.frame })

/-! ### The machine -/

/-- A step with a command at the front of the queue is that command's effect on the rest. The one queue is the model's
form (assumption 6). -/
def Obligations.StepTakesTheFrontCommand : Prop :=
  ∀ (c : Instr) (s : State), step { s with pending := c :: s.pending } = exec c s

/-- NRST from every state leaves the state after reset, but for the KEY input, the waiting commands and the model's own
counter: NO-TABLES with CHAIN OPEN, an empty pipeline, P 0, empty banks, both channels UNLOCKED, all trackers
UNDATUMED, WAITING-IDLE receivers, an empty downstream queue, and the START notice alone upstream (R20, R51, R71, R95,
R109, R126, R127, R130, R145, R161, R175, R189). What stands outside the part at NRST, and the START notice's place in
the queue, are the model's reading (assumptions 1, 5 and 19). -/
def Obligations.NrstResetsEveryBlock : Prop :=
  ∀ s : State, ∃ t, Completes .nrst s t
    ∧ t = { State.reset with pending := s.pending, key := s.key, freeCount := s.freeCount }
    ∧ t.protection.state = .noTables ∧ t.protection.chainClosed = false ∧ t.protection.firstCause = none
    ∧ t.protection.causes = 0 ∧ t.protection.image = { readiness := 0, clutch := .moving, brakeApplied := true }
    ∧ t.pipeline.active = none ∧ t.pipeline.waiting = none ∧ t.pipeline.history = [] ∧ t.envelope.permitted = 0
    ∧ (∀ b, (bank b t).active = [] ∧ (bank b t).shadow = [] ∧ (bank b t).state = .loading)
    ∧ (∀ d, (channel d t).lock = .unlocked ∧ (channel d t).baseline = none ∧ (channel d t).countRef = none
        ∧ (channel d t).payout = 0 ∧ (channel d t).atRest = false)
    ∧ (∀ c, (tracker c t).datumed = false ∧ (tracker c t).offset = 0 ∧ (tracker c t).reported = 0)
    ∧ t.line.cReceiver = .waitingIdle ∧ t.line.dReceiver = .waitingIdle ∧ t.line.transmitter = .idle
    ∧ t.guard.queue = [] ∧ t.guard.lastRef = { magnitude := 0, seq := 0, target := 0 }
    ∧ t.zones.holders = [] ∧ t.zones.watchList = [] ∧ t.requests.flags = 1
    ∧ t.line.queue = [{ frame := makeFrame 0x42 240 1 [1, 0, 0, 1], mark := .part }]

/-! ### What stands between commands -/

/-- The state after reset meets everything that the manual says stands between commands. KEY's position and the START
notice's place in the queue are the model's (assumptions 5 and 19). -/
def Obligations.ResetMeetsWhatStands : Prop :=
  ChainFollowsState State.reset ∧ ArmedIsDatumed State.reset ∧ EnvelopeCurrent State.reset
    ∧ StoppedIsEmpty State.reset ∧ WaitingHasActive State.reset ∧ SlotsHoldTheirStates State.reset
    ∧ CausesFollowState State.reset ∧ Bounded State.reset ∧ GuardFollowsTrip State.reset
    ∧ AccumulatorsHeld State.reset ∧ BanksTogether State.reset ∧ RecordsFitTables State.reset
    ∧ ZoneMapCurrent State.reset ∧ HoldsStandClear State.reset ∧ WatchedZonesBusy State.reset
    ∧ ReferencesMarked State.reset

/-- Every step keeps CHAIN closed exactly while the state is UNDATUMED or ARMED, and keeps ARMED to three DATUMED trackers
(R129, R131). -/
def Obligations.ChainAndArmedKeepToTheState : Prop :=
  (∀ s t, ChainFollowsState s → step s = .next t → ChainFollowsState t)
  ∧ (∀ s t, ArmedIsDatumed s → step s = .next t → ArmedIsDatumed t)

/-- After every step, P, the envelopes and the thresholds in force are those of the inputs as the step leaves them
(R107). -/
def Obligations.EnvelopeStaysCurrent : Prop :=
  ∀ s t, EnvelopeCurrent s → step s = .next t → EnvelopeCurrent t

/-- Every step keeps the pipeline's form: empty in NO-TABLES and TRIPPED, a waiting trip only behind an active one, and
each slot's trip in a state of that slot (R72, R74, R90). -/
def Obligations.PipelineKeepsItsForm : Prop :=
  ∀ s t, StoppedIsEmpty s ∧ WaitingHasActive s ∧ SlotsHoldTheirStates s → step s = .next t →
    StoppedIsEmpty t ∧ WaitingHasActive t ∧ SlotsHoldTheirStates t

/-- Every step keeps the first cause in the cause set while TRIPPED, and both empty otherwise (R138, R142). -/
def Obligations.CausesKeepToTheState : Prop :=
  ∀ s t, CausesFollowState s → step s = .next t → CausesFollowState t

/-- Every step keeps the queues, the watch list, the history and the counters within their bounds, and each waiting speed
reference with its source and a body that reads (R94, R110, R115, R154, R162, R169, R186). -/
def Obligations.BoundsHold : Prop :=
  (∀ s t, Bounded s → step s = .next t → Bounded t)
  ∧ (∀ s t, ReferencesMarked s → step s = .next t → ReferencesMarked t)

/-- Every step keeps the reference watch to a RUNNING or CREEPING trip and the stop record to a STOPPING one, and the
three accumulators at 0 while their rules hold them there (R47 to R49, R120, R125). -/
def Obligations.GuardAndAccumulatorsKeepToTheTrip : Prop :=
  (∀ s t, GuardFollowsTrip s → step s = .next t → GuardFollowsTrip t)
  ∧ (∀ s t, SlotsHoldTheirStates s → AccumulatorsHeld s → step s = .next t → AccumulatorsHeld t)

/-- Every step keeps the named banks of a commitment together, one runtime record per active MARKER row, and one holder
per active ZONE row (R11, R20, R146). -/
def Obligations.StoreKeepsItsForm : Prop :=
  ∀ s t, BanksTogether s ∧ RecordsFitTables s → step s = .next t → BanksTogether t ∧ RecordsFitTables t

/-- After every step, the Zone Map shows the occupancies, swept sets and trip state that the trackers and the pipeline
have, and every watched zone is OCCUPIED or planned (R147, R148). The judgement of the watch list, whatever command
brings it, taken by receivers in IDLE: an entry whose zone still is OCCUPIED or planned is kept, in order, ahead of one that an inquiry adds; each
entry removed offers one ZONE CLEAR notice to its station with the zone, the summary it has come to and its holder
(R155), behind the ATTENTION notices of the event and ahead of its reply or field frame (R190), for as long as the
upstream queue has room. Left out are the commands that empty the list, NRST, RESTART and a SHAFT confirm, and the C-link
transmitter's start, which takes the head of the upstream queue. That unchanged values are handed on too is the model's
reading (assumption 20). -/
def Obligations.ZoneMapStaysCurrent : Prop :=
  (∀ s t, ZoneMapCurrent s → step s = .next t → ZoneMapCurrent t)
  ∧ (∀ s t, WatchedZonesBusy s → step s = .next t → WatchedZonesBusy t)
  ∧ ∀ c s t, WatchedZonesBusy s → c.wellFormed = true → Ready .c s → Ready .d s → Completes c s t →
    c ≠ .cTransmitStart → ¬EmptiesWatchList c s →
    let stays (e : WatchEntry) := decide (summaryOf e.zone t = .occupied ∨ summaryOf e.zone t = .plannedActive
      ∨ summaryOf e.zone t = .plannedWaiting)
    let clears : List UpFrame := (s.zones.watchList.filter fun e => !stays e).map fun e =>
      { frame := makeFrame 0x42 240 e.station
          [2, BitVec.ofNat 8 e.zone, (summaryOf e.zone t).code, (holderOf e.zone t).getD 0], mark := .part }
    (∃ asked, t.zones.watchList = s.zones.watchList.filter stays ++ asked
      ∧ (asked = [] ∨ ∃ e origin tag params, asked = [e] ∧ c = .zoneInquiry origin tag params))
    ∧ ∃ first last, t.line.queue = s.line.queue ++ first ++ clears.take (16 - (s.line.queue ++ first).length) ++ last
      ∧ (∀ f ∈ first, IsAttention f) ∧ last.length ≤ 1
      ∧ ∀ f ∈ last, f.mark = .field ∨ IsAttention f ∨ classOf f.frame.cls = .reply

/-- No step brings a hold into the way of a trip of the pipeline: no zone of a swept set is held, and no zone of the
compartment of an UNDATUMED conveyance that a trip moves (R78, R157). -/
def Obligations.HoldsStayOutOfTheWay : Prop :=
  ∀ s t, ZoneMapCurrent s → StoppedIsEmpty s → HoldsStandClear s → step s = .next t → HoldsStandClear t

/-! ### Drum streams (chapter 3) -/

/-- A sample brings its channel's count forward whatever the lock: the first gives the position as a signed count, each
further one adds its signed difference; the other drum's channel is untouched (R35). -/
def Obligations.SamplesBringTheCountForward : Prop :=
  ∀ (s : State) (d : Drum) (origin target seq : Byte) (n : BitVec 32) (stamp : BitVec 16), Ready .d s →
    ∃ t, Completes (.drumSample origin target (sampleBody (drumCode d) seq n stamp)) s t
      ∧ (channel d t).countRef = some n
      ∧ (channel d t).position =
          (match (channel d s).countRef with
            | none => n.toInt
            | some r => (channel d s).position + (n - r).toInt)
      ∧ channel (otherDrum d) t = channel (otherDrum d) s
      ∧ LeavesAlone s t ∧ t.protection.image = s.protection.image

/-- Every sample restarts its channel's watch with the active DRUM table's `sample_watch`, and the lock state moves by the
table of R37. A sample taken while UNLOCKED or LOCKING, but for the one that relocks, changes the position and the count
reference, the applied position if it is the first, the lock, the baseline and the watch, and is handed to no receiver;
while no DRUM table is active, lock and baseline stay and no watch is started. One that is not good on a LOCKED channel
costs its lock, baseline and rest, and the loss is handed on (R29, R35 to R39, R46, R89, R90). That a LOCKING channel which
falls to UNLOCKED abandons no open commitment is the model's reading of R38, against the wording of R29 (assumption 21);
that a channel in UNLOCKED takes its sample so whatever baseline stands there, and one in LOCKING that holds none sets one,
is the model's choice (assumption 24), and so is the order of the Table Store and the cause in a loss (assumptions 1 and
12); what a good locked sample applies is MovementReachesThePayout's. -/
def Obligations.LockMovesByTheTable : Prop :=
  ∀ (s : State) (d : Drum) (origin target seq : Byte) (n : BitVec 32) (stamp : BitVec 16), Ready .d s →
    let body := sampleBody (drumCode d) seq n stamp
    let sample : Instr := .drumSample origin target body
    let here : Option Baseline := some { seq, stamp }
    let forward : Channel :=
      { channel d s with
        position := match (channel d s).countRef with
          | none => n.toInt
          | some ref => (channel d s).position + (n - ref).toInt
        applied := match (channel d s).countRef with
          | none => n.toInt
          | some _ => (channel d s).applied
        countRef := some n }
    let becomes (ch : Channel) := Forwards sample (makeFrame 0x20 origin target body) s (setChannel d ch s)
    (drumRow s = none → becomes forward)
    ∧ ∀ r, drumRow s = some r →
      let apart (b : Baseline) := (stamp - b.stamp).toNat
      let good (b : Baseline) := seq = b.seq + 1 ∧ r.samplePeriod ≤ 2 * apart b ∧ apart b ≤ 2 * r.samplePeriod
      let watched : Channel := { forward with watchTimer := some { lengthMs := r.sampleWatch, runUs := 0 } }
      (∃ t, Completes sample s t ∧ (channel d t).watchTimer = watched.watchTimer)
      ∧ ((channel d s).lock = .unlocked → becomes { watched with lock := .locking 0, baseline := here })
      ∧ (∀ k, (channel d s).lock = .locking k → (channel d s).baseline = none →
          becomes { watched with lock := .locking 0, baseline := here })
      ∧ ∀ b, (channel d s).baseline = some b →
          (∀ k, (channel d s).lock = .locking k → k < 3 → good b →
            becomes { watched with lock := .locking (k + 1), baseline := here })
          ∧ (∀ k, (channel d s).lock = .locking k → ¬good b →
            becomes { watched with lock := .unlocked, baseline := none })
          ∧ ((channel d s).lock = .locking 3 ∨ (channel d s).lock = .locked → good b →
            ∃ t, Completes sample s t ∧ (channel d t).lock = .locked ∧ (channel d t).baseline = here)
          ∧ ((channel d s).lock = .locked → ¬good b →
            ∃ t, Completes sample s t
              ∧ channel d t = { watched with lock := .unlocked, baseline := none, atRest := false, restTimer := none }
              ∧ LossFollows d s t)

/-- A good sample of a LOCKED channel, and the one that relocks, carry the whole change since the applied position to
the payout, take the rope speed from the sample's own counts and time, and move the rest flag and timer; the movement
then reaches the drum's trackers, the accumulators, the active trip, a controlled stop's ramp and an open commitment, and
leaves that drum not above its threshold unless the part trips. A sample that itself brings the last of the trip's drums to
rest finishes it from SETTLING or STOPPING, and a waiting one is promoted or DISCARDED behind it (R29, R40, R41, R43 to
R45, R47 to R50, R53, R55, R62, R64, R66, R67, R80 to R84, R94, R106, R122, R123). A relock of zero change moves no tracker
and raises no cause (R41), whatever rope speed its own counts give, which is the model's reading (assumption 13); so is a
rest timer that runs on after its length (assumption 9), the order of the causes of one movement (assumption 12) and that of
a reversal's fresh search before the miss check (assumption 31); and
the finish of a trip of the skip alone, the skip at rest already, at the cage drum's rest, in a state that no run reaches,
is the model's choice (assumption 24). -/
def Obligations.MovementReachesThePayout : Prop :=
  ∀ (s : State) (d : Drum) (origin target : Byte) (n : BitVec 32) (stamp : BitVec 16) (r : DrumRow) (L : LayerRow)
    (b : Baseline) (ref : BitVec 32),
    Ready .d s → drumRow s = some r → layerRow d s = some L → (channel d s).baseline = some b →
    (channel d s).countRef = some ref → (channel d s).lock = .locked ∨ (channel d s).lock = .locking 3 →
    let dt := (stamp - b.stamp).toNat
    let own := (n - ref).toInt
    let position := (channel d s).position + own
    let change := position - (channel d s).applied
    r.samplePeriod ≤ 2 * dt → dt ≤ 2 * r.samplePeriod →
    ∃ t, Completes (.drumSample origin target (sampleBody (drumCode d) (b.seq + 1) n stamp)) s t
      ∧ (channel d t).payout = (channel d s).payout + payoutChange L (channel d s).applied position
      ∧ (channel d t).applied = position ∧ (channel d t).position = position
      ∧ (channel d t).speed = (payoutChange L (position - own) position).natAbs * 1000000 / (65536 * dt)
      ∧ (channel d t).sense =
          (if (channel d s).applied < position then .forward
            else if position < (channel d s).applied then .reverse else (channel d s).sense)
      ∧ RestFollows d s t
      ∧ ((channel d s).lock = .locking 3 → change = 0 → t.trackers = s.trackers ∧ t.protection = s.protection)
      ∧ ((channel d s).lock = .locked ∨ change ≠ 0 →
          TrackersFollow d s t ∧ AccumulatorsTake d r change s t ∧ TripFollows d change s t ∧ RampFollows d dt s t
          ∧ (t.protection.state ≠ .tripped → ∀ c limit, drumOf c = d → t.envelope.thresholds.get c = some limit →
              (channel d t).speed ≤ limit))
      ∧ (change ≠ 0 → s.protection.state ≠ .noTables → commitmentOpen s = true →
          t.tables.result = .abandoned (openSet s) .motion)

/-- One count step forward adds the scale of the layer of the position at which it begins, and one in reverse subtracts
the scale of the layer of the position at which it ends (R18, R40). -/
def Obligations.CountStepsAreScaledByTheirLayer : Prop :=
  ∀ (L : LayerRow) (p : Int), 1 ≤ L.layerCount → L.layerCount ≤ 4 → L.layer0.startCount = 0 →
    startsRise L.inUse = true →
    payoutChange L p (p + 1) = (layerOf L p).scale ∧ payoutChange L (p + 1) p = -((layerOf L p).scale : Int)

/-- A sample watch that expires costs the channel its lock and its baseline, and a LOCKED one its rest, with SAMPLE
under a moving trip or a drum not at rest; a stopped watch brings nothing. The loss ends the active trip, TRIPPED under way
or ABORTED, NOT-READY in WAITING, and abandons an open commitment with reason MOTION outside NO-TABLES. A rest timer that
expires sets its drum's at-rest flag, and the second one returns the drift accumulator to 0 (R29, R38, R39, R44 to R46,
R49, R89, R90). What an expiry that comes to a stopped timer, to one that has not run its length, or a second time does is
the model's choice (assumptions 8 and 9), and so is the order in a loss of the Table Store, the pipeline and the cause where
they meet (assumptions 1 and 12); that a channel not LOCKED abandons no open commitment is the model's reading of R38,
against the wording of R29 (assumption 21). -/
def Obligations.DrumTimersExpire : Prop :=
  ∀ (s : State) (d : Drum),
    ((channel d s).watchTimer = none → Completes (.sampleWatchExpiry d) s s)
    ∧ ((channel d s).watchTimer ≠ none → (channel d s).lock ≠ .locked →
        Completes (.sampleWatchExpiry d) s
          (setChannel d { channel d s with watchTimer := none, lock := .unlocked, baseline := none } s))
    ∧ ((channel d s).watchTimer ≠ none → (channel d s).lock = .locked →
        ∃ t, Completes (.sampleWatchExpiry d) s t
          ∧ channel d t = { channel d s with watchTimer := none, lock := .unlocked, baseline := none, atRest := false,
                                             restTimer := none }
          ∧ LossFollows d s t)
    ∧ ((channel d s).restTimer = none ∨ (channel d s).atRest = true → Completes (.restTimerExpiry d) s s)
    ∧ ((channel d s).restTimer ≠ none → (channel d s).atRest = false →
        ∃ t, Completes (.restTimerExpiry d) s t ∧ channel d t = { channel d s with atRest := true }
          ∧ channel (otherDrum d) t = channel (otherDrum d) s ∧ t.trackers = s.trackers ∧ LeavesAlone s t
          ∧ t.protection = s.protection
          ∧ t.drums.drift = (if (channel (otherDrum d) s).atRest then 0 else s.drums.drift))

/-- The rest of the last of its moving drums, the skip drum alone of a trip that moves the skip alone, finishes the active
trip, its record at the head of the history; while another is not at rest it goes on. From SETTLING a TRAVEL trip is
COMPLETED, a STATION trip LANDED within its `window` or OFF-STATION beyond it, from STOPPING any trip ABORTED with its
cause. Behind LANDED and COMPLETED a waiting trip is promoted, re-based from where the conveyances stand; behind the
others it is DISCARDED (R83, R84, R94). That an expiry ends the rest time whatever its timer has run is the model's
choice (assumption 8), and so is the finish of a trip of the skip alone, the skip at rest already, at the cage drum's
rest, in a state that no run reaches (assumption 24). -/
def Obligations.RestFinishesTheTrip : Prop :=
  ∀ (s : State) (d : Drum) (trip : Trip), (channel d s).restTimer ≠ none → (channel d s).atRest = false →
    s.pipeline.active = some trip →
    let last := ∀ x, trip.movesAll = true ∨ x = .skip → x = d ∨ (channel x s).atRest = true
    ∃ t, Completes (.restTimerExpiry d) s t ∧ t.trackers = s.trackers ∧ t.protection = s.protection
      ∧ (¬last → t.pipeline = s.pipeline)
      ∧ (last →
        (trip.state = .settling → (∃ length, trip.kind = .travel length) → FinishesAndPromotes trip .completed s t)
        ∧ (∀ k st, trip.kind = .station k → (stations s)[k]? = some st → trip.state = .settling →
            (StandsAtStop trip s → FinishesAndPromotes trip .landed s t)
            ∧ (¬StandsAtStop trip s → FinishesBoth trip .offStation none s t))
        ∧ (trip.state = .stopping → FinishesBoth trip .aborted trip.cause s t)
        ∧ (trip.state = .settling ∨ trip.state = .stopping → t.guard.watch = none ∧ t.guard.stop = none)
        ∧ (trip.state = .waiting ∨ trip.state = .running ∨ trip.state = .creeping → t.pipeline = s.pipeline))

/-! ### Conveyance tracking (chapter 4) -/

/-- A ROPE LOAD sets its conveyance's load, clamped to 60,000, and recomputes the depths from it; offset, datum state and
the other conveyances are untouched. The checks follow: a miss if the expected marker is passed, OVERWIND beyond a travel
limit on a changed depth, and SLACK on a moving descent below `slack_threshold`, changed or not; with none of them no
cause is raised (R8, R54 to R56, R64 to R67). -/
def Obligations.LoadsStretchTheRope : Prop :=
  ∀ (s : State) (c : Conveyance) (origin target : Byte) (load : BitVec 16), Ready .d s →
    ∃ t, Completes (.ropeLoad origin target (loadBody (byteOf c.index) load)) s t
      ∧ (tracker c t).load = min load.toNat 60000
      ∧ (tracker c t).offset = (tracker c s).offset ∧ (tracker c t).datumed = (tracker c s).datumed
      ∧ (tracker c t).baseFine = baseDepth c (tracker c s).offset (channel (drumOf c) s).payout
      ∧ (tracker c t).stretch =
          (match compartmentRow c s with
            | none => 0
            | some row =>
              ((mm (tracker c t).baseFine + row.sheaveHeight) / 1000).toNat * min load.toNat 60000 * row.compliance
                / 1000000)
      ∧ (tracker c t).reported = mm (tracker c t).baseFine + (tracker c t).stretch
      ∧ (∀ other, other ≠ c → tracker other t = tracker other s)
      ∧ LeavesAlone s t ∧ (∀ d, channel d t = channel d s) ∧ t.protection.image = s.protection.image
      ∧ let judged := (tracker c s).datumed = true ∧ (tracker c t).reported ≠ (tracker c s).reported
        (judged → ∀ i m, Expects c i m s → HasPassed c m t → TookMiss c i s t
          ∧ (i < s.tables.markers.length → (recordOf i t).missCount = min ((recordOf i s).missCount + 1) 255))
        ∧ (judged → BeyondLimits c t → Reports .overwind s t) ∧ (RopeIsSlack c t → Reports .slack s t)
        ∧ (¬(judged ∧ ∃ i m, Expects c i m s ∧ HasPassed c m t) →
          t.tables.markers = s.tables.markers ∧ (tracker c t).expected = (tracker c s).expected
          ∧ (tracker c t).missFlag = (tracker c s).missFlag
          ∧ (¬(judged ∧ BeyondLimits c t) → ¬RopeIsSlack c t → t.protection = s.protection))

/-- A read of an id that is not in the table, or of another compartment's marker, is counted as foreign and has no other
effect before it is offered upstream (R57). -/
def Obligations.ForeignReadsAreCounted : Prop :=
  ∀ (s : State) (c : Conveyance) (origin target quality : Byte) (id : BitVec 16), Ready .d s →
    quality = 1 ∨ quality = 2 →
    (∀ m ∈ markers s, m.markerId = id.toNat → m.compartment ≠ c) →
    Forwards (.markerEvent origin target (markerBody (byteOf c.index) id quality))
      (makeFrame 0x21 origin target (markerBody (byteOf c.index) id quality)) s (count .foreign s)

/-- A GOOD read of an own marker that is not SUSPECT gives an UNDATUMED tracker datum: its base depth becomes the largest
whole millimetre that with the stretch at it does not exceed the marker's depth, the nearest marker ahead is expected,
and a depth beyond a travel limit is OVERWIND (R57, R58, R62, R66); a part in UNDATUMED whose three trackers then stand
DATUMED does not stay there, and is ARMED with DATUM set if no cause tripped it (R131). Under an active trip that moves the
conveyance with no planned start, the datum completes the plan and adds its zones to the swept set; a waiting trip keeps
its own (R92). A GOOD read of a SUSPECT marker and
a WEAK read of any own marker leave only their mark as the last marker read (R57, R60). -/
def Obligations.DatumMeetsTheMarker : Prop :=
  ∀ (s : State) (c : Conveyance) (origin target : Byte) (id : BitVec 16) (i : Nat) (m : MarkerRow)
    (row : CompartmentRow),
    Ready .d s → findMarker id.toNat s = some (i, m) → m.compartment = c → compartmentRow c s = some row →
    (tracker c s).datumed = false →
    let body (quality : Byte) := markerBody (byteOf c.index) id quality
    let noted := setTracker c { tracker c s with lastMarker := id.toNat } s
    ((recordOf i s).suspect = true →
      Forwards (.markerEvent origin target (body 1)) (makeFrame 0x21 origin target (body 1)) s noted)
    ∧ Forwards (.markerEvent origin target (body 2)) (makeFrame 0x21 origin target (body 2)) s noted
    ∧ ((recordOf i s).suspect = false →
      ∃ t, Completes (.markerEvent origin target (body 1)) s t
        ∧ (tracker c t).datumed = true ∧ (tracker c t).lastMarker = id.toNat ∧ (tracker c t).missFlag = false
        ∧ (∃ B : Int, (tracker c t).baseFine = B * 65536
            ∧ B + stretchAt row (tracker c s).load B ≤ m.depth
            ∧ (∀ b, B < b → m.depth < b + stretchAt row (tracker c s).load b)
            ∧ (tracker c t).reported = B + stretchAt row (tracker c s).load B)
        ∧ IsNearest (tracker c t).expected c (tracker c t).direction (tracker c t).reported t
        ∧ (tracker c t).direction = (tracker c s).direction ∧ (BeyondLimits c t → Reports .overwind s t)
        ∧ (¬BeyondLimits c t → s.protection.state ≠ .undatumed ∨ allDatumed t = false → t.protection = s.protection)
        ∧ (s.protection.state = .undatumed → allDatumed t = true → t.protection.state ≠ .undatumed
            ∧ (¬BeyondLimits c t → t.protection.state = .armed ∧ flagSet .datum t = true))
        ∧ (¬BeyondLimits c t → PlanTakesDatum c s t ∧ t.pipeline.waiting = s.pipeline.waiting
            ∧ t.pipeline.history = s.pipeline.history)
        ∧ (∀ other, other ≠ c → tracker other t = tracker other s)
        ∧ LeavesAlone s t ∧ (∀ d, channel d t = channel d s))

/-- A GOOD read of an own marker by a DATUMED tracker: within `sync_window` the base depth moves by the deviation and
the sync is counted, and after a sync of the cage or the counterweight a base depth sum off `pair_sum` by more than
`pair_tolerance` is PAIR; outside it the offset stands and POSITION is reported. A read of the expected marker, GOOD or
WEAK, takes the expectation to the nearest one beyond it, or beyond those then missed; the sync of another finds it
afresh; any other read leaves it, and a WEAK read leaves the depths (R59 to R64, R66, R135). That the deviation is added
for the skip and the counterweight too is the model's reading of a conflict in the manual (assumption 29); that the sync of
another marker finds the expectation afresh before the miss check, so that the marker expected until then takes no miss,
is the model's choice (assumption 31). -/
def Obligations.SyncsCorrectTheOffset : Prop :=
  ∀ (s : State) (c : Conveyance) (origin target : Byte) (id : BitVec 16) (i : Nat) (m : MarkerRow)
    (row : CompartmentRow),
    Ready .d s → findMarker id.toNat s = some (i, m) → m.compartment = c → compartmentRow c s = some row →
    (tracker c s).datumed = true →
    let deviation := m.depth - (tracker c s).reported
    let expected := (tracker c s).expected = some i
    (∃ t, Completes (.markerEvent origin target (markerBody (byteOf c.index) id 1)) s t
      ∧ (tracker c t).datumed = true ∧ (tracker c t).lastMarker = id.toNat
      ∧ (tracker c t).direction = (tracker c s).direction ∧ (expected → WentBeyond c m.depth t)
      ∧ (∀ other, other ≠ c → tracker other t = tracker other s)
      ∧ LeavesAlone s t ∧ (∀ d, channel d t = channel d s)
      ∧ (deviation.natAbs ≤ row.syncWindow →
          (tracker c t).baseFine
            = baseDepth c (tracker c s).offset (channel (drumOf c) s).payout + deviation * 65536
          ∧ t.requests.counters.syncs = min (s.requests.counters.syncs + 1) 65535 ∧ DepthsFollow c t
          ∧ (expected → (tracker c t).missFlag = false →
              IsNearest (tracker c t).expected c (tracker c t).direction m.depth t)
          ∧ (¬expected → (tracker c t).missFlag = false
              ∧ IsNearest (tracker c t).expected c (tracker c t).direction (tracker c t).reported t)
          ∧ ((tracker c t).reported ≠ (tracker c s).reported → BeyondLimits c t → Reports .overwind s t)
          ∧ (∀ R, c ≠ .skip → shaftRow s = some R → t.trackers.cage.datumed = true →
              t.trackers.counterweight.datumed = true →
              R.pairTolerance
                < (mm t.trackers.cage.baseFine + mm t.trackers.counterweight.baseFine - (R.pairSum : Int)).natAbs →
              Reports .pair s t))
      ∧ (row.syncWindow < deviation.natAbs →
          (tracker c t).offset = (tracker c s).offset ∧ t.requests.counters.syncs = s.requests.counters.syncs
          ∧ (tracker c t).reported = (tracker c s).reported
          ∧ (¬expected → (tracker c t).expected = (tracker c s).expected
              ∧ (tracker c t).missFlag = (tracker c s).missFlag)
          ∧ (TakesCauses s → t.protection.state = .tripped ∧ t.protection.firstCause = some .position)
          ∧ (s.protection.state = .tripped → causePresent .position t = true)))
    ∧ ∃ t, Completes (.markerEvent origin target (markerBody (byteOf c.index) id 2)) s t
      ∧ (tracker c t).lastMarker = id.toNat ∧ (tracker c t).offset = (tracker c s).offset
      ∧ (tracker c t).reported = (tracker c s).reported ∧ (tracker c t).direction = (tracker c s).direction
      ∧ ((tracker c s).missFlag = true → (tracker c t).missFlag = true)
      ∧ t.requests.counters.syncs = s.requests.counters.syncs
      ∧ (expected → WentBeyond c m.depth t
          ∧ (t.requests.counters.misses = s.requests.counters.misses → s.requests.counters.misses < 65535 →
              IsNearest (tracker c t).expected c (tracker c t).direction m.depth t))
      ∧ (¬expected → t.trackers = s.trackers.set c { tracker c s with lastMarker := id.toNat }
          ∧ t.protection = s.protection ∧ t.tables = s.tables)

/-- A miss raises the marker's miss count, makes it SUSPECT at the third, counts, sets the miss flag, and is POSITION when
the miss flag stood already. The miss check takes one when a DATUMED tracker stands beyond its expected marker by more
than `miss_distance`, advances the expectation to the nearest marker beyond that one, and runs again; otherwise it does
nothing (R11, R62 to R65). -/
def Obligations.MissesAreTaken : Prop :=
  (∀ (s : State) (c : Conveyance) (i : Nat), i < s.tables.markers.length →
    let t := takeMiss c i s
    (recordOf i t).missCount = min ((recordOf i s).missCount + 1) 255
    ∧ ((recordOf i t).suspect = true ↔ (recordOf i s).suspect = true ∨ (recordOf i s).missCount = 2)
    ∧ t.requests.counters.misses = min (s.requests.counters.misses + 1) 65535
    ∧ (tracker c t).missFlag = true ∧ flagSet .miss t = true
    ∧ ((recordOf i s).missCount = 2 → flagSet .suspect t = true)
    ∧ ((tracker c s).missFlag = true → TakesCauses s →
        t.protection.state = .tripped ∧ t.protection.firstCause = some .position)
    ∧ ((tracker c s).missFlag = true → s.protection.state = .tripped → causePresent .position t = true)
    ∧ ((tracker c s).missFlag = false → t.protection = s.protection ∧ t.pipeline = s.pipeline))
  ∧ ∀ (s : State) (c : Conveyance),
    (¬((tracker c s).datumed = true ∧ ∃ i m, Expects c i m s ∧ HasPassed c m s) → checkMisses c s = s)
    ∧ ∀ i m, (tracker c s).datumed = true → Expects c i m s → HasPassed c m s →
      ∃ next, IsNearest next c (tracker c s).direction m.depth s
        ∧ checkMisses c s = checkMisses c (setExpected c next (takeMiss c i s))

/-! ### Interlock and drive (chapters 5 and 8) -/

/-- An INTERLOCK STATE replaces the image whole, and the accumulators keep their content only while their clutch
position stays. It ends the active trip on a changed clutch or a required readiness bit clear: in WAITING the trip
finishes ABORTED, with cause CLUTCH before NOT-READY, and nothing is reported; a moving one brings a protective trip on
CLUTCH, or on GATE when the clutch stayed, and finishes TRIPPED with that cause; a waiting trip is DISCARDED, its record
ahead (R47, R48, R88, R90, R94, R133 to R135). -/
def Obligations.InterlockReplacesTheImage : Prop :=
  ∀ (s : State) (origin target : Byte) (image : Interlock), Ready .d s →
    ∃ t, Completes (.interlockState origin target (imageBody image)) s t
      ∧ t.protection.image = image
      ∧ t.drums.disagree = (if s.protection.image.clutch = .engaged ∧ image.clutch = .engaged then s.drums.disagree
          else 0)
      ∧ t.drums.hold = (if s.protection.image.clutch = .disengaged ∧ image.clutch = .disengaged then s.drums.hold
          else 0)
      ∧ t.trackers = s.trackers ∧ (∀ d, channel d t = channel d s) ∧ LeavesAlone s t
      ∧ (s.pipeline.active = none → t.pipeline = s.pipeline ∧ t.protection = { s.protection with image := image })
      ∧ ∀ trip, s.pipeline.active = some trip →
        let changed := image.clutch ≠ s.protection.image.clutch
        let unready := ∃ k st, (stations s)[k]? = some st ∧ inMovingSet trip.movesAll st.compartment = true
          ∧ image.readiness.getLsbD k = false
        (trip.state = .waiting → changed ∨ unready →
          t.protection = { s.protection with image := image }
          ∧ (changed → FinishesBoth trip .aborted (some (.protective .clutch)) s t)
          ∧ (¬changed → FinishesBoth trip .aborted (some .notReady) s t))
        ∧ (¬changed → ¬unready → t.pipeline = s.pipeline ∧ t.protection = { s.protection with image := image })
        ∧ (tripMoving s = true → TakesCauses s → changed ∨ unready →
          t.protection.state = .tripped
          ∧ (changed → t.protection.firstCause = some .clutch
              ∧ FinishesBoth trip .tripped (some (.protective .clutch)) s t)
          ∧ (¬changed → t.protection.firstCause = some .gate
              ∧ FinishesBoth trip .tripped (some (.protective .gate)) s t)
          ∧ (unready → causePresent .gate t = true))

/-- A DRIVE ANSWER of any kind and drive state, in every supervisor state, sets drive heard, stops the echo timer and
clears DRIVE-SILENT, and is then offered upstream (R139). -/
def Obligations.DriveAnswersAreHeard : Prop :=
  ∀ (s : State) (origin target kind driveState : Byte), Ready .d s →
    Forwards (.driveAnswer origin target [kind, driveState]) (makeFrame 0x24 origin target [kind, driveState]) s
      { s with protection.driveHeard := true, protection.echo := none, protection.driveSilent := false }

/-- A cause taken in UNDATUMED or ARMED is a protective trip: first cause and cause set, TRIPPED, CHAIN OPEN, the brake
demand at the head, both slots empty with the active trip TRIPPED and the waiting one DISCARDED in the history, an open
commitment abandoned with reason TRIP, the echo wait begun, drift at 0, with trackers, holders and channels as they were.
In TRIPPED it joins the cause set and changes nothing else; in NO-TABLES it is not taken (R28, R90, R94, R115, R135 to
R138). -/
def Obligations.ProtectiveTripOpensChain : Prop :=
  (∀ (c : Cause) (s : State), TakesCauses s → (s.pipeline.active = none → s.pipeline.waiting = none) →
    let t := reportCause c s
    t.protection.state = .tripped ∧ t.protection.chainClosed = false ∧ t.protection.firstCause = some c
    ∧ (∀ other, causePresent other t = true ↔ other = c) ∧ flagSet .trip t = true
    ∧ (s.guard.queue.any DownFrame.isDemand = false →
        t.guard.queue.head? = some { frame := makeFrame 0x13 240 0 [], source := none })
    ∧ (s.guard.queue.any DownFrame.isDemand = true → t.guard.queue = s.guard.queue)
    ∧ t.pipeline.active = none ∧ t.pipeline.waiting = none
    ∧ (∀ trip, s.pipeline.active = some trip → FinishesBoth trip .tripped (some (.protective c)) s t)
    ∧ (s.pipeline.active = none → t.pipeline.history = s.pipeline.history)
    ∧ (commitmentOpen s = false → t.tables = s.tables)
    ∧ (commitmentOpen s = true → t.tables.result = .abandoned (openSet s) .trip ∧ flagSet .valid t = true
        ∧ ∀ b, bank b t = { bank b s with state := .loading })
    ∧ t.protection.driveHeard = false ∧ t.protection.driveSilent = false
    ∧ t.protection.echo = some { lengthMs := 50, runUs := 0 } ∧ t.drums.drift = 0
    ∧ t.protection.image = s.protection.image ∧ t.trackers = s.trackers ∧ t.zones = s.zones
    ∧ (∀ d, channel d t = channel d s) ∧ t.key = s.key)
  ∧ (∀ (c : Cause) (s : State),
    (s.protection.state = .tripped →
      (∀ other, causePresent other (reportCause c s) = true ↔ causePresent other s = true ∨ other = c)
      ∧ reportCause c s = { s with protection.causes := (reportCause c s).protection.causes })
    ∧ (s.protection.state = .noTables → reportCause c s = s))

/-! ### Speed envelope (chapter 6) -/

/-- P is 0, with no envelope and no threshold, in NO-TABLES, in TRIPPED and with the ACTIVE slot empty. In UNDATUMED and
ARMED each conveyance that the active trip moves has an envelope, the least of the constraints of its role and datum
state, and P is the least envelope: so P never exceeds the regime's `v_max`, nor the ceiling of a zone that the body of a
DATUMED conveyance of the moving set meets, and is 0 once the lead has reached its target; each threshold is its envelope
plus the greater of `margin_abs` and `margin_pct` of it (R97 to R105). The lead's distance to its target is R79's. A
drum's rope speed is OVERSPEED when it is greater than a threshold of a conveyance on that drum, and is not otherwise
(R106). -/
def Obligations.PermittedSpeedIsBounded : Prop :=
  (∀ s : State, s.protection.state = .noTables ∨ s.protection.state = .tripped ∨ s.pipeline.active = none →
    (computeEnvelope s).permitted = 0
      ∧ ∀ c, (computeEnvelope s).envelopes.get c = none ∧ (computeEnvelope s).thresholds.get c = none)
  ∧ (∀ (s : State) (trip : Trip) (R : RegimeRow), TakesCauses s → s.pipeline.active = some trip →
    regimeRow trip.regime s = some R →
    (∀ c, inMovingSet trip.movesAll c = false → (computeEnvelope s).envelopes.get c = none)
    ∧ (∀ c row, inMovingSet trip.movesAll c = true → compartmentRow c s = some row →
        ∃ e, (computeEnvelope s).envelopes.get c = some e ∧ Constrains e trip c R row s
          ∧ ∀ v, Constrains v trip c R row s → e ≤ v)
    ∧ ((∃ row, compartmentRow .skip s = some row) →
        ∃ c, (computeEnvelope s).envelopes.get c = some (computeEnvelope s).permitted))
  ∧ (∀ (s : State) (trip : Trip),
    let payout := (channel trip.lead.drum s).payout
    let reported := (tracker trip.lead.conveyance s).reported
    (∀ k st, trip.kind = .station k → (stations s)[k]? = some st →
      distanceToTarget trip s
        = if goesDown trip.lead.conveyance trip.direction then st.stopDepth - reported else reported - st.stopDepth)
    ∧ ∀ length origin, trip.kind = .travel length → trip.payoutOrigin = some origin →
      (trip.direction = .forward → distanceToTarget trip s = length - (payout - origin) / 65536)
      ∧ (trip.direction = .reverse → distanceToTarget trip s = length - (origin - payout) / 65536))
  ∧ (∀ (s : State) (trip : Trip) (r : RegimeRow), s.pipeline.active = some trip →
    regimeRow trip.regime s = some r →
    (computeEnvelope s).permitted ≤ r.vMax
    ∧ (∀ c, (computeEnvelope s).thresholds.get c
        = ((computeEnvelope s).envelopes.get c).map fun e => e + max r.marginAbs (e * r.marginPct / 100))
    ∧ (∀ c e, (computeEnvelope s).envelopes.get c = some e → (computeEnvelope s).permitted ≤ e)
    ∧ (∀ c row z, inMovingSet trip.movesAll c = true → (tracker c s).datumed = true →
        compartmentRow c s = some row → z ∈ zoneList s → z.compartment = c →
        z.top ≤ (tracker c s).reported + row.bodyBelow → (tracker c s).reported - row.bodyAbove ≤ z.bottom →
        (computeEnvelope s).permitted ≤ z.ceiling)
    ∧ (∀ row, inMovingSet trip.movesAll trip.lead.conveyance = true →
        compartmentRow trip.lead.conveyance s = some row → distanceToTarget trip s ≤ 0 →
        (computeEnvelope s).permitted = 0))
  ∧ ∀ (s : State) (d : Drum),
    let above := ∃ c limit, drumOf c = d ∧ s.envelope.thresholds.get c = some limit ∧ limit < (channel d s).speed
    (above → judgeOverspeed d s = recomputeSpeed (reportCause .overspeed s)) ∧ (¬above → judgeOverspeed d s = s)

/-! ### Reference guard (chapter 7) -/

/-- A SPEED REFERENCE is dropped during a controlled stop; otherwise it is limited to 20,000, set to 0 against the active
trip's direction, held to P, marked CLAMPED when either of the last two changed it, and coalesced. One from station 1
under a RUNNING or CREEPING trip first restarts the watch with `ref_watch`, whatever is then made of it; one whose body has
another length than its layout is malformed (R112, R113, R120, R166). -/
def Obligations.ReferencesAreGuarded : Prop :=
  (∀ (s : State) (origin target : Byte) (body : List Byte), Ready .c s → body.length ≤ 56 → body.length ≠ 4 →
    Completes (.speedReference origin target body) s (count .malformed s))
  ∧ ∀ (s : State) (origin target seq mark : Byte) (speed : Int), Ready .c s → -32768 ≤ speed → speed ≤ 32767 →
    let timed : Option Timer := (timingRow s).map fun T => { lengthMs := T.refWatch, runUs := 0 }
    let s' : State := if origin = 1 ∧ watchRuns s = true then { s with guard.watch := timed } else s
    let taken := max (-20000) (min speed 20000)
    let against := ∃ trip, s.pipeline.active = some trip
      ∧ (trip.direction = .forward ∧ taken < 0 ∨ trip.direction = .reverse ∧ 0 < taken)
    (stopRuns s = true →
      Completes (.speedReference origin target (speedBody seq speed mark)) s (count .superseded s'))
    ∧ (stopRuns s = false → ∃ out : Int,
        (against → out = 0)
        ∧ (¬against → out = max (-(s.envelope.permitted : Int)) (min taken s.envelope.permitted))
        ∧ (out ≠ taken →
            Completes (.speedReference origin target (speedBody seq speed mark)) s
              (coalesce { frame := makeFrame 0x10 origin target (speedBody seq out 1), source := some .controller }
                (setFlag .clamp (count .clamped s'))))
        ∧ (out = taken →
            Completes (.speedReference origin target (speedBody seq speed mark)) s
              (coalesce { frame := makeFrame 0x10 origin target (speedBody seq out 0), source := some .controller }
                s')))

/-- The coalescing rule: a waiting reference is replaced where it stands, and counted; with none waiting the reference
joins the tail, or is dropped at a full queue (R113). -/
def Obligations.ReferencesCoalesce : Prop :=
  ∀ (f : DownFrame) (s : State),
    (∀ before g behind, s.guard.queue = before ++ g :: behind → g.isReference = true →
      (∀ h ∈ before ++ behind, h.isReference = false) →
      coalesce f s = count .superseded { s with guard.queue := before ++ f :: behind })
    ∧ ((∀ h ∈ s.guard.queue, h.isReference = false) → coalesce f s = joinsTail f s)

/-- BRAKE COMMAND and CLUTCH COMMAND meet their gates: APPLY always joins the queue, LIFT only in UNDATUMED or ARMED, a
clutch command only there with the ACTIVE slot empty and the winder at rest; a blocked one is counted and sets DROP, and
one whose body is not one byte is malformed (R118, R119, R166, R173). -/
def Obligations.CommandsMeetTheirGates : Prop :=
  (∀ (s : State) (origin target : Byte) (body : List Byte), Ready .c s → body.length ≤ 56 → body.length ≠ 1 →
    Completes (.brakeCommand origin target body) s (count .malformed s)
    ∧ Completes (.clutchCommand origin target body) s (count .malformed s))
  ∧ ∀ (s : State) (origin target command : Byte), Ready .c s →
    let blocked := setFlag .drop (count .blocked s)
    let brake := joinsTail { frame := makeFrame 0x11 origin target [command], source := none } s
    let clutch := joinsTail { frame := makeFrame 0x12 origin target [command], source := none } s
    let stopped := s.protection.state = .noTables ∨ s.protection.state = .tripped
    (command = 1 ∨ ¬stopped → Completes (.brakeCommand origin target [command]) s brake)
    ∧ (command ≠ 1 → stopped → Completes (.brakeCommand origin target [command]) s blocked)
    ∧ (¬stopped → s.pipeline.active = none → s.drums.skip.atRest = true → s.drums.cage.atRest = true →
        Completes (.clutchCommand origin target [command]) s clutch)
    ∧ (stopped ∨ s.pipeline.active ≠ none ∨ s.drums.skip.atRest = false ∨ s.drums.cage.atRest = false →
        Completes (.clutchCommand origin target [command]) s blocked)

/-- A BRAKE DEMAND from the controller is absorbed by one that waits, placed at the head, or placed there after the tail
frame of a full queue is dropped (R115). -/
def Obligations.BrakeDemandsGoAhead : Prop :=
  ∀ (s : State) (origin target : Byte) (body : List Byte), Ready .c s → body.length ≤ 56 →
    let demand : DownFrame := { frame := makeFrame 0x13 origin target body, source := none }
    (s.guard.queue.any DownFrame.isDemand = true → Completes (.brakeDemand origin target body) s s)
    ∧ (s.guard.queue.any DownFrame.isDemand = false → s.guard.queue.length < 8 →
        Completes (.brakeDemand origin target body) s { s with guard.queue := demand :: s.guard.queue })
    ∧ (s.guard.queue.any DownFrame.isDemand = false → 8 ≤ s.guard.queue.length →
        ∃ t, Completes (.brakeDemand origin target body) s t
          ∧ t.guard.queue = demand :: s.guard.queue.dropLast ∧ flagSet .drop t = true
          ∧ t.requests.counters.droppedDown = min (s.requests.counters.droppedDown + 1) 65535)

/-- The D-link transmitter takes the head frame; a gated one that no longer passes is counted, flagged and passed over
at once; with no frame left it is idle (R116, R118, R119). A speed reference is judged again against the active trip's
direction and P: unchanged, it leaves as it stands in the queue; changed, it leaves at the speed judged, a controller's
marked CLAMPED with the clamp counted and CLAMP set, a substitute still marked SUBSTITUTED with nothing counted; what
leaves is recorded as the last forwarded reference (R117). That a start in the gap means that the gap is over is the
model's reading (assumption 11). -/
def Obligations.DownstreamStartsPassTheGates : Prop :=
  ∀ s : State, s.guard.transmitter = .idle ∨ s.guard.transmitter = .gap →
    (s.guard.queue = [] → Completes .dTransmitStart s { s with guard.transmitter := .idle })
    ∧ (∀ f rest, s.guard.queue = f :: rest → blockedNow f.frame s = true →
        exec .dTransmitStart s
          = exec .dTransmitStart (setFlag .drop (count .blocked { s with guard.queue := rest })))
    ∧ (∀ f rest, s.guard.queue = f :: rest → blockedNow f.frame s = false → f.source = none →
        Completes .dTransmitStart s { s with guard.queue := rest, guard.transmitter := .sending f.frame })
    ∧ (∀ f rest source ref, s.guard.queue = f :: rest → blockedNow f.frame s = false → f.source = some source →
        readSpeed f.frame.body = some ref →
        let against := ∃ trip, s.pipeline.active = some trip
          ∧ (trip.direction = .forward ∧ ref.speed < 0 ∨ trip.direction = .reverse ∧ 0 < ref.speed)
        let leaves (frame : Frame) (speed : Int) (u : State) : State :=
          { u with
            guard.queue := rest
            guard.transmitter := .sending frame
            guard.lastRef := { magnitude := speed.natAbs, seq := ref.seq, target := f.frame.target } }
        let marked (speed : Int) (mark : Byte) : Frame :=
          makeFrame f.frame.cls f.frame.origin f.frame.target (speedBody ref.seq speed mark)
        ∃ out : Int, (against → out = 0)
          ∧ (¬against → out = max (-(s.envelope.permitted : Int)) (min ref.speed s.envelope.permitted))
          ∧ (out = ref.speed → Completes .dTransmitStart s (leaves f.frame out s))
          ∧ (out ≠ ref.speed → source = .controller →
              Completes .dTransmitStart s (leaves (marked out 1) out (setFlag .clamp (count .clamped s))))
          ∧ (out ≠ ref.speed → source = .substitute → Completes .dTransmitStart s (leaves (marked out 2) out s)))
    ∧ (∀ t f, Completes .dTransmitStart s t → t.guard.transmitter = .sending f →
        (classOf f.cls = .clutchCommand → s.pipeline.active = none ∧ winderAtRest s = true ∧ TakesCauses s)
        ∧ (classOf f.cls = .brakeCommand → field f.body 0 1 ≠ 1 →
            s.protection.state ≠ .noTables ∧ s.protection.state ≠ .tripped))

/-- No speed reference leaves the D-link with a magnitude greater than the P in force when its transmission begins, and
the one that leaves is recorded as the last forwarded reference (R117). -/
def Obligations.NoReferenceLeavesAboveP : Prop :=
  ∀ s t f, ReferencesMarked s → (∀ g, s.guard.transmitter ≠ .sending g) → Completes .dTransmitStart s t →
    t.guard.transmitter = .sending f → classOf f.cls = .speedReference →
    ∃ ref, readSpeed f.body = some ref ∧ ref.speed.natAbs ≤ s.envelope.permitted
      ∧ t.guard.lastRef = { magnitude := ref.speed.natAbs, seq := ref.seq, target := f.target }
      ∧ (∀ trip, s.pipeline.active = some trip → (trip.direction = .forward → 0 ≤ ref.speed)
          ∧ (trip.direction = .reverse → ref.speed ≤ 0))

/-- The reference watch of a RUNNING or CREEPING trip expires into a controlled stop with cause WATCH, its ramp
starting at the last speed sent, and the waiting trip is discarded; elsewhere only the watch stops. The stop deadline
expires into STOP-FAIL. The echo timer expires into DRIVE-SILENT with SILENT set. A stopped timer brings nothing (R86,
R87, R120, R121, R124, R135, R140). What an expiry that comes to a stopped timer, or to one that has not run its
length, does is the model's choice (assumption 8). -/
def Obligations.WatchDeadlineAndEchoExpire : Prop :=
  ∀ s : State,
    (s.guard.watch = none → Completes .refWatchExpiry s s)
    ∧ (s.guard.watch ≠ none → watchRuns s = false →
        ∃ t, Completes .refWatchExpiry s t ∧ t.guard = { s.guard with watch := none } ∧ t.pipeline = s.pipeline
          ∧ t.protection = s.protection)
    ∧ (∀ trip r, s.guard.watch ≠ none → s.pipeline.active = some trip →
        trip.state = .running ∨ trip.state = .creeping → movingDrumsAtRest trip s = false →
        regimeRow trip.regime s = some r →
        ∃ t, Completes .refWatchExpiry s t
          ∧ t.pipeline.active = some { trip with state := .stopping, cause := some .watch }
          ∧ t.pipeline.waiting = none ∧ t.guard.watch = none ∧ flagSet .stop t = true
          ∧ t.guard.stop = some
              { startSpeed := s.guard.lastRef.magnitude, rampValue := s.guard.lastRef.magnitude * 1000000,
                rampSpeed := s.guard.lastRef.magnitude, overRun := 0,
                deadline := { lengthMs := s.guard.lastRef.magnitude * 1000 / r.stopDecel + 2000, runUs := 0 },
                forward := decide (trip.direction = .forward) }
          ∧ (∀ f ∈ t.guard.queue, f.source ≠ some .controller)
          ∧ t.protection = s.protection ∧ t.trackers = s.trackers ∧ t.drums = s.drums)
    ∧ (s.guard.stop = none → Completes .stopDeadlineExpiry s s)
    ∧ (s.guard.stop ≠ none → TakesCauses s → WaitingHasActive s →
        ∃ t, Completes .stopDeadlineExpiry s t ∧ t.protection.state = .tripped
          ∧ t.protection.firstCause = some .stopFail ∧ t.protection.chainClosed = false
          ∧ t.pipeline.active = none ∧ t.pipeline.waiting = none ∧ t.envelope.permitted = 0
          ∧ t.trackers = s.trackers ∧ t.zones.holders = s.zones.holders ∧ (∀ d, channel d t = channel d s))
    ∧ (s.protection.echo = none → Completes .echoTimerExpiry s s)
    ∧ (s.protection.echo ≠ none →
        Completes .echoTimerExpiry s
          (setFlag .silent { s with protection.driveSilent := true, protection.echo := none }))

/-! ### Tables and commitment (chapters 1 and 2) -/

/-- A row is accepted exactly when it has its kind's length and layout, stands at a number of its kind, and has every
field in its range; it is stored as loaded: its bytes read back as they were sent, a layer row's with the layers not in
use as zero, and are accepted again as the same row (R3 to R19, R22, R172, R174). How the ROW LOAD judges an empty or
short SHAFT row, and two fields read unsigned, are the model's reading (assumptions 16 and 17). -/
def Obligations.RowsReadBackAsLoaded : Prop :=
  (∀ (table : TableId) (n : Nat) (held : List Row) (content : List Byte) (row : Row),
    judgeRow table n held content = .ok row →
    FieldsInRange row ∧ StandsAt table n held row
    ∧ judgeRow table n held (rowBytes row) = .ok row
    ∧ ((∀ r, row ≠ .layers r) → rowBytes row = content)
    ∧ (∀ r, row = .layers r → (rowBytes row).take (1 + 8 * r.layerCount) = content.take (1 + 8 * r.layerCount)
        ∧ content.length = 33 ∧ ∀ b ∈ (rowBytes row).drop (1 + 8 * r.layerCount), b = 0))
  ∧ ∀ (table : TableId) (n : Nat) (held : List Row) (row : Row),
    FieldsInRange row → StandsAt table n held row → judgeRow table n held (rowBytes row) = .ok row

/-- ROW LOAD from station 1, condition by condition: RANGE naming position 0 for a table that does not exist or a byte
missing, BUSY, RANGE, ORDER, RANGE naming the field, and DONE with the row appended at the fill count or standing alone as
row 0 (R21, R174). -/
def Obligations.RowLoadFillsTheShadow : Prop :=
  (∀ (s : State) (tag table row : Byte) (content : List Byte), Ready .c s → content.length ≤ 52 →
    (TableId.ofByte table = none → Answers (.rowLoad 1 tag (table :: row :: content)) 1 0x01 tag s s
        { result := .range, data := [table, row, 0] })
    ∧ Answers (.rowLoad 1 tag [table]) 1 0x01 tag s s { result := .range, data := [table, 0, 0] }
    ∧ Answers (.rowLoad 1 tag []) 1 0x01 tag s s { result := .range, data := [0, 0, 0] })
  ∧ ∀ (s : State) (tag table row : Byte) (content : List Byte) (b : TableId), Ready .c s → content.length ≤ 52 →
    TableId.ofByte table = some b →
    let load : Instr := .rowLoad 1 tag (table :: row :: content)
    let held := (bank b s).shadow
    let inOrder := row.toNat < capacity b ∧ (row.toNat = held.length ∨ row.toNat = 0)
    ((bank b s).state ≠ .loading → Answers load 1 0x01 tag s s { result := .busy, data := [] })
    ∧ ((bank b s).state = .loading → capacity b ≤ row.toNat →
        ∃ p, Answers load 1 0x01 tag s s { result := .range, data := [table, row, p] })
    ∧ ((bank b s).state = .loading → row.toNat < capacity b → row.toNat ≠ held.length → row.toNat ≠ 0 →
        Answers load 1 0x01 tag s s { result := .order, data := [] })
    ∧ (∀ p, (bank b s).state = .loading → inOrder → judgeRow b row.toNat held content = .error p →
        Answers load 1 0x01 tag s s { result := .range, data := [table, row, byteOf p] })
    ∧ (∀ r, (bank b s).state = .loading → inOrder → judgeRow b row.toNat held content = .ok r →
        (row.toNat = held.length →
          Answers load 1 0x01 tag s (setBank b { bank b s with shadow := held ++ [r] } s) { result := .done, data := [] })
        ∧ (row.toNat = 0 →
          Answers load 1 0x01 tag s (setBank b { bank b s with shadow := [r] } s) { result := .done, data := [] }))

/-- ROW READ from station 1: the stored row's bytes, with the runtime record behind an active MARKER row, and miss count 0
and SUSPECT clear behind a shadow one; EMPTY where the bank holds no such row; RANGE for the table, the bank and a row
number at the capacity. It changes no state (R11, R22). That the two bytes stand behind a shadow MARKER row is the model's
reading of a conflict in the manual (assumption 30), and so is position 3 for the row number (assumption 14). -/
def Obligations.RowReadReturnsTheRow : Prop :=
  ∀ (s : State) (tag table which row : Byte), Ready .c s →
    let read : Instr := .rowRead 1 tag [table, which, row]
    (TableId.ofByte table = none → Answers read 1 0x02 tag s s { result := .range, data := [1] })
    ∧ ∀ b, TableId.ofByte table = some b →
      (2 ≤ which.toNat → Answers read 1 0x02 tag s s { result := .range, data := [2] })
      ∧ (which.toNat < 2 → capacity b ≤ row.toNat → Answers read 1 0x02 tag s s { result := .range, data := [3] })
      ∧ (which.toNat < 2 → row.toNat < capacity b →
          let rows := if which = 0 then (bank b s).active else (bank b s).shadow
          (rows.length ≤ row.toNat → Answers read 1 0x02 tag s s { result := .empty, data := [] })
          ∧ (∀ r, rows[row.toNat]? = some r → (∀ m, r ≠ .marker m) →
              Answers read 1 0x02 tag s s { result := .done, data := rowBytes r })
          ∧ (∀ m, rows[row.toNat]? = some (.marker m) → which = 1 →
              Answers read 1 0x02 tag s s { result := .done, data := rowBytes (.marker m) ++ [0, 0] })
          ∧ (∀ m, rows[row.toNat]? = some (.marker m) → which = 0 →
              let record := recordOf (markerRows (rows.take row.toNat)).length s
              Answers read 1 0x02 tag s s
                { result := .done,
                  data := rowBytes (.marker m) ++ [byteOf record.missCount, byteOf record.suspect.toNat] }))

/-- COMMIT PREPARE from station 1: refused LOCKED, BUSY, STATE or EMPTY in R23's order; accepted, it puts exactly the named
banks into VALIDATING and the result at RUNNING, rows kept (R23, R24, R179). -/
def Obligations.PrepareStartsValidation : Prop :=
  ∀ (s : State) (tag set : Byte), Ready .c s →
    let prepare : Instr := .commitPrepare 1 tag [set]
    let free := s.key = .unlocked ∧ (∀ b, (bank b s).state = .loading) ∧ s.protection.state ≠ .tripped
      ∧ (s.protection.state = .noTables ∨ (winderAtRest s = true ∧ pipelineEmpty s = true))
    (s.key = .locked → Answers prepare 1 0x03 tag s s { result := .locked, data := [] })
    ∧ (s.key = .unlocked → (∃ b, (bank b s).state ≠ .loading) →
        Answers prepare 1 0x03 tag s s { result := .busy, data := [] })
    ∧ (s.key = .unlocked → (∀ b, (bank b s).state = .loading) → s.protection.state = .tripped →
        Answers prepare 1 0x03 tag s s { result := .state, data := [] })
    ∧ (s.key = .unlocked → (∀ b, (bank b s).state = .loading) → s.protection.state ≠ .noTables →
        winderAtRest s = false ∨ pipelineEmpty s = false →
        Answers prepare 1 0x03 tag s s { result := .state, data := [] })
    ∧ (free → set = 0 ∨ 8 ≤ set.toNat ∨ (s.protection.state = .noTables ∧ set ≠ 7) →
        Answers prepare 1 0x03 tag s s { result := .range, data := [1] })
    ∧ (free → set ≠ 0 → set.toNat < 8 → (s.protection.state = .noTables → set = 7) →
        ∀ b, set.getLsbD b.code = true → (bank b s).shadow.length < minimumRows b →
          (∀ b', b'.code < b.code → set.getLsbD b'.code = true → minimumRows b' ≤ (bank b' s).shadow.length) →
          Answers prepare 1 0x03 tag s s { result := .empty, data := [byteOf b.code] })
    ∧ (free → set ≠ 0 → set.toNat < 8 → (s.protection.state = .noTables → set = 7) →
        (∀ b, set.getLsbD b.code = true → minimumRows b ≤ (bank b s).shadow.length) →
        ∃ t, Answers prepare 1 0x03 tag s t { result := .done, data := [] }
          ∧ (∀ b, bank b t = { bank b s with state := if set.getLsbD b.code then .validating else .loading })
          ∧ t.tables.result = .running { shaft := set.getLsbD 0, profile := set.getLsbD 1, drum := set.getLsbD 2 }
          ∧ t = { s with tables := t.tables } ∧ t.tables.markers = s.tables.markers)

/-- Validation rules on the named banks together: all VALIDATED and PASSED, or all back in LOADING and FAILED with the
first failure, rows kept and VALID set either way; with no validation in progress nothing happens. The failure is absent
exactly when no check of the manual names a row of a named bank, and is otherwise the first that one does: by table, then
by row, then by check (R25 to R27). That the operation's end has no effect when none runs is the model's choice
(assumption 8). -/
def Obligations.ValidationRules : Prop :=
  (∀ (s : State) (named : TableSet),
    (validationFailure named s = none ↔
      ∀ b n check, named.has b = true → ¬Names check b (bank b s).shadow n)
    ∧ ∀ b n check, validationFailure named s = some (b, n, check) →
      named.has b = true ∧ Names check b (bank b s).shadow n
      ∧ ∀ b' n' check', named.has b' = true → Names check' b' (bank b' s).shadow n' →
        b.code < b'.code ∨ (b = b' ∧ (n < n' ∨ (n = n' ∧ check.code ≤ check'.code))))
  ∧ ∀ s : State, BanksTogether s →
    (anyValidating s = false → Completes .validationComplete s s)
    ∧ (anyValidating s = true → validationFailure (openSet s) s = none →
        ∃ t, Completes .validationComplete s (setFlag .valid t)
          ∧ (∀ b, bank b t = { bank b s with state := if (bank b s).state = .loading then .loading else .validated })
          ∧ t.tables.result = .passed (openSet s) ∧ t = { s with tables := t.tables }
          ∧ t.tables.markers = s.tables.markers)
    ∧ (∀ b n check, anyValidating s = true → validationFailure (openSet s) s = some (b, n, check) →
        ∃ t, Completes .validationComplete s (setFlag .valid t)
          ∧ (∀ b', bank b' t = { bank b' s with state := .loading })
          ∧ t.tables.result = .failed (openSet s) b n check ∧ t = { s with tables := t.tables }
          ∧ t.tables.markers = s.tables.markers)

/-- COMMIT CONFIRM from station 1, refused in order with no change of state: LOCKED, BUSY, STATE with no bank VALIDATED,
STATE off rest or with a trip in the pipeline outside NO-TABLES; accepted, every VALIDATED shadow becomes the active bank
whole and is emptied; the first confirm closes CHAIN in UNDATUMED, sets each applied position to its drum position and
starts both sample watches, the channels otherwise kept; a SHAFT or DRUM confirm leaves every tracker UNDATUMED with its
offset; a SHAFT confirm makes fresh marker records, clears every hold and empties the watch list (R30 to R32, R39, R42,
R160). -/
def Obligations.ConfirmSwapsTheBanks : Prop :=
  (∀ (s : State) (tag : Byte), Ready .c s →
    let refused (r : Result) := Answers (.commitConfirm 1 tag []) 1 0x04 tag s s { result := r, data := [] }
    let validating := ∃ b, (bank b s).state = .validating
    let validated := ∃ b, (bank b s).state = .validated
    (s.key = .locked → refused .locked) ∧ (s.key = .unlocked → validating → refused .busy)
    ∧ (s.key = .unlocked → ¬validating → ¬validated → refused .state)
    ∧ (s.key = .unlocked → ¬validating → validated → s.protection.state ≠ .noTables →
        winderAtRest s = false ∨ s.pipeline.active ≠ none ∨ s.pipeline.waiting ≠ none → refused .state))
  ∧ ∀ (s : State) (tag : Byte), Ready .c s → s.key = .unlocked → anyValidating s = false → anyValidated s = true →
    s.protection.state = .noTables ∨ (winderAtRest s = true ∧ pipelineEmpty s = true) →
    let shaft := s.tables.shaft.state = .validated
    let drum := s.tables.drum.state = .validated
    ∃ t, Answers (.commitConfirm 1 tag []) 1 0x04 tag s t { result := .done, data := [] }
      ∧ (∀ b, bank b t = if (bank b s).state = .validated
            then { active := (bank b s).shadow, shadow := [], state := .loading } else bank b s)
      ∧ t.tables.result = s.tables.result
      ∧ (shaft → t.tables.markers = freshRecords s.tables.shaft.shadow ∧ t.zones.watchList = []
          ∧ ∀ h ∈ t.zones.holders, h = none)
      ∧ (¬shaft → t.tables.markers = s.tables.markers ∧ t.zones.holders = s.zones.holders)
      ∧ (shaft ∨ drum → t.protection.state ≠ .armed
          ∧ ∀ c, (tracker c t).datumed = false ∧ (tracker c t).expected = none
            ∧ (tracker c t).offset = (tracker c s).offset ∧ (tracker c t).load = (tracker c s).load)
      ∧ (¬(shaft ∨ drum) → t.trackers = s.trackers)
      ∧ (s.protection.state = .noTables → t.protection.state = .undatumed ∧ t.protection.chainClosed = true
          ∧ ∀ d, channel d t = { channel d s with applied := (channel d s).position,
                                                  watchTimer := (channel d t).watchTimer }
            ∧ ∀ r, drumRow t = some r →
                (channel d t).watchTimer = some { lengthMs := r.sampleWatch, runUs := 0 })
      ∧ (s.protection.state ≠ .noTables → t.drums = s.drums)
      ∧ t.pipeline = s.pipeline ∧ t.key = s.key ∧ t.guard = s.guard

/-- COMMIT CANCEL: refused ORIGIN to every station but 1; it returns every bank of an open commitment to LOADING with its
rows kept and records CANCELLED with the named set, setting no flag; with none open it is EMPTY and changes no state
(R33). -/
def Obligations.CancelReturnsTheBanks : Prop :=
  ∀ (s : State) (origin tag : Byte), Ready .c s →
    let cancel : Instr := .commitCancel origin tag []
    let loading (b : Bank) : Bank := { b with state := .loading }
    (origin ≠ 1 → Answers cancel origin 0x05 tag s s { result := .origin, data := [] })
    ∧ (origin = 1 → (∀ b, (bank b s).state = .loading) →
        Answers cancel origin 0x05 tag s s { result := .empty, data := [] })
    ∧ (origin = 1 → (∃ b, (bank b s).state ≠ .loading) →
        Answers cancel origin 0x05 tag s
          { s with tables := { s.tables with
              shaft := loading s.tables.shaft, profile := loading s.tables.profile, drum := loading s.tables.drum,
              result := .cancelled { shaft := decide (s.tables.shaft.state ≠ .loading),
                                     profile := decide (s.tables.profile.state ≠ .loading),
                                     drum := decide (s.tables.drum.state ≠ .loading) } } }
          { result := .done, data := [] })

/-- KEY to LOCKED abandons an open commitment: banks back in LOADING with their rows, ABANDONED with reason KEY, VALID set;
with none open, and on a change to UNLOCKED, only KEY changes (R28). -/
def Obligations.KeyLockAbandons : Prop :=
  ∀ s : State,
    let locked : State := { s with key := .locked }
    (s.key = .locked → Completes (.keyChange .unlocked) s { s with key := .unlocked })
    ∧ (s.key = .unlocked → commitmentOpen s = false → Completes (.keyChange .locked) s locked)
    ∧ (s.key = .unlocked → commitmentOpen s = true →
        ∃ t, Completes (.keyChange .locked) s (setFlag .valid t)
          ∧ (∀ b, bank b t = { bank b s with state := .loading })
          ∧ t.tables.result = .abandoned (openSet s) .key ∧ t = { locked with tables := t.tables }
          ∧ t.tables.markers = s.tables.markers)

/-! ### Requests (chapters 5, 8, 9 and 11) -/

/-- What every request passes first: an undefined kind, an origin that may not use the kind, a parameter length that the
kind does not have; each refused with no change of state (R177, R178). -/
def Obligations.RequestsArePassedFirst : Prop :=
  ∀ (s : State) (origin tag : Byte) (params : List Byte),
    (∀ kind, Ready .c s → params.length ≤ 54 → RequestKind.ofByte kind = none →
      Answers (.unknownRequest origin kind tag params) origin kind tag s s { result := .unknownRequest, data := [] })
    ∧ (∀ k : RequestKind,
        let panels := k = .statusRead ∨ k = .positionRead ∨ k = .zoneInquiry ∨ k = .zoneHold ∨ k = .zoneRelease
        let may := origin = 1 ∨ (2 ≤ origin.toNat ∧ origin.toNat ≤ 15 ∧ panels)
        (¬may → serveRequest origin k.code tag params s
          = offerUp .part (replyFrame origin k.code tag { result := .origin, data := [] }) s)
        ∧ (∀ n, may → k.paramLength = some n → params.length ≠ n → serveRequest origin k.code tag params s
          = offerUp .part (replyFrame origin k.code tag { result := .range, data := [0] }) s))

/-- TRIP REQUEST from station 1 that meets every condition of R75: placed in the ACTIVE slot in WAITING with its payout
origin, or queued behind the active trip, with everything handed on before the reply names the slot. The trip carries what
was asked, moves all three conveyances with the clutch IN and the skip alone otherwise, starts from the present depths or
from the active trip's planned ends, and carries its planned ends and its swept set (R73, R75 to R78, R93). -/
def Obligations.AcceptedTripsArePlaced : Prop :=
  ∀ (s : State) (tag : Byte) (params : List Byte) (a : TripAsked), Ready .c s → params.length = 10 →
    TakesCauses s → stopRuns s = false → commitmentOpen s = false → s.pipeline.waiting = none →
    tagRefused (params.getD 0 0) s = false → readTrip params s = .ok a →
    (s.protection.state = .undatumed → a.regime = .recovery) → s.protection.image.clutch ≠ .moving →
    (a.lead = .cage → s.protection.image.clutch = .engaged) → notReady (candidate a s).movesAll s = none →
    startsWithinWindow (candidate a s) s = false → heldAgainst (candidate a s) s = [] →
    let placed := candidate a s
    (placed.tag = a.tag ∧ placed.kind = a.kind ∧ placed.lead = a.lead ∧ placed.regime = a.regime
      ∧ placed.state = .queued ∧ placed.cause = none ∧ placed.payoutOrigin = none
      ∧ (placed.movesAll = true ↔ s.protection.image.clutch = .engaged)
      ∧ (s.pipeline.active = none → StartsHere placed s)
      ∧ (∀ ahead, s.pipeline.active = some ahead → placed.starts = ahead.ends)
      ∧ ((∃ length, a.kind = .travel length) → placed.direction = a.direction)
      ∧ HeadsForStop placed s ∧ CarriesItsPlan placed s)
    ∧ (s.pipeline.active = none →
      Answers (.tripRequest 1 tag params) 1 0x06 tag s
        (handOn { s with pipeline.active := some { candidate a s with
          state := .waiting, payoutOrigin := some (channel a.lead.drum s).payout } })
        { result := .done, data := [0] })
    ∧ (s.pipeline.active ≠ none →
      Answers (.tripRequest 1 tag params) 1 0x06 tag s
        (handOn { s with pipeline.waiting := some (candidate a s) }) { result := .done, data := [1] })

/-- TRIP REQUEST refused, in R75's order, with no change of state: STATE, BUSY, FULL, DUPLICATE, RANGE for fields that do
not meet condition 6, UNDATUMED, CLUTCH, NOT-READY, RANGE for a start within the `window`, and HELD with the lowest held
zone (R73, R75, R178, R180). Which field a RANGE refusal names is a free value where the manual leaves it open (assumption
2). That a request's kind byte is 0 for STATION and 1 for TRAVEL, and its drum direction 0 for FORWARD and 1 for REVERSE,
is the model's reading (assumption 25). -/
def Obligations.TripsAreRefusedInOrder : Prop :=
  ∀ (s : State) (tag : Byte) (params : List Byte), Ready .c s → params.length = 10 →
    let request : Instr := .tripRequest 1 tag params
    let refused (r : Reply) := Answers request 1 0x06 tag s s r
    let state := s.protection.state = .noTables ∨ s.protection.state = .tripped ∨ stopRuns s = true
    (state → refused { result := .state, data := [] })
    ∧ (¬state → commitmentOpen s = true → refused { result := .busy, data := [] })
    ∧ (¬state → commitmentOpen s = false → s.pipeline.waiting ≠ none → refused { result := .full, data := [] })
    ∧ (¬state → commitmentOpen s = false → s.pipeline.waiting = none →
        (tagRefused (params.getD 0 0) s = true → refused { result := .duplicate, data := [] })
        ∧ (∀ a, readTrip params s = .ok a ↔ AsksFor params a s)
        ∧ (tagRefused (params.getD 0 0) s = false → (¬∃ a, AsksFor params a s) →
            ∃ p, refused { result := .range, data := [p] })
        ∧ ∀ a, tagRefused (params.getD 0 0) s = false → readTrip params s = .ok a →
          let undatumed := s.protection.state = .undatumed ∧ a.regime ≠ .recovery
          let clutch := s.protection.image.clutch = .moving
            ∨ (a.lead = .cage ∧ s.protection.image.clutch ≠ .engaged)
          (undatumed → refused { result := .undatumed, data := [] })
          ∧ (¬undatumed → clutch → refused { result := .clutch, data := [] })
          ∧ (∀ data, ¬undatumed → ¬clutch → notReady (candidate a s).movesAll s = some data →
              refused { result := .notReady, data })
          ∧ (∀ k st start, ¬undatumed → ¬clutch → notReady (candidate a s).movesAll s = none →
              a.kind = .station k → (stations s)[k]? = some st →
              (candidate a s).starts.get a.lead.conveyance = some start →
              (start - st.stopDepth).natAbs ≤ st.window → ∃ p, refused { result := .range, data := [p] })
          ∧ (∀ z rest, ¬undatumed → ¬clutch → notReady (candidate a s).movesAll s = none →
              startsWithinWindow (candidate a s) s = false → heldAgainst (candidate a s) s = z :: rest →
              refused { result := .held, data := [byteOf z] }))

/-- TRIP ABORT from station 1, by the table of R85: the waiting trip alone, both trips while the active one waits, the
active trip into STOPPING while it moves, or ABORTED at once if its drums are at rest already, no change while it stops,
EMPTY for a tag no trip carries (R83, R85, R86, R94). The entry into STOPPING begins the controlled stop, with its record
and deadline, and takes the controller's waiting reference out of the queue (R121). -/
def Obligations.AbortsFollowTheTable : Prop :=
  ∀ (s : State) (tag aim : Byte), Ready .c s →
    let abort : Instr := .tripAbort 1 tag [aim]
    let done : Reply := { result := .done, data := [] }
    (∀ trip, s.pipeline.waiting = some trip → aim = trip.tag → aim ≠ 0 →
      ∃ t, Answers abort 1 0x07 tag s t done ∧ t.pipeline.waiting = none ∧ t.pipeline.active = s.pipeline.active
        ∧ ∃ r, IsRecord r trip .aborted (some .abort) s
          ∧ t.pipeline.history = (r :: s.pipeline.history).take 2)
    ∧ (∀ trip, s.pipeline.active = some trip → aim = 0 ∨ aim = trip.tag →
        (∀ w, s.pipeline.waiting = some w → aim = 0 ∨ aim ≠ w.tag) →
        (trip.state = .waiting →
          ∃ t, Answers abort 1 0x07 tag s t done ∧ FinishesBoth trip .aborted (some .abort) s t)
        ∧ (trip.state = .stopping →
          ∃ t, Answers abort 1 0x07 tag s t done ∧ t.pipeline = s.pipeline ∧ t.guard = s.guard)
        ∧ (trip.state = .running ∨ trip.state = .creeping ∨ trip.state = .settling →
          (movingDrumsAtRest trip s = false →
            ∃ t, Answers abort 1 0x07 tag s t done
              ∧ t.pipeline.active = some { trip with state := .stopping, cause := some .abort }
              ∧ t.pipeline.waiting = none ∧ flagSet .stop t = true ∧ t.guard.watch = none
              ∧ (∀ R, regimeRow trip.regime s = some R → t.guard.stop = some
                  { startSpeed := s.guard.lastRef.magnitude, rampValue := s.guard.lastRef.magnitude * 1000000,
                    rampSpeed := s.guard.lastRef.magnitude, overRun := 0,
                    deadline := { lengthMs := s.guard.lastRef.magnitude * 1000 / R.stopDecel + 2000, runUs := 0 },
                    forward := decide (trip.direction = .forward) })
              ∧ (∀ f ∈ t.guard.queue, f.source ≠ some .controller)
              ∧ (s.pipeline.waiting = none → t.pipeline.history = s.pipeline.history)
              ∧ ∀ w, s.pipeline.waiting = some w → ∃ r, IsRecord r w .discarded none s
                ∧ t.pipeline.history = (r :: s.pipeline.history).take 2)
          ∧ (movingDrumsAtRest trip s = true →
            ∃ t, Answers abort 1 0x07 tag s t done ∧ FinishesBoth trip .aborted (some .abort) s t
              ∧ flagSet .stop t = true ∧ t.guard.stop = none ∧ t.guard.watch = none)))
    ∧ ((∀ trip, s.pipeline.active = some trip → aim ≠ 0 ∧ aim ≠ trip.tag) →
        (∀ trip, s.pipeline.waiting = some trip → aim ≠ trip.tag) →
        Answers abort 1 0x07 tag s s { result := .empty, data := [] })

/-- TRIP RESET from station 1: refused STATE naming the first unmet condition of R141; accepted, it empties the cause set,
un-datums the trackers on a cause of R143, and closes CHAIN in ARMED or UNDATUMED as the trackers then stand, with the new
state in the reply (R141 to R143). -/
def Obligations.TripResetClosesChain : Prop :=
  ∀ (s : State) (tag : Byte), Ready .c s →
    let reset : Instr := .tripReset 1 tag []
    let refused (n : Byte) := Answers reset 1 0x08 tag s s { result := .state, data := [n] }
    let tripped := s.protection.state = .tripped
    let heard := s.protection.driveHeard = true
    let rest := winderAtRest s = true
    let doubt := causePresent .position s = true ∨ causePresent .sample s = true ∨ causePresent .unplanned s = true
      ∨ causePresent .disagree s = true ∨ causePresent .creep s = true ∨ causePresent .pair s = true
    let keeps := ¬doubt ∧ allDatumed s = true
    (¬tripped → refused 0) ∧ (tripped → ¬heard → refused 1) ∧ (tripped → heard → ¬rest → refused 2)
    ∧ (tripped → heard → rest → s.protection.image.brakeApplied = false → refused 3)
    ∧ (tripped → heard → rest → s.protection.image.brakeApplied = true →
        ∃ t, Answers reset 1 0x08 tag s t { result := .done, data := [if keeps then 2 else 1] }
          ∧ t.protection.chainClosed = true ∧ t.protection.causes = 0 ∧ t.protection.firstCause = none
          ∧ (keeps → t.protection.state = .armed ∧ flagSet .datum t = true)
          ∧ (¬keeps → t.protection.state = .undatumed)
          ∧ (doubt → ∀ c, (tracker c t).datumed = false ∧ (tracker c t).offset = (tracker c s).offset)
          ∧ (¬doubt → t.trackers = s.trackers)
          ∧ t.protection.driveHeard = true ∧ t.protection.image = s.protection.image
          ∧ t.pipeline = s.pipeline ∧ t.zones.holders = s.zones.holders ∧ t.tables = s.tables ∧ t.drums = s.drums)

/-- RESTART from station 1: refused STATE outside UNDATUMED and ARMED, off rest, or with a trip in the pipeline;
accepted, it un-datums the trackers, empties history and watch list, clears counters and flags but START, and leaves
UNDATUMED with CHAIN closed and P 0, with tables, holds, loads, channels, image and downstream queue kept (R188, R95,
R127, R145, R161). That the values which stand already are written again is the model's (assumption 24). -/
def Obligations.RestartBeginsAFreshShift : Prop :=
  ∀ (s : State) (tag : Byte), Ready .c s →
    let restart : Instr := .restart 1 tag []
    (¬TakesCauses s ∨ winderAtRest s = false ∨ pipelineEmpty s = false →
      Answers restart 1 0x09 tag s s { result := .state, data := [] })
    ∧ (TakesCauses s → winderAtRest s = true → pipelineEmpty s = true →
        ∃ t, Answers restart 1 0x09 tag s t { result := .done, data := [] }
          ∧ t.protection.state = .undatumed ∧ t.protection.chainClosed = true ∧ t.envelope.permitted = 0
          ∧ (∀ c, (tracker c t).datumed = false ∧ (tracker c t).offset = (tracker c s).offset
              ∧ (tracker c t).load = (tracker c s).load)
          ∧ t.pipeline.history = [] ∧ t.zones.watchList = [] ∧ flagSet .start t = true
          ∧ (s.line.queue.length < 16 → t.requests.flags = 1 ∧ ∀ n ∈ t.requests.counters.values, n = 0)
          ∧ t.tables = s.tables ∧ t.drums = s.drums ∧ t.zones.holders = s.zones.holders
          ∧ t.protection.image = s.protection.image ∧ t.protection.driveHeard = s.protection.driveHeard
          ∧ t.guard.queue = s.guard.queue ∧ t.guard.transmitter = s.guard.transmitter
          ∧ t.guard.lastRef = s.guard.lastRef ∧ t.key = s.key)

/-- ZONE INQUIRY from a station 1 to 15 on a zone that exists: with the option clear it only looks; with it set it
withdraws a trip that has not started, or watches, by the zone's summary; the trip withdrawn is WITHDRAWN with no cause in
the history, and a trip waiting behind it DISCARDED ahead of it; a zone that does not exist and a wrong option are refused
RANGE (R94, R150 to R154, R181). The codes of the four actions, and position 1 for the zone index, are the model's
reading (assumptions 15 and 14). -/
def Obligations.InquiriesLookWithdrawOrWatch : Prop :=
  ∀ (s : State) (origin tag zone option : Byte), Ready .c s → 1 ≤ origin.toNat → origin.toNat ≤ 15 →
    let z := zone.toNat
    let inquiry : Instr := .zoneInquiry origin tag [zone, option]
    let looks (t : State) (action : Byte) : Reply :=
      { result := .done, data := [zone, (summaryOf z t).code, (holderOf z t).getD 0, action] }
    let entry : WatchEntry := { zone := z, station := origin }
    ((zoneList s).length ≤ z → Answers inquiry origin 0x0A tag s s { result := .range, data := [1] })
    ∧ (z < (zoneList s).length →
      (2 ≤ option.toNat → Answers inquiry origin 0x0A tag s s { result := .range, data := [2] })
      ∧ (option = 0 → Answers inquiry origin 0x0A tag s s (looks s 0))
      ∧ (option = 1 →
        (summaryOf z s = .unknown ∨ summaryOf z s = .held ∨ summaryOf z s = .clear →
          Answers inquiry origin 0x0A tag s s (looks s 0))
        ∧ (summaryOf z s = .plannedWaiting →
          ∃ t, Answers inquiry origin 0x0A tag s t (looks t 1) ∧ t.pipeline.waiting = none
            ∧ t.pipeline.active = s.pipeline.active
            ∧ ∀ w, s.pipeline.waiting = some w → ∃ r, IsRecord r w .withdrawn none s
              ∧ t.pipeline.history = (r :: s.pipeline.history).take 2)
        ∧ (summaryOf z s = .plannedActive → s.zones.activeState = some .waiting →
          ∃ t, Answers inquiry origin 0x0A tag s t (looks t 1) ∧ t.pipeline.active = none ∧ t.pipeline.waiting = none
            ∧ ∀ trip, s.pipeline.active = some trip → FinishesBoth trip .withdrawn none s t)
        ∧ (summaryOf z s = .occupied
            ∨ (summaryOf z s = .plannedActive ∧ s.zones.activeState ≠ some .waiting) →
          (entry ∈ s.zones.watchList → Answers inquiry origin 0x0A tag s s (looks s 2))
          ∧ (entry ∉ s.zones.watchList → 4 ≤ s.zones.watchList.length →
              Answers inquiry origin 0x0A tag s s (looks s 3))
          ∧ (entry ∉ s.zones.watchList → s.zones.watchList.length < 4 →
              Answers inquiry origin 0x0A tag s { s with zones.watchList := s.zones.watchList ++ [entry] }
                (looks s 2)))))

/-- ZONE HOLD from a station 1 to 15: only a CLEAR zone takes the station as its holder; every other summary is refused by
its own code, naming the slot or the holder; a zone that does not exist is refused RANGE (R150, R156). Position 1 for the
zone index is the model's reading (assumption 14). -/
def Obligations.HoldsNeedAClearZone : Prop :=
  ∀ (s : State) (origin tag zone : Byte), Ready .c s → 1 ≤ origin.toNat → origin.toNat ≤ 15 →
    let z := zone.toNat
    let hold : Instr := .zoneHold origin tag [zone]
    let refused (r : Result) (data : List Byte) := Answers hold origin 0x0B tag s s { result := r, data }
    ((zoneList s).length ≤ z → refused .range [1])
    ∧ (z < (zoneList s).length →
      (summaryOf z s = .clear → Answers hold origin 0x0B tag s
        { s with zones.holders := s.zones.holders.set z (some origin) } { result := .done, data := [] })
      ∧ (summaryOf z s = .occupied → refused .occupied []) ∧ (summaryOf z s = .unknown → refused .unknown [])
      ∧ (summaryOf z s = .plannedActive → refused .planned [0])
      ∧ (summaryOf z s = .plannedWaiting → refused .planned [1])
      ∧ (∀ h, summaryOf z s = .held → holderOf z s = some h → refused .held [h]))

/-- ZONE RELEASE from a station 1 to 15 on a zone that exists: EMPTY without a holder, ORIGIN to a station that is neither
the holder nor 1, else the holder becomes none and the reply is DONE; a zone that does not exist is refused RANGE (R150,
R158). Position 1 for the zone index is the model's reading (assumption 14). -/
def Obligations.ReleasesFreeTheZone : Prop :=
  ∀ (s : State) (origin tag zone : Byte), Ready .c s → 1 ≤ origin.toNat → origin.toNat ≤ 15 →
    let z := zone.toNat
    let release : Instr := .zoneRelease origin tag [zone]
    ((zoneList s).length ≤ z → Answers release origin 0x0C tag s s { result := .range, data := [1] })
    ∧ (z < (zoneList s).length →
      (holderOf z s = none → Answers release origin 0x0C tag s s { result := .empty, data := [] })
      ∧ (∀ h, holderOf z s = some h → origin ≠ h → origin ≠ 1 →
          Answers release origin 0x0C tag s s { result := .origin, data := [] })
      ∧ (∀ h, holderOf z s = some h → origin = h ∨ origin = 1 →
          Answers release origin 0x0C tag s { s with zones.holders := s.zones.holders.set z none }
            { result := .done, data := [] }))

/-- STATUS READ from a station 1 to 15 returns the 48 bytes of R182 as the items stand when it is taken; from station 1
it then clears every attention flag, and nothing else (R182). Some codes in the 48 bytes are the model's reading
(assumption 25). -/
def Obligations.StatusReadClearsTheFlags : Prop :=
  ∀ (s : State) (origin tag : Byte), Ready .c s → 1 ≤ origin.toNat → origin.toNat ≤ 15 →
    Answers (.statusRead origin tag []) origin 0x0D tag s
      (if origin = 1 then { s with requests.flags := 0 } else s) { result := .done, data := statusBytes s }
    ∧ (statusBytes s).length = 48
    ∧ (statusBytes s).take 2 = [byteOf s.protection.state.code, firstCauseByte s]
    ∧ be ((statusBytes s).drop 46) = s.requests.flags.toNat
    ∧ be (((statusBytes s).drop 2).take 2) = s.protection.causes.toNat

/-- POSITION READ from a station 1 to 15 on a conveyance 0 to 2 returns the 28 bytes of R183, P and the reported depth
among them, and changes no state; a conveyance above 2 is refused RANGE (R183). -/
def Obligations.PositionReadShowsTheTracker : Prop :=
  ∀ (s : State) (origin tag code : Byte), Ready .c s → 1 ≤ origin.toNat → origin.toNat ≤ 15 →
    (Conveyance.ofCode code.toNat = none →
      Answers (.positionRead origin tag [code]) origin 0x0E tag s s { result := .range, data := [1] })
    ∧ (∀ c, Conveyance.ofCode code.toNat = some c →
        Answers (.positionRead origin tag [code]) origin 0x0E tag s s { result := .done, data := positionBytes c s }
        ∧ (positionBytes c s).length = 28
        ∧ (s.envelope.permitted < 65536 → field (positionBytes c s) 0 2 = s.envelope.permitted)
        ∧ (-(2 ^ 31) ≤ (tracker c s).reported → (tracker c s).reported < 2 ^ 31 →
            signedField (positionBytes c s) 9 4 = (tracker c s).reported))

/-- COUNTER READ: the eleven counters in index order, two bytes each, as they stand; with the option set every counter is
then 0; an option above 1 is refused RANGE naming field position 1 (R187). -/
def Obligations.CounterReadCounts : Prop :=
  ∀ (s : State) (tag option : Byte), Ready .c s →
    let read : Instr := .counterRead 1 tag [option]
    (2 ≤ option.toNat → Answers read 1 0x0F tag s s { result := .range, data := [1] })
    ∧ (option.toNat < 2 → ∃ data,
        Answers read 1 0x0F tag s
          (if option = 1 then { s with requests.counters := State.resetCounters } else s) { result := .done, data }
        ∧ data.length = 22
        ∧ (CountersBounded s → (List.range 11).map (fun i => field data (2 * i) 2) = s.requests.counters.values))
end

