-- ==== Sys2Proof/Laws/State.lean ====
section
/-! SUPPORT. State.lean: for each named write of State, one lemma per part of the state it leaves alone, and what the part it
writes then reads as, so that no later proof unfolds a record update. -/

namespace Sys2Proof.Machine

variable (s : State)

/-! `setBank` writes the tables only. -/
@[simp] theorem setBank_pending (t : TableId) (b : Bank) : (setBank t b s).pending = s.pending := by cases t <;> rfl
@[simp] theorem setBank_key (t : TableId) (b : Bank) : (setBank t b s).key = s.key := by cases t <;> rfl
@[simp] theorem setBank_line (t : TableId) (b : Bank) : (setBank t b s).line = s.line := by cases t <;> rfl
@[simp] theorem setBank_drums (t : TableId) (b : Bank) : (setBank t b s).drums = s.drums := by cases t <;> rfl
@[simp] theorem setBank_trackers (t : TableId) (b : Bank) : (setBank t b s).trackers = s.trackers := by cases t <;> rfl
@[simp] theorem setBank_pipeline (t : TableId) (b : Bank) : (setBank t b s).pipeline = s.pipeline := by cases t <;> rfl
@[simp] theorem setBank_envelope (t : TableId) (b : Bank) : (setBank t b s).envelope = s.envelope := by cases t <;> rfl
@[simp] theorem setBank_guard (t : TableId) (b : Bank) : (setBank t b s).guard = s.guard := by cases t <;> rfl
@[simp] theorem setBank_protection (t : TableId) (b : Bank) : (setBank t b s).protection = s.protection := by cases t <;> rfl
@[simp] theorem setBank_zones (t : TableId) (b : Bank) : (setBank t b s).zones = s.zones := by cases t <;> rfl
@[simp] theorem setBank_requests (t : TableId) (b : Bank) : (setBank t b s).requests = s.requests := by cases t <;> rfl
@[simp] theorem setBank_freeCount (t : TableId) (b : Bank) : (setBank t b s).freeCount = s.freeCount := by cases t <;> rfl

/-! `setChannel` writes the drums only. -/
@[simp] theorem setChannel_pending (d : Drum) (ch : Channel) : (setChannel d ch s).pending = s.pending := by cases d <;> rfl
@[simp] theorem setChannel_key (d : Drum) (ch : Channel) : (setChannel d ch s).key = s.key := by cases d <;> rfl
@[simp] theorem setChannel_line (d : Drum) (ch : Channel) : (setChannel d ch s).line = s.line := by cases d <;> rfl
@[simp] theorem setChannel_tables (d : Drum) (ch : Channel) : (setChannel d ch s).tables = s.tables := by cases d <;> rfl
@[simp] theorem setChannel_trackers (d : Drum) (ch : Channel) : (setChannel d ch s).trackers = s.trackers := by cases d <;> rfl
@[simp] theorem setChannel_pipeline (d : Drum) (ch : Channel) : (setChannel d ch s).pipeline = s.pipeline := by cases d <;> rfl
@[simp] theorem setChannel_envelope (d : Drum) (ch : Channel) : (setChannel d ch s).envelope = s.envelope := by cases d <;> rfl
@[simp] theorem setChannel_guard (d : Drum) (ch : Channel) : (setChannel d ch s).guard = s.guard := by cases d <;> rfl
@[simp] theorem setChannel_protection (d : Drum) (ch : Channel) : (setChannel d ch s).protection = s.protection := by cases d <;> rfl
@[simp] theorem setChannel_zones (d : Drum) (ch : Channel) : (setChannel d ch s).zones = s.zones := by cases d <;> rfl
@[simp] theorem setChannel_requests (d : Drum) (ch : Channel) : (setChannel d ch s).requests = s.requests := by cases d <;> rfl
@[simp] theorem setChannel_freeCount (d : Drum) (ch : Channel) : (setChannel d ch s).freeCount = s.freeCount := by cases d <;> rfl

/-! `setTracker` writes the trackers only. -/
@[simp] theorem setTracker_pending (c : Conveyance) (t : Tracker) : (setTracker c t s).pending = s.pending := rfl
@[simp] theorem setTracker_key (c : Conveyance) (t : Tracker) : (setTracker c t s).key = s.key := rfl
@[simp] theorem setTracker_line (c : Conveyance) (t : Tracker) : (setTracker c t s).line = s.line := rfl
@[simp] theorem setTracker_tables (c : Conveyance) (t : Tracker) : (setTracker c t s).tables = s.tables := rfl
@[simp] theorem setTracker_drums (c : Conveyance) (t : Tracker) : (setTracker c t s).drums = s.drums := rfl
@[simp] theorem setTracker_pipeline (c : Conveyance) (t : Tracker) : (setTracker c t s).pipeline = s.pipeline := rfl
@[simp] theorem setTracker_envelope (c : Conveyance) (t : Tracker) : (setTracker c t s).envelope = s.envelope := rfl
@[simp] theorem setTracker_guard (c : Conveyance) (t : Tracker) : (setTracker c t s).guard = s.guard := rfl
@[simp] theorem setTracker_protection (c : Conveyance) (t : Tracker) : (setTracker c t s).protection = s.protection := rfl
@[simp] theorem setTracker_zones (c : Conveyance) (t : Tracker) : (setTracker c t s).zones = s.zones := rfl
@[simp] theorem setTracker_requests (c : Conveyance) (t : Tracker) : (setTracker c t s).requests = s.requests := rfl
@[simp] theorem setTracker_freeCount (c : Conveyance) (t : Tracker) : (setTracker c t s).freeCount = s.freeCount := rfl

/-! `setReceiver` writes the line only. -/
@[simp] theorem setReceiver_pending (l : Link) (r : Receiver) : (setReceiver l r s).pending = s.pending := by cases l <;> rfl
@[simp] theorem setReceiver_key (l : Link) (r : Receiver) : (setReceiver l r s).key = s.key := by cases l <;> rfl
@[simp] theorem setReceiver_tables (l : Link) (r : Receiver) : (setReceiver l r s).tables = s.tables := by cases l <;> rfl
@[simp] theorem setReceiver_drums (l : Link) (r : Receiver) : (setReceiver l r s).drums = s.drums := by cases l <;> rfl
@[simp] theorem setReceiver_trackers (l : Link) (r : Receiver) : (setReceiver l r s).trackers = s.trackers := by cases l <;> rfl
@[simp] theorem setReceiver_pipeline (l : Link) (r : Receiver) : (setReceiver l r s).pipeline = s.pipeline := by cases l <;> rfl
@[simp] theorem setReceiver_envelope (l : Link) (r : Receiver) : (setReceiver l r s).envelope = s.envelope := by cases l <;> rfl
@[simp] theorem setReceiver_guard (l : Link) (r : Receiver) : (setReceiver l r s).guard = s.guard := by cases l <;> rfl
@[simp] theorem setReceiver_protection (l : Link) (r : Receiver) : (setReceiver l r s).protection = s.protection := by cases l <;> rfl
@[simp] theorem setReceiver_zones (l : Link) (r : Receiver) : (setReceiver l r s).zones = s.zones := by cases l <;> rfl
@[simp] theorem setReceiver_requests (l : Link) (r : Receiver) : (setReceiver l r s).requests = s.requests := by cases l <;> rfl
@[simp] theorem setReceiver_freeCount (l : Link) (r : Receiver) : (setReceiver l r s).freeCount = s.freeCount := by cases l <;> rfl

/-! `markFlag` writes the requests only. -/
@[simp] theorem markFlag_pending (f : Flag) : (markFlag f s).pending = s.pending := rfl
@[simp] theorem markFlag_key (f : Flag) : (markFlag f s).key = s.key := rfl
@[simp] theorem markFlag_line (f : Flag) : (markFlag f s).line = s.line := rfl
@[simp] theorem markFlag_tables (f : Flag) : (markFlag f s).tables = s.tables := rfl
@[simp] theorem markFlag_drums (f : Flag) : (markFlag f s).drums = s.drums := rfl
@[simp] theorem markFlag_trackers (f : Flag) : (markFlag f s).trackers = s.trackers := rfl
@[simp] theorem markFlag_pipeline (f : Flag) : (markFlag f s).pipeline = s.pipeline := rfl
@[simp] theorem markFlag_envelope (f : Flag) : (markFlag f s).envelope = s.envelope := rfl
@[simp] theorem markFlag_guard (f : Flag) : (markFlag f s).guard = s.guard := rfl
@[simp] theorem markFlag_protection (f : Flag) : (markFlag f s).protection = s.protection := rfl
@[simp] theorem markFlag_zones (f : Flag) : (markFlag f s).zones = s.zones := rfl
@[simp] theorem markFlag_freeCount (f : Flag) : (markFlag f s).freeCount = s.freeCount := rfl

/-! `count` writes the requests only. -/
@[simp] theorem count_pending (c : Counter) : (count c s).pending = s.pending := by cases c <;> rfl
@[simp] theorem count_key (c : Counter) : (count c s).key = s.key := by cases c <;> rfl
@[simp] theorem count_line (c : Counter) : (count c s).line = s.line := by cases c <;> rfl
@[simp] theorem count_tables (c : Counter) : (count c s).tables = s.tables := by cases c <;> rfl
@[simp] theorem count_drums (c : Counter) : (count c s).drums = s.drums := by cases c <;> rfl
@[simp] theorem count_trackers (c : Counter) : (count c s).trackers = s.trackers := by cases c <;> rfl
@[simp] theorem count_pipeline (c : Counter) : (count c s).pipeline = s.pipeline := by cases c <;> rfl
@[simp] theorem count_envelope (c : Counter) : (count c s).envelope = s.envelope := by cases c <;> rfl
@[simp] theorem count_guard (c : Counter) : (count c s).guard = s.guard := by cases c <;> rfl
@[simp] theorem count_protection (c : Counter) : (count c s).protection = s.protection := by cases c <;> rfl
@[simp] theorem count_zones (c : Counter) : (count c s).zones = s.zones := by cases c <;> rfl
@[simp] theorem count_freeCount (c : Counter) : (count c s).freeCount = s.freeCount := by cases c <;> rfl

/-! `appendUp` writes the line only. -/
@[simp] theorem appendUp_pending (m : UpMark) (f : Frame) : (appendUp m f s).pending = s.pending := rfl
@[simp] theorem appendUp_key (m : UpMark) (f : Frame) : (appendUp m f s).key = s.key := rfl
@[simp] theorem appendUp_tables (m : UpMark) (f : Frame) : (appendUp m f s).tables = s.tables := rfl
@[simp] theorem appendUp_drums (m : UpMark) (f : Frame) : (appendUp m f s).drums = s.drums := rfl
@[simp] theorem appendUp_trackers (m : UpMark) (f : Frame) : (appendUp m f s).trackers = s.trackers := rfl
@[simp] theorem appendUp_pipeline (m : UpMark) (f : Frame) : (appendUp m f s).pipeline = s.pipeline := rfl
@[simp] theorem appendUp_envelope (m : UpMark) (f : Frame) : (appendUp m f s).envelope = s.envelope := rfl
@[simp] theorem appendUp_guard (m : UpMark) (f : Frame) : (appendUp m f s).guard = s.guard := rfl
@[simp] theorem appendUp_protection (m : UpMark) (f : Frame) : (appendUp m f s).protection = s.protection := rfl
@[simp] theorem appendUp_zones (m : UpMark) (f : Frame) : (appendUp m f s).zones = s.zones := rfl
@[simp] theorem appendUp_requests (m : UpMark) (f : Frame) : (appendUp m f s).requests = s.requests := rfl
@[simp] theorem appendUp_freeCount (m : UpMark) (f : Frame) : (appendUp m f s).freeCount = s.freeCount := rfl

/-! `setResult` writes the tables only. -/
@[simp] theorem setResult_pending (r : ValidationResult) : (setResult r s).pending = s.pending := rfl
@[simp] theorem setResult_key (r : ValidationResult) : (setResult r s).key = s.key := rfl
@[simp] theorem setResult_line (r : ValidationResult) : (setResult r s).line = s.line := rfl
@[simp] theorem setResult_drums (r : ValidationResult) : (setResult r s).drums = s.drums := rfl
@[simp] theorem setResult_trackers (r : ValidationResult) : (setResult r s).trackers = s.trackers := rfl
@[simp] theorem setResult_pipeline (r : ValidationResult) : (setResult r s).pipeline = s.pipeline := rfl
@[simp] theorem setResult_envelope (r : ValidationResult) : (setResult r s).envelope = s.envelope := rfl
@[simp] theorem setResult_guard (r : ValidationResult) : (setResult r s).guard = s.guard := rfl
@[simp] theorem setResult_protection (r : ValidationResult) : (setResult r s).protection = s.protection := rfl
@[simp] theorem setResult_zones (r : ValidationResult) : (setResult r s).zones = s.zones := rfl
@[simp] theorem setResult_requests (r : ValidationResult) : (setResult r s).requests = s.requests := rfl
@[simp] theorem setResult_freeCount (r : ValidationResult) : (setResult r s).freeCount = s.freeCount := rfl

/-! `closeCommitment` writes the tables only. -/
@[simp] theorem closeCommitment_pending : (closeCommitment s).pending = s.pending := rfl
@[simp] theorem closeCommitment_key : (closeCommitment s).key = s.key := rfl
@[simp] theorem closeCommitment_line : (closeCommitment s).line = s.line := rfl
@[simp] theorem closeCommitment_drums : (closeCommitment s).drums = s.drums := rfl
@[simp] theorem closeCommitment_trackers : (closeCommitment s).trackers = s.trackers := rfl
@[simp] theorem closeCommitment_pipeline : (closeCommitment s).pipeline = s.pipeline := rfl
@[simp] theorem closeCommitment_envelope : (closeCommitment s).envelope = s.envelope := rfl
@[simp] theorem closeCommitment_guard : (closeCommitment s).guard = s.guard := rfl
@[simp] theorem closeCommitment_protection : (closeCommitment s).protection = s.protection := rfl
@[simp] theorem closeCommitment_zones : (closeCommitment s).zones = s.zones := rfl
@[simp] theorem closeCommitment_requests : (closeCommitment s).requests = s.requests := rfl
@[simp] theorem closeCommitment_freeCount : (closeCommitment s).freeCount = s.freeCount := rfl

/-! `recomputeSpeed` writes the envelope only. -/
@[simp] theorem recomputeSpeed_pending : (recomputeSpeed s).pending = s.pending := rfl
@[simp] theorem recomputeSpeed_key : (recomputeSpeed s).key = s.key := rfl
@[simp] theorem recomputeSpeed_line : (recomputeSpeed s).line = s.line := rfl
@[simp] theorem recomputeSpeed_tables : (recomputeSpeed s).tables = s.tables := rfl
@[simp] theorem recomputeSpeed_drums : (recomputeSpeed s).drums = s.drums := rfl
@[simp] theorem recomputeSpeed_trackers : (recomputeSpeed s).trackers = s.trackers := rfl
@[simp] theorem recomputeSpeed_pipeline : (recomputeSpeed s).pipeline = s.pipeline := rfl
@[simp] theorem recomputeSpeed_guard : (recomputeSpeed s).guard = s.guard := rfl
@[simp] theorem recomputeSpeed_protection : (recomputeSpeed s).protection = s.protection := rfl
@[simp] theorem recomputeSpeed_zones : (recomputeSpeed s).zones = s.zones := rfl
@[simp] theorem recomputeSpeed_requests : (recomputeSpeed s).requests = s.requests := rfl
@[simp] theorem recomputeSpeed_freeCount : (recomputeSpeed s).freeCount = s.freeCount := rfl

/-! `setHolder` writes the zones only. -/
@[simp] theorem setHolder_pending (z : Nat) (h : Option Byte) : (setHolder z h s).pending = s.pending := rfl
@[simp] theorem setHolder_key (z : Nat) (h : Option Byte) : (setHolder z h s).key = s.key := rfl
@[simp] theorem setHolder_line (z : Nat) (h : Option Byte) : (setHolder z h s).line = s.line := rfl
@[simp] theorem setHolder_tables (z : Nat) (h : Option Byte) : (setHolder z h s).tables = s.tables := rfl
@[simp] theorem setHolder_drums (z : Nat) (h : Option Byte) : (setHolder z h s).drums = s.drums := rfl
@[simp] theorem setHolder_trackers (z : Nat) (h : Option Byte) : (setHolder z h s).trackers = s.trackers := rfl
@[simp] theorem setHolder_pipeline (z : Nat) (h : Option Byte) : (setHolder z h s).pipeline = s.pipeline := rfl
@[simp] theorem setHolder_envelope (z : Nat) (h : Option Byte) : (setHolder z h s).envelope = s.envelope := rfl
@[simp] theorem setHolder_guard (z : Nat) (h : Option Byte) : (setHolder z h s).guard = s.guard := rfl
@[simp] theorem setHolder_protection (z : Nat) (h : Option Byte) : (setHolder z h s).protection = s.protection := rfl
@[simp] theorem setHolder_requests (z : Nat) (h : Option Byte) : (setHolder z h s).requests = s.requests := rfl
@[simp] theorem setHolder_freeCount (z : Nat) (h : Option Byte) : (setHolder z h s).freeCount = s.freeCount := rfl

/-! `takeHandOn` writes the zones only. -/
@[simp] theorem takeHandOn_pending : (takeHandOn s).pending = s.pending := rfl
@[simp] theorem takeHandOn_key : (takeHandOn s).key = s.key := rfl
@[simp] theorem takeHandOn_line : (takeHandOn s).line = s.line := rfl
@[simp] theorem takeHandOn_tables : (takeHandOn s).tables = s.tables := rfl
@[simp] theorem takeHandOn_drums : (takeHandOn s).drums = s.drums := rfl
@[simp] theorem takeHandOn_trackers : (takeHandOn s).trackers = s.trackers := rfl
@[simp] theorem takeHandOn_pipeline : (takeHandOn s).pipeline = s.pipeline := rfl
@[simp] theorem takeHandOn_envelope : (takeHandOn s).envelope = s.envelope := rfl
@[simp] theorem takeHandOn_guard : (takeHandOn s).guard = s.guard := rfl
@[simp] theorem takeHandOn_protection : (takeHandOn s).protection = s.protection := rfl
@[simp] theorem takeHandOn_requests : (takeHandOn s).requests = s.requests := rfl
@[simp] theorem takeHandOn_freeCount : (takeHandOn s).freeCount = s.freeCount := rfl

/-! `setDownQueue` writes the guard only. -/
@[simp] theorem setDownQueue_pending (q : List DownFrame) : (setDownQueue q s).pending = s.pending := rfl
@[simp] theorem setDownQueue_key (q : List DownFrame) : (setDownQueue q s).key = s.key := rfl
@[simp] theorem setDownQueue_line (q : List DownFrame) : (setDownQueue q s).line = s.line := rfl
@[simp] theorem setDownQueue_tables (q : List DownFrame) : (setDownQueue q s).tables = s.tables := rfl
@[simp] theorem setDownQueue_drums (q : List DownFrame) : (setDownQueue q s).drums = s.drums := rfl
@[simp] theorem setDownQueue_trackers (q : List DownFrame) : (setDownQueue q s).trackers = s.trackers := rfl
@[simp] theorem setDownQueue_pipeline (q : List DownFrame) : (setDownQueue q s).pipeline = s.pipeline := rfl
@[simp] theorem setDownQueue_envelope (q : List DownFrame) : (setDownQueue q s).envelope = s.envelope := rfl
@[simp] theorem setDownQueue_protection (q : List DownFrame) : (setDownQueue q s).protection = s.protection := rfl
@[simp] theorem setDownQueue_zones (q : List DownFrame) : (setDownQueue q s).zones = s.zones := rfl
@[simp] theorem setDownQueue_requests (q : List DownFrame) : (setDownQueue q s).requests = s.requests := rfl
@[simp] theorem setDownQueue_freeCount (q : List DownFrame) : (setDownQueue q s).freeCount = s.freeCount := rfl

/-! `startWatch` writes the guard only. -/
@[simp] theorem startWatch_pending : (startWatch s).pending = s.pending := rfl
@[simp] theorem startWatch_key : (startWatch s).key = s.key := rfl
@[simp] theorem startWatch_line : (startWatch s).line = s.line := rfl
@[simp] theorem startWatch_tables : (startWatch s).tables = s.tables := rfl
@[simp] theorem startWatch_drums : (startWatch s).drums = s.drums := rfl
@[simp] theorem startWatch_trackers : (startWatch s).trackers = s.trackers := rfl
@[simp] theorem startWatch_pipeline : (startWatch s).pipeline = s.pipeline := rfl
@[simp] theorem startWatch_envelope : (startWatch s).envelope = s.envelope := rfl
@[simp] theorem startWatch_protection : (startWatch s).protection = s.protection := rfl
@[simp] theorem startWatch_zones : (startWatch s).zones = s.zones := rfl
@[simp] theorem startWatch_requests : (startWatch s).requests = s.requests := rfl
@[simp] theorem startWatch_freeCount : (startWatch s).freeCount = s.freeCount := rfl

/-! `stopWatch` writes the guard only. -/
@[simp] theorem stopWatch_pending : (stopWatch s).pending = s.pending := rfl
@[simp] theorem stopWatch_key : (stopWatch s).key = s.key := rfl
@[simp] theorem stopWatch_line : (stopWatch s).line = s.line := rfl
@[simp] theorem stopWatch_tables : (stopWatch s).tables = s.tables := rfl
@[simp] theorem stopWatch_drums : (stopWatch s).drums = s.drums := rfl
@[simp] theorem stopWatch_trackers : (stopWatch s).trackers = s.trackers := rfl
@[simp] theorem stopWatch_pipeline : (stopWatch s).pipeline = s.pipeline := rfl
@[simp] theorem stopWatch_envelope : (stopWatch s).envelope = s.envelope := rfl
@[simp] theorem stopWatch_protection : (stopWatch s).protection = s.protection := rfl
@[simp] theorem stopWatch_zones : (stopWatch s).zones = s.zones := rfl
@[simp] theorem stopWatch_requests : (stopWatch s).requests = s.requests := rfl
@[simp] theorem stopWatch_freeCount : (stopWatch s).freeCount = s.freeCount := rfl

/-! `endStop` writes the guard only. -/
@[simp] theorem endStop_pending : (endStop s).pending = s.pending := rfl
@[simp] theorem endStop_key : (endStop s).key = s.key := rfl
@[simp] theorem endStop_line : (endStop s).line = s.line := rfl
@[simp] theorem endStop_tables : (endStop s).tables = s.tables := rfl
@[simp] theorem endStop_drums : (endStop s).drums = s.drums := rfl
@[simp] theorem endStop_trackers : (endStop s).trackers = s.trackers := rfl
@[simp] theorem endStop_pipeline : (endStop s).pipeline = s.pipeline := rfl
@[simp] theorem endStop_envelope : (endStop s).envelope = s.envelope := rfl
@[simp] theorem endStop_protection : (endStop s).protection = s.protection := rfl
@[simp] theorem endStop_zones : (endStop s).zones = s.zones := rfl
@[simp] theorem endStop_requests : (endStop s).requests = s.requests := rfl
@[simp] theorem endStop_freeCount : (endStop s).freeCount = s.freeCount := rfl

/-! `setActive` writes the pipeline only. -/
@[simp] theorem setActive_pending (t : Option Trip) : (setActive t s).pending = s.pending := rfl
@[simp] theorem setActive_key (t : Option Trip) : (setActive t s).key = s.key := rfl
@[simp] theorem setActive_line (t : Option Trip) : (setActive t s).line = s.line := rfl
@[simp] theorem setActive_tables (t : Option Trip) : (setActive t s).tables = s.tables := rfl
@[simp] theorem setActive_drums (t : Option Trip) : (setActive t s).drums = s.drums := rfl
@[simp] theorem setActive_trackers (t : Option Trip) : (setActive t s).trackers = s.trackers := rfl
@[simp] theorem setActive_envelope (t : Option Trip) : (setActive t s).envelope = s.envelope := rfl
@[simp] theorem setActive_guard (t : Option Trip) : (setActive t s).guard = s.guard := rfl
@[simp] theorem setActive_protection (t : Option Trip) : (setActive t s).protection = s.protection := rfl
@[simp] theorem setActive_zones (t : Option Trip) : (setActive t s).zones = s.zones := rfl
@[simp] theorem setActive_requests (t : Option Trip) : (setActive t s).requests = s.requests := rfl
@[simp] theorem setActive_freeCount (t : Option Trip) : (setActive t s).freeCount = s.freeCount := rfl

/-! `setWaiting` writes the pipeline only. -/
@[simp] theorem setWaiting_pending (t : Option Trip) : (setWaiting t s).pending = s.pending := rfl
@[simp] theorem setWaiting_key (t : Option Trip) : (setWaiting t s).key = s.key := rfl
@[simp] theorem setWaiting_line (t : Option Trip) : (setWaiting t s).line = s.line := rfl
@[simp] theorem setWaiting_tables (t : Option Trip) : (setWaiting t s).tables = s.tables := rfl
@[simp] theorem setWaiting_drums (t : Option Trip) : (setWaiting t s).drums = s.drums := rfl
@[simp] theorem setWaiting_trackers (t : Option Trip) : (setWaiting t s).trackers = s.trackers := rfl
@[simp] theorem setWaiting_envelope (t : Option Trip) : (setWaiting t s).envelope = s.envelope := rfl
@[simp] theorem setWaiting_guard (t : Option Trip) : (setWaiting t s).guard = s.guard := rfl
@[simp] theorem setWaiting_protection (t : Option Trip) : (setWaiting t s).protection = s.protection := rfl
@[simp] theorem setWaiting_zones (t : Option Trip) : (setWaiting t s).zones = s.zones := rfl
@[simp] theorem setWaiting_requests (t : Option Trip) : (setWaiting t s).requests = s.requests := rfl
@[simp] theorem setWaiting_freeCount (t : Option Trip) : (setWaiting t s).freeCount = s.freeCount := rfl

/-! `clearDrift` writes the drums only. -/
@[simp] theorem clearDrift_pending : (clearDrift s).pending = s.pending := rfl
@[simp] theorem clearDrift_key : (clearDrift s).key = s.key := rfl
@[simp] theorem clearDrift_line : (clearDrift s).line = s.line := rfl
@[simp] theorem clearDrift_tables : (clearDrift s).tables = s.tables := rfl
@[simp] theorem clearDrift_trackers : (clearDrift s).trackers = s.trackers := rfl
@[simp] theorem clearDrift_pipeline : (clearDrift s).pipeline = s.pipeline := rfl
@[simp] theorem clearDrift_envelope : (clearDrift s).envelope = s.envelope := rfl
@[simp] theorem clearDrift_guard : (clearDrift s).guard = s.guard := rfl
@[simp] theorem clearDrift_protection : (clearDrift s).protection = s.protection := rfl
@[simp] theorem clearDrift_zones : (clearDrift s).zones = s.zones := rfl
@[simp] theorem clearDrift_requests : (clearDrift s).requests = s.requests := rfl
@[simp] theorem clearDrift_freeCount : (clearDrift s).freeCount = s.freeCount := rfl

/-! `beginEcho` writes the protection only. -/
@[simp] theorem beginEcho_pending : (beginEcho s).pending = s.pending := rfl
@[simp] theorem beginEcho_key : (beginEcho s).key = s.key := rfl
@[simp] theorem beginEcho_line : (beginEcho s).line = s.line := rfl
@[simp] theorem beginEcho_tables : (beginEcho s).tables = s.tables := rfl
@[simp] theorem beginEcho_drums : (beginEcho s).drums = s.drums := rfl
@[simp] theorem beginEcho_trackers : (beginEcho s).trackers = s.trackers := rfl
@[simp] theorem beginEcho_pipeline : (beginEcho s).pipeline = s.pipeline := rfl
@[simp] theorem beginEcho_envelope : (beginEcho s).envelope = s.envelope := rfl
@[simp] theorem beginEcho_guard : (beginEcho s).guard = s.guard := rfl
@[simp] theorem beginEcho_zones : (beginEcho s).zones = s.zones := rfl
@[simp] theorem beginEcho_requests : (beginEcho s).requests = s.requests := rfl
@[simp] theorem beginEcho_freeCount : (beginEcho s).freeCount = s.freeCount := rfl

/-! `addCause` writes the protection only. -/
@[simp] theorem addCause_pending (c : Cause) : (addCause c s).pending = s.pending := rfl
@[simp] theorem addCause_key (c : Cause) : (addCause c s).key = s.key := rfl
@[simp] theorem addCause_line (c : Cause) : (addCause c s).line = s.line := rfl
@[simp] theorem addCause_tables (c : Cause) : (addCause c s).tables = s.tables := rfl
@[simp] theorem addCause_drums (c : Cause) : (addCause c s).drums = s.drums := rfl
@[simp] theorem addCause_trackers (c : Cause) : (addCause c s).trackers = s.trackers := rfl
@[simp] theorem addCause_pipeline (c : Cause) : (addCause c s).pipeline = s.pipeline := rfl
@[simp] theorem addCause_envelope (c : Cause) : (addCause c s).envelope = s.envelope := rfl
@[simp] theorem addCause_guard (c : Cause) : (addCause c s).guard = s.guard := rfl
@[simp] theorem addCause_zones (c : Cause) : (addCause c s).zones = s.zones := rfl
@[simp] theorem addCause_requests (c : Cause) : (addCause c s).requests = s.requests := rfl
@[simp] theorem addCause_freeCount (c : Cause) : (addCause c s).freeCount = s.freeCount := rfl

/-! `setRecord` writes the tables only. -/
@[simp] theorem setRecord_pending (i : Nat) (r : MarkerRecord) : (setRecord i r s).pending = s.pending := rfl
@[simp] theorem setRecord_key (i : Nat) (r : MarkerRecord) : (setRecord i r s).key = s.key := rfl
@[simp] theorem setRecord_line (i : Nat) (r : MarkerRecord) : (setRecord i r s).line = s.line := rfl
@[simp] theorem setRecord_drums (i : Nat) (r : MarkerRecord) : (setRecord i r s).drums = s.drums := rfl
@[simp] theorem setRecord_trackers (i : Nat) (r : MarkerRecord) : (setRecord i r s).trackers = s.trackers := rfl
@[simp] theorem setRecord_pipeline (i : Nat) (r : MarkerRecord) : (setRecord i r s).pipeline = s.pipeline := rfl
@[simp] theorem setRecord_envelope (i : Nat) (r : MarkerRecord) : (setRecord i r s).envelope = s.envelope := rfl
@[simp] theorem setRecord_guard (i : Nat) (r : MarkerRecord) : (setRecord i r s).guard = s.guard := rfl
@[simp] theorem setRecord_protection (i : Nat) (r : MarkerRecord) : (setRecord i r s).protection = s.protection := rfl
@[simp] theorem setRecord_zones (i : Nat) (r : MarkerRecord) : (setRecord i r s).zones = s.zones := rfl
@[simp] theorem setRecord_requests (i : Nat) (r : MarkerRecord) : (setRecord i r s).requests = s.requests := rfl
@[simp] theorem setRecord_freeCount (i : Nat) (r : MarkerRecord) : (setRecord i r s).freeCount = s.freeCount := rfl

/-! `setExpected` writes the trackers only. -/
@[simp] theorem setExpected_pending (c : Conveyance) (e : Option Nat) : (setExpected c e s).pending = s.pending := rfl
@[simp] theorem setExpected_key (c : Conveyance) (e : Option Nat) : (setExpected c e s).key = s.key := rfl
@[simp] theorem setExpected_line (c : Conveyance) (e : Option Nat) : (setExpected c e s).line = s.line := rfl
@[simp] theorem setExpected_tables (c : Conveyance) (e : Option Nat) : (setExpected c e s).tables = s.tables := rfl
@[simp] theorem setExpected_drums (c : Conveyance) (e : Option Nat) : (setExpected c e s).drums = s.drums := rfl
@[simp] theorem setExpected_pipeline (c : Conveyance) (e : Option Nat) : (setExpected c e s).pipeline = s.pipeline := rfl
@[simp] theorem setExpected_envelope (c : Conveyance) (e : Option Nat) : (setExpected c e s).envelope = s.envelope := rfl
@[simp] theorem setExpected_guard (c : Conveyance) (e : Option Nat) : (setExpected c e s).guard = s.guard := rfl
@[simp] theorem setExpected_protection (c : Conveyance) (e : Option Nat) : (setExpected c e s).protection = s.protection := rfl
@[simp] theorem setExpected_zones (c : Conveyance) (e : Option Nat) : (setExpected c e s).zones = s.zones := rfl
@[simp] theorem setExpected_requests (c : Conveyance) (e : Option Nat) : (setExpected c e s).requests = s.requests := rfl
@[simp] theorem setExpected_freeCount (c : Conveyance) (e : Option Nat) : (setExpected c e s).freeCount = s.freeCount := rfl

/-! `setLastMarker` writes the trackers only. -/
@[simp] theorem setLastMarker_pending (c : Conveyance) (id : Nat) : (setLastMarker c id s).pending = s.pending := rfl
@[simp] theorem setLastMarker_key (c : Conveyance) (id : Nat) : (setLastMarker c id s).key = s.key := rfl
@[simp] theorem setLastMarker_line (c : Conveyance) (id : Nat) : (setLastMarker c id s).line = s.line := rfl
@[simp] theorem setLastMarker_tables (c : Conveyance) (id : Nat) : (setLastMarker c id s).tables = s.tables := rfl
@[simp] theorem setLastMarker_drums (c : Conveyance) (id : Nat) : (setLastMarker c id s).drums = s.drums := rfl
@[simp] theorem setLastMarker_pipeline (c : Conveyance) (id : Nat) : (setLastMarker c id s).pipeline = s.pipeline := rfl
@[simp] theorem setLastMarker_envelope (c : Conveyance) (id : Nat) : (setLastMarker c id s).envelope = s.envelope := rfl
@[simp] theorem setLastMarker_guard (c : Conveyance) (id : Nat) : (setLastMarker c id s).guard = s.guard := rfl
@[simp] theorem setLastMarker_protection (c : Conveyance) (id : Nat) : (setLastMarker c id s).protection = s.protection := rfl
@[simp] theorem setLastMarker_zones (c : Conveyance) (id : Nat) : (setLastMarker c id s).zones = s.zones := rfl
@[simp] theorem setLastMarker_requests (c : Conveyance) (id : Nat) : (setLastMarker c id s).requests = s.requests := rfl
@[simp] theorem setLastMarker_freeCount (c : Conveyance) (id : Nat) : (setLastMarker c id s).freeCount = s.freeCount := rfl

/-! `recomputeTracker` writes the trackers only. -/
@[simp] theorem recomputeTracker_pending (c : Conveyance) : (recomputeTracker c s).pending = s.pending := rfl
@[simp] theorem recomputeTracker_key (c : Conveyance) : (recomputeTracker c s).key = s.key := rfl
@[simp] theorem recomputeTracker_line (c : Conveyance) : (recomputeTracker c s).line = s.line := rfl
@[simp] theorem recomputeTracker_tables (c : Conveyance) : (recomputeTracker c s).tables = s.tables := rfl
@[simp] theorem recomputeTracker_drums (c : Conveyance) : (recomputeTracker c s).drums = s.drums := rfl
@[simp] theorem recomputeTracker_pipeline (c : Conveyance) : (recomputeTracker c s).pipeline = s.pipeline := rfl
@[simp] theorem recomputeTracker_envelope (c : Conveyance) : (recomputeTracker c s).envelope = s.envelope := rfl
@[simp] theorem recomputeTracker_guard (c : Conveyance) : (recomputeTracker c s).guard = s.guard := rfl
@[simp] theorem recomputeTracker_protection (c : Conveyance) : (recomputeTracker c s).protection = s.protection := rfl
@[simp] theorem recomputeTracker_zones (c : Conveyance) : (recomputeTracker c s).zones = s.zones := rfl
@[simp] theorem recomputeTracker_requests (c : Conveyance) : (recomputeTracker c s).requests = s.requests := rfl
@[simp] theorem recomputeTracker_freeCount (c : Conveyance) : (recomputeTracker c s).freeCount = s.freeCount := rfl

/-! `undatumAll` writes the trackers only. -/
@[simp] theorem undatumAll_pending : (undatumAll s).pending = s.pending := rfl
@[simp] theorem undatumAll_key : (undatumAll s).key = s.key := rfl
@[simp] theorem undatumAll_line : (undatumAll s).line = s.line := rfl
@[simp] theorem undatumAll_tables : (undatumAll s).tables = s.tables := rfl
@[simp] theorem undatumAll_drums : (undatumAll s).drums = s.drums := rfl
@[simp] theorem undatumAll_pipeline : (undatumAll s).pipeline = s.pipeline := rfl
@[simp] theorem undatumAll_envelope : (undatumAll s).envelope = s.envelope := rfl
@[simp] theorem undatumAll_guard : (undatumAll s).guard = s.guard := rfl
@[simp] theorem undatumAll_protection : (undatumAll s).protection = s.protection := rfl
@[simp] theorem undatumAll_zones : (undatumAll s).zones = s.zones := rfl
@[simp] theorem undatumAll_requests : (undatumAll s).requests = s.requests := rfl
@[simp] theorem undatumAll_freeCount : (undatumAll s).freeCount = s.freeCount := rfl

/-! `clearFlags` writes the requests only. -/
@[simp] theorem clearFlags_pending : (clearFlags s).pending = s.pending := rfl
@[simp] theorem clearFlags_key : (clearFlags s).key = s.key := rfl
@[simp] theorem clearFlags_line : (clearFlags s).line = s.line := rfl
@[simp] theorem clearFlags_tables : (clearFlags s).tables = s.tables := rfl
@[simp] theorem clearFlags_drums : (clearFlags s).drums = s.drums := rfl
@[simp] theorem clearFlags_trackers : (clearFlags s).trackers = s.trackers := rfl
@[simp] theorem clearFlags_pipeline : (clearFlags s).pipeline = s.pipeline := rfl
@[simp] theorem clearFlags_envelope : (clearFlags s).envelope = s.envelope := rfl
@[simp] theorem clearFlags_guard : (clearFlags s).guard = s.guard := rfl
@[simp] theorem clearFlags_protection : (clearFlags s).protection = s.protection := rfl
@[simp] theorem clearFlags_zones : (clearFlags s).zones = s.zones := rfl
@[simp] theorem clearFlags_freeCount : (clearFlags s).freeCount = s.freeCount := rfl

/-! `clearCounters` writes the requests only. -/
@[simp] theorem clearCounters_pending : (clearCounters s).pending = s.pending := rfl
@[simp] theorem clearCounters_key : (clearCounters s).key = s.key := rfl
@[simp] theorem clearCounters_line : (clearCounters s).line = s.line := rfl
@[simp] theorem clearCounters_tables : (clearCounters s).tables = s.tables := rfl
@[simp] theorem clearCounters_drums : (clearCounters s).drums = s.drums := rfl
@[simp] theorem clearCounters_trackers : (clearCounters s).trackers = s.trackers := rfl
@[simp] theorem clearCounters_pipeline : (clearCounters s).pipeline = s.pipeline := rfl
@[simp] theorem clearCounters_envelope : (clearCounters s).envelope = s.envelope := rfl
@[simp] theorem clearCounters_guard : (clearCounters s).guard = s.guard := rfl
@[simp] theorem clearCounters_protection : (clearCounters s).protection = s.protection := rfl
@[simp] theorem clearCounters_zones : (clearCounters s).zones = s.zones := rfl
@[simp] theorem clearCounters_freeCount : (clearCounters s).freeCount = s.freeCount := rfl
/-! ### What a write reads as -/

variable {s}

@[simp] theorem PerConveyance.get_set_same {α : Type} (p : PerConveyance α) (c : Conveyance) (a : α) :
    (p.set c a).get c = a := by cases c <;> rfl

theorem PerConveyance.get_set_other {α : Type} (p : PerConveyance α) {c d : Conveyance} (a : α) (h : d ≠ c) :
    (p.set c a).get d = p.get d := by cases c <;> cases d <;> first | rfl | exact absurd rfl h

@[simp] theorem PerConveyance.get_of {α : Type} (f : Conveyance → α) (c : Conveyance) :
    (PerConveyance.of f).get c = f c := by cases c <;> rfl

@[simp] theorem bank_setBank_same (t : TableId) (b : Bank) (s : State) : bank t (setBank t b s) = b := by
  cases t <;> rfl

theorem bank_setBank_other {t u : TableId} (b : Bank) (s : State) (h : u ≠ t) :
    bank u (setBank t b s) = bank u s := by
  cases t <;> cases u <;> first | rfl | exact absurd rfl h

@[simp] theorem channel_setChannel_same (d : Drum) (ch : Channel) (s : State) : channel d (setChannel d ch s) = ch := by
  cases d <;> rfl

theorem channel_setChannel_other {d e : Drum} (ch : Channel) (s : State) (h : e ≠ d) :
    channel e (setChannel d ch s) = channel e s := by
  cases d <;> cases e <;> first | rfl | exact absurd rfl h

@[simp] theorem setChannel_setChannel (d : Drum) (a b : Channel) (s : State) :
    setChannel d a (setChannel d b s) = setChannel d a s := by cases d <;> rfl

@[simp] theorem setChannel_channel (d : Drum) (s : State) : setChannel d (channel d s) s = s := by cases d <;> rfl

@[simp] theorem setChannel_accumulators (d : Drum) (ch : Channel) (s : State) :
    (setChannel d ch s).drums.disagree = s.drums.disagree ∧ (setChannel d ch s).drums.hold = s.drums.hold
      ∧ (setChannel d ch s).drums.drift = s.drums.drift := by cases d <;> exact ⟨rfl, rfl, rfl⟩

@[simp] theorem tracker_setTracker_same (c : Conveyance) (t : Tracker) (s : State) :
    tracker c (setTracker c t s) = t := by cases c <;> rfl

theorem tracker_setTracker_other {c d : Conveyance} (t : Tracker) (s : State) (h : d ≠ c) :
    tracker d (setTracker c t s) = tracker d s := PerConveyance.get_set_other _ _ h

@[simp] theorem setTracker_setTracker (c : Conveyance) (a b : Tracker) (s : State) :
    setTracker c a (setTracker c b s) = setTracker c a s := by cases c <;> rfl

@[simp] theorem setTracker_tracker (c : Conveyance) (s : State) : setTracker c (tracker c s) s = s := by cases c <;> rfl

@[simp] theorem receiver_setReceiver_same (l : Link) (r : Receiver) (s : State) :
    receiver l (setReceiver l r s) = r := by cases l <;> rfl

@[simp] theorem setReceiver_setReceiver (l : Link) (a b : Receiver) (s : State) :
    setReceiver l a (setReceiver l b s) = setReceiver l a s := by cases l <;> rfl

@[simp] theorem setReceiver_receiver (l : Link) (s : State) : setReceiver l (receiver l s) s = s := by cases l <;> rfl

@[simp] theorem setReceiver_queue (l : Link) (r : Receiver) (s : State) :
    (setReceiver l r s).line.queue = s.line.queue ∧ (setReceiver l r s).line.transmitter = s.line.transmitter := by
  cases l <;> exact ⟨rfl, rfl⟩

@[simp] theorem setDownQueue_guard (q : List DownFrame) (s : State) :
    (setDownQueue q s).guard = { s.guard with queue := q } := rfl

@[simp] theorem setActive_pipeline (t : Option Trip) (s : State) :
    (setActive t s).pipeline = { s.pipeline with active := t } := rfl

@[simp] theorem setWaiting_pipeline (t : Option Trip) (s : State) :
    (setWaiting t s).pipeline = { s.pipeline with waiting := t } := rfl

@[simp] theorem stopWatch_guard (s : State) : (stopWatch s).guard = { s.guard with watch := none } := rfl

@[simp] theorem endStop_guard (s : State) : (endStop s).guard = { s.guard with stop := none } := rfl

@[simp] theorem clearDrift_drums (s : State) : (clearDrift s).drums = { s.drums with drift := 0 } := rfl

@[simp] theorem recomputeSpeed_envelope (s : State) : (recomputeSpeed s).envelope = computeEnvelope s := rfl

@[simp] theorem markFlag_flags (f : Flag) (s : State) :
    (markFlag f s).requests.flags = s.requests.flags ||| BitVec.twoPow 12 f.index := rfl

@[simp] theorem markFlag_counters (f : Flag) (s : State) : (markFlag f s).requests.counters = s.requests.counters := rfl

@[simp] theorem count_flags (c : Counter) (s : State) : (count c s).requests.flags = s.requests.flags := by
  cases c <;> rfl

@[simp] theorem appendUp_queue (m : UpMark) (f : Frame) (s : State) :
    (appendUp m f s).line.queue = s.line.queue ++ [{ frame := f, mark := m }] := rfl

@[simp] theorem appendUp_others (m : UpMark) (f : Frame) (s : State) :
    (appendUp m f s).line.cReceiver = s.line.cReceiver ∧ (appendUp m f s).line.dReceiver = s.line.dReceiver
      ∧ (appendUp m f s).line.transmitter = s.line.transmitter := ⟨rfl, rfl, rfl⟩

/-! ### Views that follow from equal parts -/

theorem channel_congr {s t : State} (d : Drum) (h : t.drums = s.drums) : channel d t = channel d s := by
  cases d <;> simp [channel, h]

theorem tracker_congr {s t : State} (c : Conveyance) (h : t.trackers = s.trackers) : tracker c t = tracker c s := by
  simp [tracker, h]

theorem bank_congr {s t : State} (b : TableId) (h : t.tables = s.tables) : bank b t = bank b s := by
  cases b <;> simp [bank, h]

theorem receiver_congr {s t : State} (l : Link) (h : t.line = s.line) : receiver l t = receiver l s := by
  cases l <;> simp [receiver, h]

/-! ### The counters, one lemma for each -/

theorem saturate_le (n : Nat) : saturate n ≤ 65535 := Nat.min_le_right _ _

theorem count_keeps_bound (c : Counter) (s : State) (h : ∀ n ∈ s.requests.counters.values, n ≤ 65535) :
    ∀ n ∈ (count c s).requests.counters.values, n ≤ 65535 := by
  cases c <;> simp [count, Counters.values, saturate_le] at h ⊢ <;> simp_all

end Sys2Proof.Machine
end

