-- ==== Sys2Proof/Laws/Flags.lean ====
section
/-! SUPPORT. Flags.lean: what raising a flag and offering a frame upstream can do: they write the upstream queue, the flags and
the dropped-up counter, and nothing else (R169, R184, R185, R190). -/

namespace Sys2Proof.Machine

variable (s : State)

/-! `raiseDrop`: the parts it leaves alone. -/
@[simp] theorem raiseDrop_pending : (raiseDrop s).pending = s.pending := by
  unfold raiseDrop; dsimp only; split <;> [rfl; (split <;> simp)]
@[simp] theorem raiseDrop_key : (raiseDrop s).key = s.key := by
  unfold raiseDrop; dsimp only; split <;> [rfl; (split <;> simp)]
@[simp] theorem raiseDrop_tables : (raiseDrop s).tables = s.tables := by
  unfold raiseDrop; dsimp only; split <;> [rfl; (split <;> simp)]
@[simp] theorem raiseDrop_drums : (raiseDrop s).drums = s.drums := by
  unfold raiseDrop; dsimp only; split <;> [rfl; (split <;> simp)]
@[simp] theorem raiseDrop_trackers : (raiseDrop s).trackers = s.trackers := by
  unfold raiseDrop; dsimp only; split <;> [rfl; (split <;> simp)]
@[simp] theorem raiseDrop_pipeline : (raiseDrop s).pipeline = s.pipeline := by
  unfold raiseDrop; dsimp only; split <;> [rfl; (split <;> simp)]
@[simp] theorem raiseDrop_envelope : (raiseDrop s).envelope = s.envelope := by
  unfold raiseDrop; dsimp only; split <;> [rfl; (split <;> simp)]
@[simp] theorem raiseDrop_guard : (raiseDrop s).guard = s.guard := by
  unfold raiseDrop; dsimp only; split <;> [rfl; (split <;> simp)]
@[simp] theorem raiseDrop_protection : (raiseDrop s).protection = s.protection := by
  unfold raiseDrop; dsimp only; split <;> [rfl; (split <;> simp)]
@[simp] theorem raiseDrop_zones : (raiseDrop s).zones = s.zones := by
  unfold raiseDrop; dsimp only; split <;> [rfl; (split <;> simp)]
@[simp] theorem raiseDrop_freeCount : (raiseDrop s).freeCount = s.freeCount := by
  unfold raiseDrop; dsimp only; split <;> [rfl; (split <;> simp)]

/-! `offerUp`: the parts it leaves alone. -/
@[simp] theorem offerUp_pending (m : UpMark) (f : Frame) : (offerUp m f s).pending = s.pending := by
  unfold offerUp; split <;> simp
@[simp] theorem offerUp_key (m : UpMark) (f : Frame) : (offerUp m f s).key = s.key := by
  unfold offerUp; split <;> simp
@[simp] theorem offerUp_tables (m : UpMark) (f : Frame) : (offerUp m f s).tables = s.tables := by
  unfold offerUp; split <;> simp
@[simp] theorem offerUp_drums (m : UpMark) (f : Frame) : (offerUp m f s).drums = s.drums := by
  unfold offerUp; split <;> simp
@[simp] theorem offerUp_trackers (m : UpMark) (f : Frame) : (offerUp m f s).trackers = s.trackers := by
  unfold offerUp; split <;> simp
@[simp] theorem offerUp_pipeline (m : UpMark) (f : Frame) : (offerUp m f s).pipeline = s.pipeline := by
  unfold offerUp; split <;> simp
@[simp] theorem offerUp_envelope (m : UpMark) (f : Frame) : (offerUp m f s).envelope = s.envelope := by
  unfold offerUp; split <;> simp
@[simp] theorem offerUp_guard (m : UpMark) (f : Frame) : (offerUp m f s).guard = s.guard := by
  unfold offerUp; split <;> simp
@[simp] theorem offerUp_protection (m : UpMark) (f : Frame) : (offerUp m f s).protection = s.protection := by
  unfold offerUp; split <;> simp
@[simp] theorem offerUp_zones (m : UpMark) (f : Frame) : (offerUp m f s).zones = s.zones := by
  unfold offerUp; split <;> simp
@[simp] theorem offerUp_freeCount (m : UpMark) (f : Frame) : (offerUp m f s).freeCount = s.freeCount := by
  unfold offerUp; split <;> simp

/-! `setFlag`: the parts it leaves alone. -/
@[simp] theorem setFlag_pending (f : Flag) : (setFlag f s).pending = s.pending := by
  unfold setFlag; dsimp only; split <;> simp
@[simp] theorem setFlag_key (f : Flag) : (setFlag f s).key = s.key := by
  unfold setFlag; dsimp only; split <;> simp
@[simp] theorem setFlag_tables (f : Flag) : (setFlag f s).tables = s.tables := by
  unfold setFlag; dsimp only; split <;> simp
@[simp] theorem setFlag_drums (f : Flag) : (setFlag f s).drums = s.drums := by
  unfold setFlag; dsimp only; split <;> simp
@[simp] theorem setFlag_trackers (f : Flag) : (setFlag f s).trackers = s.trackers := by
  unfold setFlag; dsimp only; split <;> simp
@[simp] theorem setFlag_pipeline (f : Flag) : (setFlag f s).pipeline = s.pipeline := by
  unfold setFlag; dsimp only; split <;> simp
@[simp] theorem setFlag_envelope (f : Flag) : (setFlag f s).envelope = s.envelope := by
  unfold setFlag; dsimp only; split <;> simp
@[simp] theorem setFlag_guard (f : Flag) : (setFlag f s).guard = s.guard := by
  unfold setFlag; dsimp only; split <;> simp
@[simp] theorem setFlag_protection (f : Flag) : (setFlag f s).protection = s.protection := by
  unfold setFlag; dsimp only; split <;> simp
@[simp] theorem setFlag_zones (f : Flag) : (setFlag f s).zones = s.zones := by
  unfold setFlag; dsimp only; split <;> simp
@[simp] theorem setFlag_freeCount (f : Flag) : (setFlag f s).freeCount = s.freeCount := by
  unfold setFlag; dsimp only; split <;> simp
variable {s}

/-! ### The other parts of the line unit -/

theorem raiseDrop_others (s : State) :
    (raiseDrop s).line.cReceiver = s.line.cReceiver ∧ (raiseDrop s).line.dReceiver = s.line.dReceiver
      ∧ (raiseDrop s).line.transmitter = s.line.transmitter := by
  unfold raiseDrop; dsimp only; split
  · simp
  · split <;> simp

theorem offerUp_others (m : UpMark) (f : Frame) (s : State) :
    (offerUp m f s).line.cReceiver = s.line.cReceiver ∧ (offerUp m f s).line.dReceiver = s.line.dReceiver
      ∧ (offerUp m f s).line.transmitter = s.line.transmitter := by
  unfold offerUp; split
  · simp
  · simpa using raiseDrop_others (count .droppedUp s)

theorem setFlag_others (f : Flag) (s : State) :
    (setFlag f s).line.cReceiver = s.line.cReceiver ∧ (setFlag f s).line.dReceiver = s.line.dReceiver
      ∧ (setFlag f s).line.transmitter = s.line.transmitter := by
  unfold setFlag; dsimp only; split
  · simp
  · simpa using offerUp_others .part (attentionNotice f (markFlag f s)) (markFlag f s)

/-! ### Flags are only ever added -/

theorem flag_index_lt (f : Flag) : f.index < 12 := by cases f <;> decide

theorem flag_index_injective {f g : Flag} (h : f.index = g.index) : f = g := by
  cases f <;> cases g <;> first | rfl | exact absurd h (by decide)

theorem flagSet_markFlag (f g : Flag) (s : State) : flagSet g (markFlag f s) = (flagSet g s || decide (g = f)) := by
  cases f <;> cases g <;> simp [flagSet, Flag.index]

@[simp] theorem flagSet_count (c : Counter) (g : Flag) (s : State) : flagSet g (count c s) = flagSet g s := by
  simp [flagSet]

@[simp] theorem flagSet_appendUp (m : UpMark) (f : Frame) (g : Flag) (s : State) :
    flagSet g (appendUp m f s) = flagSet g s := by simp [flagSet]

theorem flagSet_raiseDrop (g : Flag) (s : State) : flagSet g (raiseDrop s) = (flagSet g s || decide (g = .drop)) := by
  unfold raiseDrop; dsimp only; split
  · next h => by_cases hg : g = .drop <;> simp_all
  · split <;> simp [flagSet_markFlag]

/-- Offering a frame adds DROP at most, and only when the frame is dropped (R169). -/
theorem flagSet_offerUp (m : UpMark) (f : Frame) (g : Flag) (s : State) :
    flagSet g (offerUp m f s) = (flagSet g s || (decide (g = .drop) && !upRoom m s)) := by
  unfold offerUp; split
  · next h => simp [h]
  · next h => simp [h, flagSet_raiseDrop]

/-- A flag set stands set. -/
@[simp] theorem flagSet_setFlag (f : Flag) (s : State) : flagSet f (setFlag f s) = true := by
  unfold setFlag; dsimp only; split
  · assumption
  · simp [flagSet_offerUp, flagSet_markFlag]

/-- Setting a flag clears none. -/
theorem flagSet_setFlag_of_set (f g : Flag) (s : State) (h : flagSet g s = true) : flagSet g (setFlag f s) = true := by
  unfold setFlag; dsimp only; split
  · exact h
  · simp [flagSet_offerUp, flagSet_markFlag, h]

/-- A flag that stands set is set again without effect: no notice (R185). -/
theorem setFlag_of_set {f : Flag} {s : State} (h : flagSet f s = true) : setFlag f s = s := by
  simp [setFlag, h]

/-! ### The counters: only dropped-up -/

theorem raiseDrop_counters (s : State) :
    (raiseDrop s).requests.counters = s.requests.counters
      ∨ (raiseDrop s).requests.counters = (count .droppedUp s).requests.counters := by
  unfold raiseDrop; dsimp only; split
  · exact .inl rfl
  · split
    · exact .inl (by simp)
    · exact .inr (by simp [count])

/-- Two counter sets agree but for the dropped-up counter. -/
def SameButDroppedUp (a b : Counters) : Prop := a = { b with droppedUp := a.droppedUp }

theorem SameButDroppedUp.refl (a : Counters) : SameButDroppedUp a a := rfl

theorem SameButDroppedUp.trans {a b c : Counters} (h : SameButDroppedUp a b) (k : SameButDroppedUp b c) :
    SameButDroppedUp a c := by
  unfold SameButDroppedUp at *; rw [h, k]

theorem count_droppedUp_same (s : State) :
    SameButDroppedUp (count .droppedUp s).requests.counters s.requests.counters := rfl

theorem raiseDrop_sameCounters (s : State) : SameButDroppedUp (raiseDrop s).requests.counters s.requests.counters := by
  rcases raiseDrop_counters s with h | h <;> rw [h]
  · exact .refl _
  · exact count_droppedUp_same s

theorem offerUp_sameCounters (m : UpMark) (f : Frame) (s : State) :
    SameButDroppedUp (offerUp m f s).requests.counters s.requests.counters := by
  unfold offerUp; split
  · exact .refl _
  · exact (raiseDrop_sameCounters _).trans (count_droppedUp_same s)

theorem setFlag_sameCounters (f : Flag) (s : State) :
    SameButDroppedUp (setFlag f s).requests.counters s.requests.counters := by
  unfold setFlag; dsimp only; split
  · exact .refl _
  · exact offerUp_sameCounters _ _ _

/-! ### Room (R169) -/

theorem upRoom_field (s : State) : upRoom .field s = true ↔ s.line.queue.length < 12 := decide_eq_true_iff

theorem upRoom_part (s : State) : upRoom .part s = true ↔ s.line.queue.length < 16 := decide_eq_true_iff

/-! ### The bounds of the counters and of the upstream queue (R162, R169, R186) -/

/-- The counters within 0 to 65,535 and the upstream queue within its places. -/
def UpBounded (s : State) : Prop :=
  (∀ n ∈ s.requests.counters.values, n ≤ 65535) ∧ s.line.queue.length ≤ 16
    ∧ (s.line.queue.filter fun f => decide (f.mark = .field)).length ≤ 12

theorem UpBounded.count {s : State} (c : Counter) (h : UpBounded s) : UpBounded (count c s) :=
  ⟨count_keeps_bound c s h.1, by simpa using h.2⟩

theorem UpBounded.markFlag {s : State} (f : Flag) (h : UpBounded s) : UpBounded (markFlag f s) := h

theorem UpBounded.appendUp {s : State} {m : UpMark} (f : Frame) (h : UpBounded s) (room : upRoom m s = true) :
    UpBounded (appendUp m f s) := by
  obtain ⟨hc, hq, hf⟩ := h
  have hle := List.length_filter_le (fun f : UpFrame => decide (f.mark = .field)) s.line.queue
  refine ⟨hc, ?_, ?_⟩ <;> cases m <;>
    simp only [upRoom_field, upRoom_part] at room <;>
    simp only [appendUp_queue, List.length_append, List.filter_append, List.filter_cons, List.filter_nil,
      List.length_cons, List.length_nil, decide_true, reduceCtorEq, decide_false, if_true, Bool.false_eq_true,
      if_false] <;> omega

theorem UpBounded.raiseDrop {s : State} (h : UpBounded s) : UpBounded (raiseDrop s) := by
  unfold Machine.raiseDrop; dsimp only; split
  · exact h
  · split
    · next room => exact (h.markFlag .drop).appendUp _ room
    · exact (h.markFlag .drop).count _

theorem UpBounded.offerUp {s : State} (m : UpMark) (f : Frame) (h : UpBounded s) : UpBounded (offerUp m f s) := by
  unfold Machine.offerUp; split
  · next room => exact h.appendUp f room
  · exact (h.count _).raiseDrop

theorem UpBounded.setFlag {s : State} (f : Flag) (h : UpBounded s) : UpBounded (setFlag f s) := by
  unfold Machine.setFlag; dsimp only; split
  · exact h
  · exact (h.markFlag f).offerUp _ _

end Sys2Proof.Machine
end

