-- ==== Sys2Proof/Laws/Guard.lean ====
section
/-! SUPPORT. Guard.lean: what the Reference Guard's shared operations leave alone, and what they make of the downstream queue (R112 to
R122). -/

namespace Sys2Proof.Machine

variable (s : State)

/-! `loseDown` writes the line, requests at most. -/
@[simp] theorem loseDown_pending : (loseDown s).pending = s.pending := by
  simp [loseDown]
@[simp] theorem loseDown_key : (loseDown s).key = s.key := by
  simp [loseDown]
@[simp] theorem loseDown_tables : (loseDown s).tables = s.tables := by
  simp [loseDown]
@[simp] theorem loseDown_drums : (loseDown s).drums = s.drums := by
  simp [loseDown]
@[simp] theorem loseDown_trackers : (loseDown s).trackers = s.trackers := by
  simp [loseDown]
@[simp] theorem loseDown_pipeline : (loseDown s).pipeline = s.pipeline := by
  simp [loseDown]
@[simp] theorem loseDown_envelope : (loseDown s).envelope = s.envelope := by
  simp [loseDown]
@[simp] theorem loseDown_guard : (loseDown s).guard = s.guard := by
  simp [loseDown]
@[simp] theorem loseDown_protection : (loseDown s).protection = s.protection := by
  simp [loseDown]
@[simp] theorem loseDown_zones : (loseDown s).zones = s.zones := by
  simp [loseDown]
@[simp] theorem loseDown_freeCount : (loseDown s).freeCount = s.freeCount := by
  simp [loseDown]

/-! `appendDown` writes the line, requests, guard at most. -/
@[simp] theorem appendDown_pending (f : DownFrame) : (appendDown f s).pending = s.pending := by
  unfold appendDown; split <;> simp
@[simp] theorem appendDown_key (f : DownFrame) : (appendDown f s).key = s.key := by
  unfold appendDown; split <;> simp
@[simp] theorem appendDown_tables (f : DownFrame) : (appendDown f s).tables = s.tables := by
  unfold appendDown; split <;> simp
@[simp] theorem appendDown_drums (f : DownFrame) : (appendDown f s).drums = s.drums := by
  unfold appendDown; split <;> simp
@[simp] theorem appendDown_trackers (f : DownFrame) : (appendDown f s).trackers = s.trackers := by
  unfold appendDown; split <;> simp
@[simp] theorem appendDown_pipeline (f : DownFrame) : (appendDown f s).pipeline = s.pipeline := by
  unfold appendDown; split <;> simp
@[simp] theorem appendDown_envelope (f : DownFrame) : (appendDown f s).envelope = s.envelope := by
  unfold appendDown; split <;> simp
@[simp] theorem appendDown_protection (f : DownFrame) : (appendDown f s).protection = s.protection := by
  unfold appendDown; split <;> simp
@[simp] theorem appendDown_zones (f : DownFrame) : (appendDown f s).zones = s.zones := by
  unfold appendDown; split <;> simp
@[simp] theorem appendDown_freeCount (f : DownFrame) : (appendDown f s).freeCount = s.freeCount := by
  unfold appendDown; split <;> simp

/-! `coalesce` writes the line, requests, guard at most. -/
@[simp] theorem coalesce_pending (f : DownFrame) : (coalesce f s).pending = s.pending := by
  unfold coalesce; split <;> simp
@[simp] theorem coalesce_key (f : DownFrame) : (coalesce f s).key = s.key := by
  unfold coalesce; split <;> simp
@[simp] theorem coalesce_tables (f : DownFrame) : (coalesce f s).tables = s.tables := by
  unfold coalesce; split <;> simp
@[simp] theorem coalesce_drums (f : DownFrame) : (coalesce f s).drums = s.drums := by
  unfold coalesce; split <;> simp
@[simp] theorem coalesce_trackers (f : DownFrame) : (coalesce f s).trackers = s.trackers := by
  unfold coalesce; split <;> simp
@[simp] theorem coalesce_pipeline (f : DownFrame) : (coalesce f s).pipeline = s.pipeline := by
  unfold coalesce; split <;> simp
@[simp] theorem coalesce_envelope (f : DownFrame) : (coalesce f s).envelope = s.envelope := by
  unfold coalesce; split <;> simp
@[simp] theorem coalesce_protection (f : DownFrame) : (coalesce f s).protection = s.protection := by
  unfold coalesce; split <;> simp
@[simp] theorem coalesce_zones (f : DownFrame) : (coalesce f s).zones = s.zones := by
  unfold coalesce; split <;> simp
@[simp] theorem coalesce_freeCount (f : DownFrame) : (coalesce f s).freeCount = s.freeCount := by
  unfold coalesce; split <;> simp

/-! `placeDemand` writes the line, requests, guard at most. -/
@[simp] theorem placeDemand_pending (f : Frame) : (placeDemand f s).pending = s.pending := by
  unfold placeDemand; dsimp only; split <;> [rfl; (split <;> simp)]
@[simp] theorem placeDemand_key (f : Frame) : (placeDemand f s).key = s.key := by
  unfold placeDemand; dsimp only; split <;> [rfl; (split <;> simp)]
@[simp] theorem placeDemand_tables (f : Frame) : (placeDemand f s).tables = s.tables := by
  unfold placeDemand; dsimp only; split <;> [rfl; (split <;> simp)]
@[simp] theorem placeDemand_drums (f : Frame) : (placeDemand f s).drums = s.drums := by
  unfold placeDemand; dsimp only; split <;> [rfl; (split <;> simp)]
@[simp] theorem placeDemand_trackers (f : Frame) : (placeDemand f s).trackers = s.trackers := by
  unfold placeDemand; dsimp only; split <;> [rfl; (split <;> simp)]
@[simp] theorem placeDemand_pipeline (f : Frame) : (placeDemand f s).pipeline = s.pipeline := by
  unfold placeDemand; dsimp only; split <;> [rfl; (split <;> simp)]
@[simp] theorem placeDemand_envelope (f : Frame) : (placeDemand f s).envelope = s.envelope := by
  unfold placeDemand; dsimp only; split <;> [rfl; (split <;> simp)]
@[simp] theorem placeDemand_protection (f : Frame) : (placeDemand f s).protection = s.protection := by
  unfold placeDemand; dsimp only; split <;> [rfl; (split <;> simp)]
@[simp] theorem placeDemand_zones (f : Frame) : (placeDemand f s).zones = s.zones := by
  unfold placeDemand; dsimp only; split <;> [rfl; (split <;> simp)]
@[simp] theorem placeDemand_freeCount (f : Frame) : (placeDemand f s).freeCount = s.freeCount := by
  unfold placeDemand; dsimp only; split <;> [rfl; (split <;> simp)]

/-! `noteClamped` writes the line, requests at most. -/
@[simp] theorem noteClamped_pending (b : Bool) : (noteClamped b s).pending = s.pending := by
  unfold noteClamped; split <;> simp
@[simp] theorem noteClamped_key (b : Bool) : (noteClamped b s).key = s.key := by
  unfold noteClamped; split <;> simp
@[simp] theorem noteClamped_tables (b : Bool) : (noteClamped b s).tables = s.tables := by
  unfold noteClamped; split <;> simp
@[simp] theorem noteClamped_drums (b : Bool) : (noteClamped b s).drums = s.drums := by
  unfold noteClamped; split <;> simp
@[simp] theorem noteClamped_trackers (b : Bool) : (noteClamped b s).trackers = s.trackers := by
  unfold noteClamped; split <;> simp
@[simp] theorem noteClamped_pipeline (b : Bool) : (noteClamped b s).pipeline = s.pipeline := by
  unfold noteClamped; split <;> simp
@[simp] theorem noteClamped_envelope (b : Bool) : (noteClamped b s).envelope = s.envelope := by
  unfold noteClamped; split <;> simp
@[simp] theorem noteClamped_guard (b : Bool) : (noteClamped b s).guard = s.guard := by
  unfold noteClamped; split <;> simp
@[simp] theorem noteClamped_protection (b : Bool) : (noteClamped b s).protection = s.protection := by
  unfold noteClamped; split <;> simp
@[simp] theorem noteClamped_zones (b : Bool) : (noteClamped b s).zones = s.zones := by
  unfold noteClamped; split <;> simp
@[simp] theorem noteClamped_freeCount (b : Bool) : (noteClamped b s).freeCount = s.freeCount := by
  unfold noteClamped; split <;> simp

/-! `blockCommand` writes the line, requests at most. -/
@[simp] theorem blockCommand_pending : (blockCommand s).pending = s.pending := by
  simp [blockCommand]
@[simp] theorem blockCommand_key : (blockCommand s).key = s.key := by
  simp [blockCommand]
@[simp] theorem blockCommand_tables : (blockCommand s).tables = s.tables := by
  simp [blockCommand]
@[simp] theorem blockCommand_drums : (blockCommand s).drums = s.drums := by
  simp [blockCommand]
@[simp] theorem blockCommand_trackers : (blockCommand s).trackers = s.trackers := by
  simp [blockCommand]
@[simp] theorem blockCommand_pipeline : (blockCommand s).pipeline = s.pipeline := by
  simp [blockCommand]
@[simp] theorem blockCommand_envelope : (blockCommand s).envelope = s.envelope := by
  simp [blockCommand]
@[simp] theorem blockCommand_guard : (blockCommand s).guard = s.guard := by
  simp [blockCommand]
@[simp] theorem blockCommand_protection : (blockCommand s).protection = s.protection := by
  simp [blockCommand]
@[simp] theorem blockCommand_zones : (blockCommand s).zones = s.zones := by
  simp [blockCommand]
@[simp] theorem blockCommand_freeCount : (blockCommand s).freeCount = s.freeCount := by
  simp [blockCommand]

/-! `noteReference` writes the guard at most. -/
@[simp] theorem noteReference_pending (o : Byte) : (noteReference o s).pending = s.pending := by
  unfold noteReference; split <;> simp
@[simp] theorem noteReference_key (o : Byte) : (noteReference o s).key = s.key := by
  unfold noteReference; split <;> simp
@[simp] theorem noteReference_line (o : Byte) : (noteReference o s).line = s.line := by
  unfold noteReference; split <;> simp
@[simp] theorem noteReference_tables (o : Byte) : (noteReference o s).tables = s.tables := by
  unfold noteReference; split <;> simp
@[simp] theorem noteReference_drums (o : Byte) : (noteReference o s).drums = s.drums := by
  unfold noteReference; split <;> simp
@[simp] theorem noteReference_trackers (o : Byte) : (noteReference o s).trackers = s.trackers := by
  unfold noteReference; split <;> simp
@[simp] theorem noteReference_pipeline (o : Byte) : (noteReference o s).pipeline = s.pipeline := by
  unfold noteReference; split <;> simp
@[simp] theorem noteReference_envelope (o : Byte) : (noteReference o s).envelope = s.envelope := by
  unfold noteReference; split <;> simp
@[simp] theorem noteReference_protection (o : Byte) : (noteReference o s).protection = s.protection := by
  unfold noteReference; split <;> simp
@[simp] theorem noteReference_zones (o : Byte) : (noteReference o s).zones = s.zones := by
  unfold noteReference; split <;> simp
@[simp] theorem noteReference_requests (o : Byte) : (noteReference o s).requests = s.requests := by
  unfold noteReference; split <;> simp
@[simp] theorem noteReference_freeCount (o : Byte) : (noteReference o s).freeCount = s.freeCount := by
  unfold noteReference; split <;> simp

/-! `removeWaitingReference` writes the guard, requests at most. -/
@[simp] theorem removeWaitingReference_pending : (removeWaitingReference s).pending = s.pending := by
  unfold removeWaitingReference; split <;> simp
@[simp] theorem removeWaitingReference_key : (removeWaitingReference s).key = s.key := by
  unfold removeWaitingReference; split <;> simp
@[simp] theorem removeWaitingReference_line : (removeWaitingReference s).line = s.line := by
  unfold removeWaitingReference; split <;> simp
@[simp] theorem removeWaitingReference_tables : (removeWaitingReference s).tables = s.tables := by
  unfold removeWaitingReference; split <;> simp
@[simp] theorem removeWaitingReference_drums : (removeWaitingReference s).drums = s.drums := by
  unfold removeWaitingReference; split <;> simp
@[simp] theorem removeWaitingReference_trackers : (removeWaitingReference s).trackers = s.trackers := by
  unfold removeWaitingReference; split <;> simp
@[simp] theorem removeWaitingReference_pipeline : (removeWaitingReference s).pipeline = s.pipeline := by
  unfold removeWaitingReference; split <;> simp
@[simp] theorem removeWaitingReference_envelope : (removeWaitingReference s).envelope = s.envelope := by
  unfold removeWaitingReference; split <;> simp
@[simp] theorem removeWaitingReference_protection : (removeWaitingReference s).protection = s.protection := by
  unfold removeWaitingReference; split <;> simp
@[simp] theorem removeWaitingReference_zones : (removeWaitingReference s).zones = s.zones := by
  unfold removeWaitingReference; split <;> simp
@[simp] theorem removeWaitingReference_freeCount : (removeWaitingReference s).freeCount = s.freeCount := by
  unfold removeWaitingReference; split <;> simp

/-! `beginStop` writes the guard, requests at most. -/
@[simp] theorem beginStop_pending (t : Trip) : (beginStop t s).pending = s.pending := by
  unfold beginStop; dsimp only; split <;> simp
@[simp] theorem beginStop_key (t : Trip) : (beginStop t s).key = s.key := by
  unfold beginStop; dsimp only; split <;> simp
@[simp] theorem beginStop_line (t : Trip) : (beginStop t s).line = s.line := by
  unfold beginStop; dsimp only; split <;> simp
@[simp] theorem beginStop_tables (t : Trip) : (beginStop t s).tables = s.tables := by
  unfold beginStop; dsimp only; split <;> simp
@[simp] theorem beginStop_drums (t : Trip) : (beginStop t s).drums = s.drums := by
  unfold beginStop; dsimp only; split <;> simp
@[simp] theorem beginStop_trackers (t : Trip) : (beginStop t s).trackers = s.trackers := by
  unfold beginStop; dsimp only; split <;> simp
@[simp] theorem beginStop_pipeline (t : Trip) : (beginStop t s).pipeline = s.pipeline := by
  unfold beginStop; dsimp only; split <;> simp
@[simp] theorem beginStop_envelope (t : Trip) : (beginStop t s).envelope = s.envelope := by
  unfold beginStop; dsimp only; split <;> simp
@[simp] theorem beginStop_protection (t : Trip) : (beginStop t s).protection = s.protection := by
  unfold beginStop; dsimp only; split <;> simp
@[simp] theorem beginStop_zones (t : Trip) : (beginStop t s).zones = s.zones := by
  unfold beginStop; dsimp only; split <;> simp
@[simp] theorem beginStop_freeCount (t : Trip) : (beginStop t s).freeCount = s.freeCount := by
  unfold beginStop; dsimp only; split <;> simp
/-! ### The downstream queue after each operation (R113 to R115) -/

variable {s}

theorem appendDown_guard (f : DownFrame) (s : State) :
    (appendDown f s).guard
      = { s.guard with queue := if s.guard.queue.length < 8 then s.guard.queue ++ [f] else s.guard.queue } := by
  unfold appendDown
  by_cases h : s.guard.queue.length < 8
  · rw [if_pos (show s.guard.queue.length < Config.downQueuePlaces from h), if_pos h]; rfl
  · rw [if_neg (show ¬s.guard.queue.length < Config.downQueuePlaces from h), if_neg h]; simp

theorem coalesce_guard (f : DownFrame) (s : State) :
    (coalesce f s).guard
      = { s.guard with queue :=
            if s.guard.queue.any DownFrame.isReference then replaceReference f s.guard.queue
            else if s.guard.queue.length < 8 then s.guard.queue ++ [f] else s.guard.queue } := by
  unfold coalesce
  by_cases h : s.guard.queue.any DownFrame.isReference
  · rw [if_pos h, if_pos h]; simp
  · rw [if_neg h, if_neg h, appendDown_guard]

theorem placeDemand_guard (f : Frame) (s : State) :
    (placeDemand f s).guard
      = { s.guard with queue :=
            if s.guard.queue.any DownFrame.isDemand then s.guard.queue
            else if s.guard.queue.length < 8 then { frame := f, source := none } :: s.guard.queue
            else { frame := f, source := none } :: s.guard.queue.dropLast } := by
  unfold placeDemand
  by_cases h : s.guard.queue.any DownFrame.isDemand
  · simp only [if_pos h]
  · by_cases k : s.guard.queue.length < 8
    · simp only [if_neg h, if_pos k, if_pos (show s.guard.queue.length < Config.downQueuePlaces from k)]; rfl
    · simp only [if_neg h, if_neg k, if_neg (show ¬s.guard.queue.length < Config.downQueuePlaces from k)]; simp

@[simp] theorem replaceReference_length (f : DownFrame) (q : List DownFrame) :
    (replaceReference f q).length = q.length := by simp [replaceReference]

theorem appendDown_queue_le (f : DownFrame) (s : State) (h : s.guard.queue.length ≤ 8) :
    (appendDown f s).guard.queue.length ≤ 8 := by
  rw [appendDown_guard]; dsimp only
  split
  · rw [List.length_append, List.length_singleton]; omega
  · exact h

theorem coalesce_queue_le (f : DownFrame) (s : State) (h : s.guard.queue.length ≤ 8) :
    (coalesce f s).guard.queue.length ≤ 8 := by
  rw [coalesce_guard]; dsimp only
  split
  · rw [replaceReference_length]; exact h
  · split
    · rw [List.length_append, List.length_singleton]; omega
    · exact h

theorem placeDemand_queue_le (f : Frame) (s : State) (h : s.guard.queue.length ≤ 8) :
    (placeDemand f s).guard.queue.length ≤ 8 := by
  rw [placeDemand_guard]; dsimp only
  split
  · exact h
  · split <;> rw [List.length_cons]
    · omega
    · rw [List.length_dropLast]; omega

theorem removeWaitingReference_guard (s : State) :
    (removeWaitingReference s).guard
      = { s.guard with queue := s.guard.queue.filter fun f => decide (f.source ≠ some .controller) } := by
  unfold removeWaitingReference
  split
  · simp
  · next h =>
    have all : s.guard.queue.filter (fun f => decide (f.source ≠ some .controller)) = s.guard.queue := by
      rw [List.filter_eq_self]
      intro f hf
      simp only [List.any_eq_true, decide_eq_true_eq, not_exists, not_and] at h
      simpa using h f hf
    rw [all]

/-! ### Judging a reference (R112, R117) -/

/-- A guarded reference stays within P. -/
theorem guarded_natAbs_le (speed : Int) (s : State) : (guarded speed s).natAbs ≤ s.envelope.permitted := by
  unfold guarded clampTo; omega

/-- A guarded reference never points against the active trip. -/
theorem guarded_direction {t : Trip} (speed : Int) (s : State) (h : s.pipeline.active = some t) :
    (t.direction = .forward → 0 ≤ guarded speed s) ∧ (t.direction = .reverse → guarded speed s ≤ 0) := by
  unfold guarded clampTo zeroAgainst
  rw [h]
  constructor <;> intro hd <;> simp only [hd] <;> split <;> omega

/-- Judging lowers a magnitude, and never raises it. -/
theorem guarded_natAbs_le_self (speed : Int) (s : State) : (guarded speed s).natAbs ≤ speed.natAbs := by
  unfold guarded clampTo zeroAgainst
  (repeat' split) <;> omega

/-! ### Taking the head frame (R116) -/

theorem takeNext_blocked {f : DownFrame} (rest : List DownFrame) (h : blockedNow f.frame s = true) :
    takeNext (f :: rest) s = takeNext rest (blockCommand s) := by simp [takeNext, h]

theorem takeNext_passes {f : DownFrame} (rest : List DownFrame) (h : blockedNow f.frame s = false) :
    takeNext (f :: rest) s = beginTransmission f rest s := by simp [takeNext, h]

/-- The gates look at parts that a blocked command does not write. -/
theorem blockedNow_blockCommand (f : Frame) (s : State) : blockedNow f (blockCommand s) = blockedNow f s := by
  unfold blockedNow liftBlocked clutchPasses winderAtRest; simp

end Sys2Proof.Machine
end

