-- ==== Sys2Proof/Laws/Zones.lean ====
section
/-! SUPPORT. Zones.lean: what the hand-on to the Zone Map and the judging of the watch list leave alone, and what they write (R148,
R155). -/

namespace Sys2Proof.Machine

variable (s : State)

/-! Offering one frame after another leaves these parts alone. -/
theorem offerAll_pending (n : WatchEntry → State → Frame) (due : List WatchEntry) :
    (due.foldl (fun s e => offerUp .part (n e s) s) s).pending = s.pending := by
  induction due generalizing s <;> simp_all

theorem offerAll_key (n : WatchEntry → State → Frame) (due : List WatchEntry) :
    (due.foldl (fun s e => offerUp .part (n e s) s) s).key = s.key := by
  induction due generalizing s <;> simp_all

theorem offerAll_tables (n : WatchEntry → State → Frame) (due : List WatchEntry) :
    (due.foldl (fun s e => offerUp .part (n e s) s) s).tables = s.tables := by
  induction due generalizing s <;> simp_all

theorem offerAll_drums (n : WatchEntry → State → Frame) (due : List WatchEntry) :
    (due.foldl (fun s e => offerUp .part (n e s) s) s).drums = s.drums := by
  induction due generalizing s <;> simp_all

theorem offerAll_trackers (n : WatchEntry → State → Frame) (due : List WatchEntry) :
    (due.foldl (fun s e => offerUp .part (n e s) s) s).trackers = s.trackers := by
  induction due generalizing s <;> simp_all

theorem offerAll_pipeline (n : WatchEntry → State → Frame) (due : List WatchEntry) :
    (due.foldl (fun s e => offerUp .part (n e s) s) s).pipeline = s.pipeline := by
  induction due generalizing s <;> simp_all

theorem offerAll_envelope (n : WatchEntry → State → Frame) (due : List WatchEntry) :
    (due.foldl (fun s e => offerUp .part (n e s) s) s).envelope = s.envelope := by
  induction due generalizing s <;> simp_all

theorem offerAll_guard (n : WatchEntry → State → Frame) (due : List WatchEntry) :
    (due.foldl (fun s e => offerUp .part (n e s) s) s).guard = s.guard := by
  induction due generalizing s <;> simp_all

theorem offerAll_protection (n : WatchEntry → State → Frame) (due : List WatchEntry) :
    (due.foldl (fun s e => offerUp .part (n e s) s) s).protection = s.protection := by
  induction due generalizing s <;> simp_all

theorem offerAll_zones (n : WatchEntry → State → Frame) (due : List WatchEntry) :
    (due.foldl (fun s e => offerUp .part (n e s) s) s).zones = s.zones := by
  induction due generalizing s <;> simp_all

theorem offerAll_freeCount (n : WatchEntry → State → Frame) (due : List WatchEntry) :
    (due.foldl (fun s e => offerUp .part (n e s) s) s).freeCount = s.freeCount := by
  induction due generalizing s <;> simp_all

/-! `judgeWatchList` writes the watch list, the upstream queue and the flags and counters at most. -/
@[simp] theorem judgeWatchList_pending : (judgeWatchList s).pending = s.pending := by
  simp [judgeWatchList, offerAll_pending]
@[simp] theorem judgeWatchList_key : (judgeWatchList s).key = s.key := by
  simp [judgeWatchList, offerAll_key]
@[simp] theorem judgeWatchList_tables : (judgeWatchList s).tables = s.tables := by
  simp [judgeWatchList, offerAll_tables]
@[simp] theorem judgeWatchList_drums : (judgeWatchList s).drums = s.drums := by
  simp [judgeWatchList, offerAll_drums]
@[simp] theorem judgeWatchList_trackers : (judgeWatchList s).trackers = s.trackers := by
  simp [judgeWatchList, offerAll_trackers]
@[simp] theorem judgeWatchList_pipeline : (judgeWatchList s).pipeline = s.pipeline := by
  simp [judgeWatchList, offerAll_pipeline]
@[simp] theorem judgeWatchList_envelope : (judgeWatchList s).envelope = s.envelope := by
  simp [judgeWatchList, offerAll_envelope]
@[simp] theorem judgeWatchList_guard : (judgeWatchList s).guard = s.guard := by
  simp [judgeWatchList, offerAll_guard]
@[simp] theorem judgeWatchList_protection : (judgeWatchList s).protection = s.protection := by
  simp [judgeWatchList, offerAll_protection]
@[simp] theorem judgeWatchList_freeCount : (judgeWatchList s).freeCount = s.freeCount := by
  simp [judgeWatchList, offerAll_freeCount]

/-! `handOnZones` writes the line, requests, zones at most. -/
@[simp] theorem handOnZones_pending : (handOnZones s).pending = s.pending := by
  simp [handOnZones]
@[simp] theorem handOnZones_key : (handOnZones s).key = s.key := by
  simp [handOnZones]
@[simp] theorem handOnZones_tables : (handOnZones s).tables = s.tables := by
  simp [handOnZones]
@[simp] theorem handOnZones_drums : (handOnZones s).drums = s.drums := by
  simp [handOnZones]
@[simp] theorem handOnZones_trackers : (handOnZones s).trackers = s.trackers := by
  simp [handOnZones]
@[simp] theorem handOnZones_pipeline : (handOnZones s).pipeline = s.pipeline := by
  simp [handOnZones]
@[simp] theorem handOnZones_envelope : (handOnZones s).envelope = s.envelope := by
  simp [handOnZones]
@[simp] theorem handOnZones_guard : (handOnZones s).guard = s.guard := by
  simp [handOnZones]
@[simp] theorem handOnZones_protection : (handOnZones s).protection = s.protection := by
  simp [handOnZones]
@[simp] theorem handOnZones_freeCount : (handOnZones s).freeCount = s.freeCount := by
  simp [handOnZones]
/-! ### What they write -/

variable {s}

theorem judgeWatchList_zones (s : State) :
    (judgeWatchList s).zones
      = { s.zones with watchList := s.zones.watchList.filter fun e => (summaryOf e.zone s).staysWatched } := by
  simp [judgeWatchList, offerAll_zones]

theorem handOnZones_zones (s : State) :
    (handOnZones s).zones
      = { (takeHandOn s).zones with
            watchList := s.zones.watchList.filter fun e => (summaryOf e.zone (takeHandOn s)).staysWatched } := by
  rw [handOnZones, judgeWatchList_zones]; rfl

@[simp] theorem handOnZones_holders (s : State) : (handOnZones s).zones.holders = s.zones.holders := by
  rw [handOnZones_zones]; rfl

/-- The summary of a zone looks at the active SHAFT bank and the Zone Map alone. -/
theorem summaryOf_congr {s t : State} (z : Nat) (shaft : t.tables.shaft.active = s.tables.shaft.active)
    (occupancy : t.zones.occupancy = s.zones.occupancy) (active : t.zones.activeSwept = s.zones.activeSwept)
    (waiting : t.zones.waitingSwept = s.zones.waitingSwept) (holders : t.zones.holders = s.zones.holders) :
    summaryOf z t = summaryOf z s := by
  have place : zoneOccupancy z t = zoneOccupancy z s := by simp only [zoneOccupancy, zoneList, shaft, occupancy]
  have holder : holderOf z t = holderOf z s := by simp only [holderOf, holders]
  unfold summaryOf
  rw [place, holder, active, waiting]

/-- After a hand-on, every entry of the watch list is on a zone that stays watched. -/
theorem handOnZones_watched (s : State) :
    ∀ e ∈ (handOnZones s).zones.watchList, (summaryOf e.zone (handOnZones s)).staysWatched = true := by
  intro e he
  rw [handOnZones_zones] at he
  have same : summaryOf e.zone (handOnZones s) = summaryOf e.zone (takeHandOn s) :=
    summaryOf_congr _ (by simp) (by rw [handOnZones_zones]) (by rw [handOnZones_zones])
      (by rw [handOnZones_zones]) (by rw [handOnZones_zones])
  rw [same]
  exact (List.mem_filter.mp he).2

theorem UpBounded.judgeWatchList {s : State} (h : UpBounded s) : UpBounded (judgeWatchList s) := by
  unfold Machine.judgeWatchList
  have go (n : WatchEntry → State → Frame) (due : List WatchEntry) (s : State) (h : UpBounded s) :
      UpBounded (due.foldl (fun s e => Machine.offerUp .part (n e s) s) s) := by
    induction due generalizing s with
    | nil => exact h
    | cons e rest ih => exact ih _ (h.offerUp _ _)
  exact go _ _ _ h

end Sys2Proof.Machine
end

