-- ==== Sys2Proof/Laws/Trips.lean ====
section
/-! SUPPORT. Trips.lean: what the Trip Pipeline's shared operations leave alone, and what they make of the two slots (R79 to R94). -/

namespace Sys2Proof.Machine

variable (s : State)

/-! `enterState` writes the pipeline, guard at most. -/
@[simp] theorem enterState_pending (n : TripState) : (enterState n s).pending = s.pending := by
  unfold enterState watchOn; split <;> [rfl; ((repeat' split) <;> simp)]
@[simp] theorem enterState_key (n : TripState) : (enterState n s).key = s.key := by
  unfold enterState watchOn; split <;> [rfl; ((repeat' split) <;> simp)]
@[simp] theorem enterState_line (n : TripState) : (enterState n s).line = s.line := by
  unfold enterState watchOn; split <;> [rfl; ((repeat' split) <;> simp)]
@[simp] theorem enterState_tables (n : TripState) : (enterState n s).tables = s.tables := by
  unfold enterState watchOn; split <;> [rfl; ((repeat' split) <;> simp)]
@[simp] theorem enterState_drums (n : TripState) : (enterState n s).drums = s.drums := by
  unfold enterState watchOn; split <;> [rfl; ((repeat' split) <;> simp)]
@[simp] theorem enterState_trackers (n : TripState) : (enterState n s).trackers = s.trackers := by
  unfold enterState watchOn; split <;> [rfl; ((repeat' split) <;> simp)]
@[simp] theorem enterState_envelope (n : TripState) : (enterState n s).envelope = s.envelope := by
  unfold enterState watchOn; split <;> [rfl; ((repeat' split) <;> simp)]
@[simp] theorem enterState_protection (n : TripState) : (enterState n s).protection = s.protection := by
  unfold enterState watchOn; split <;> [rfl; ((repeat' split) <;> simp)]
@[simp] theorem enterState_zones (n : TripState) : (enterState n s).zones = s.zones := by
  unfold enterState watchOn; split <;> [rfl; ((repeat' split) <;> simp)]
@[simp] theorem enterState_requests (n : TripState) : (enterState n s).requests = s.requests := by
  unfold enterState watchOn; split <;> [rfl; ((repeat' split) <;> simp)]
@[simp] theorem enterState_freeCount (n : TripState) : (enterState n s).freeCount = s.freeCount := by
  unfold enterState watchOn; split <;> [rfl; ((repeat' split) <;> simp)]

/-! `placeRecord` writes the pipeline, line, requests at most. -/
@[simp] theorem placeRecord_pending (r : HistoryRecord) : (placeRecord r s).pending = s.pending := by
  simp [placeRecord]
@[simp] theorem placeRecord_key (r : HistoryRecord) : (placeRecord r s).key = s.key := by
  simp [placeRecord]
@[simp] theorem placeRecord_tables (r : HistoryRecord) : (placeRecord r s).tables = s.tables := by
  simp [placeRecord]
@[simp] theorem placeRecord_drums (r : HistoryRecord) : (placeRecord r s).drums = s.drums := by
  simp [placeRecord]
@[simp] theorem placeRecord_trackers (r : HistoryRecord) : (placeRecord r s).trackers = s.trackers := by
  simp [placeRecord]
@[simp] theorem placeRecord_envelope (r : HistoryRecord) : (placeRecord r s).envelope = s.envelope := by
  simp [placeRecord]
@[simp] theorem placeRecord_guard (r : HistoryRecord) : (placeRecord r s).guard = s.guard := by
  simp [placeRecord]
@[simp] theorem placeRecord_protection (r : HistoryRecord) : (placeRecord r s).protection = s.protection := by
  simp [placeRecord]
@[simp] theorem placeRecord_zones (r : HistoryRecord) : (placeRecord r s).zones = s.zones := by
  simp [placeRecord]
@[simp] theorem placeRecord_freeCount (r : HistoryRecord) : (placeRecord r s).freeCount = s.freeCount := by
  simp [placeRecord]

/-! `finishActive` writes the pipeline, guard, line, requests at most. -/
@[simp] theorem finishActive_pending (o : TripOutcome) (c : Option TripCause) : (finishActive o c s).pending = s.pending := by
  unfold finishActive; split <;> simp
@[simp] theorem finishActive_key (o : TripOutcome) (c : Option TripCause) : (finishActive o c s).key = s.key := by
  unfold finishActive; split <;> simp
@[simp] theorem finishActive_tables (o : TripOutcome) (c : Option TripCause) : (finishActive o c s).tables = s.tables := by
  unfold finishActive; split <;> simp
@[simp] theorem finishActive_drums (o : TripOutcome) (c : Option TripCause) : (finishActive o c s).drums = s.drums := by
  unfold finishActive; split <;> simp
@[simp] theorem finishActive_trackers (o : TripOutcome) (c : Option TripCause) : (finishActive o c s).trackers = s.trackers := by
  unfold finishActive; split <;> simp
@[simp] theorem finishActive_envelope (o : TripOutcome) (c : Option TripCause) : (finishActive o c s).envelope = s.envelope := by
  unfold finishActive; split <;> simp
@[simp] theorem finishActive_protection (o : TripOutcome) (c : Option TripCause) : (finishActive o c s).protection = s.protection := by
  unfold finishActive; split <;> simp
@[simp] theorem finishActive_zones (o : TripOutcome) (c : Option TripCause) : (finishActive o c s).zones = s.zones := by
  unfold finishActive; split <;> simp
@[simp] theorem finishActive_freeCount (o : TripOutcome) (c : Option TripCause) : (finishActive o c s).freeCount = s.freeCount := by
  unfold finishActive; split <;> simp

/-! `finishWaiting` writes the pipeline, line, requests at most. -/
@[simp] theorem finishWaiting_pending (o : TripOutcome) (c : Option TripCause) : (finishWaiting o c s).pending = s.pending := by
  unfold finishWaiting; split <;> simp
@[simp] theorem finishWaiting_key (o : TripOutcome) (c : Option TripCause) : (finishWaiting o c s).key = s.key := by
  unfold finishWaiting; split <;> simp
@[simp] theorem finishWaiting_tables (o : TripOutcome) (c : Option TripCause) : (finishWaiting o c s).tables = s.tables := by
  unfold finishWaiting; split <;> simp
@[simp] theorem finishWaiting_drums (o : TripOutcome) (c : Option TripCause) : (finishWaiting o c s).drums = s.drums := by
  unfold finishWaiting; split <;> simp
@[simp] theorem finishWaiting_trackers (o : TripOutcome) (c : Option TripCause) : (finishWaiting o c s).trackers = s.trackers := by
  unfold finishWaiting; split <;> simp
@[simp] theorem finishWaiting_envelope (o : TripOutcome) (c : Option TripCause) : (finishWaiting o c s).envelope = s.envelope := by
  unfold finishWaiting; split <;> simp
@[simp] theorem finishWaiting_guard (o : TripOutcome) (c : Option TripCause) : (finishWaiting o c s).guard = s.guard := by
  unfold finishWaiting; split <;> simp
@[simp] theorem finishWaiting_protection (o : TripOutcome) (c : Option TripCause) : (finishWaiting o c s).protection = s.protection := by
  unfold finishWaiting; split <;> simp
@[simp] theorem finishWaiting_zones (o : TripOutcome) (c : Option TripCause) : (finishWaiting o c s).zones = s.zones := by
  unfold finishWaiting; split <;> simp
@[simp] theorem finishWaiting_freeCount (o : TripOutcome) (c : Option TripCause) : (finishWaiting o c s).freeCount = s.freeCount := by
  unfold finishWaiting; split <;> simp

/-! `finishBoth` writes the pipeline, guard, line, requests at most. -/
@[simp] theorem finishBoth_pending (o : TripOutcome) (c : Option TripCause) : (finishBoth o c s).pending = s.pending := by
  simp [finishBoth]
@[simp] theorem finishBoth_key (o : TripOutcome) (c : Option TripCause) : (finishBoth o c s).key = s.key := by
  simp [finishBoth]
@[simp] theorem finishBoth_tables (o : TripOutcome) (c : Option TripCause) : (finishBoth o c s).tables = s.tables := by
  simp [finishBoth]
@[simp] theorem finishBoth_drums (o : TripOutcome) (c : Option TripCause) : (finishBoth o c s).drums = s.drums := by
  simp [finishBoth]
@[simp] theorem finishBoth_trackers (o : TripOutcome) (c : Option TripCause) : (finishBoth o c s).trackers = s.trackers := by
  simp [finishBoth]
@[simp] theorem finishBoth_envelope (o : TripOutcome) (c : Option TripCause) : (finishBoth o c s).envelope = s.envelope := by
  simp [finishBoth]
@[simp] theorem finishBoth_protection (o : TripOutcome) (c : Option TripCause) : (finishBoth o c s).protection = s.protection := by
  simp [finishBoth]
@[simp] theorem finishBoth_zones (o : TripOutcome) (c : Option TripCause) : (finishBoth o c s).zones = s.zones := by
  simp [finishBoth]
@[simp] theorem finishBoth_freeCount (o : TripOutcome) (c : Option TripCause) : (finishBoth o c s).freeCount = s.freeCount := by
  simp [finishBoth]

/-! `promote` writes the pipeline, guard, line, requests at most. -/
@[simp] theorem promote_pending : (promote s).pending = s.pending := by
  unfold promote; split <;> [rfl; (dsimp only; (repeat' split) <;> simp)]
@[simp] theorem promote_key : (promote s).key = s.key := by
  unfold promote; split <;> [rfl; (dsimp only; (repeat' split) <;> simp)]
@[simp] theorem promote_tables : (promote s).tables = s.tables := by
  unfold promote; split <;> [rfl; (dsimp only; (repeat' split) <;> simp)]
@[simp] theorem promote_drums : (promote s).drums = s.drums := by
  unfold promote; split <;> [rfl; (dsimp only; (repeat' split) <;> simp)]
@[simp] theorem promote_trackers : (promote s).trackers = s.trackers := by
  unfold promote; split <;> [rfl; (dsimp only; (repeat' split) <;> simp)]
@[simp] theorem promote_envelope : (promote s).envelope = s.envelope := by
  unfold promote; split <;> [rfl; (dsimp only; (repeat' split) <;> simp)]
@[simp] theorem promote_protection : (promote s).protection = s.protection := by
  unfold promote; split <;> [rfl; (dsimp only; (repeat' split) <;> simp)]
@[simp] theorem promote_zones : (promote s).zones = s.zones := by
  unfold promote; split <;> [rfl; (dsimp only; (repeat' split) <;> simp)]
@[simp] theorem promote_freeCount : (promote s).freeCount = s.freeCount := by
  unfold promote; split <;> [rfl; (dsimp only; (repeat' split) <;> simp)]

/-! `finishAtRest` writes the pipeline, guard, line, requests at most. -/
@[simp] theorem finishAtRest_pending : (finishAtRest s).pending = s.pending := by
  unfold finishAtRest; (repeat' split) <;> simp
@[simp] theorem finishAtRest_key : (finishAtRest s).key = s.key := by
  unfold finishAtRest; (repeat' split) <;> simp
@[simp] theorem finishAtRest_tables : (finishAtRest s).tables = s.tables := by
  unfold finishAtRest; (repeat' split) <;> simp
@[simp] theorem finishAtRest_drums : (finishAtRest s).drums = s.drums := by
  unfold finishAtRest; (repeat' split) <;> simp
@[simp] theorem finishAtRest_trackers : (finishAtRest s).trackers = s.trackers := by
  unfold finishAtRest; (repeat' split) <;> simp
@[simp] theorem finishAtRest_envelope : (finishAtRest s).envelope = s.envelope := by
  unfold finishAtRest; (repeat' split) <;> simp
@[simp] theorem finishAtRest_protection : (finishAtRest s).protection = s.protection := by
  unfold finishAtRest; (repeat' split) <;> simp
@[simp] theorem finishAtRest_zones : (finishAtRest s).zones = s.zones := by
  unfold finishAtRest; (repeat' split) <;> simp
@[simp] theorem finishAtRest_freeCount : (finishAtRest s).freeCount = s.freeCount := by
  unfold finishAtRest; (repeat' split) <;> simp

/-! `enterStopping` writes the pipeline, guard, line, requests at most. -/
@[simp] theorem enterStopping_pending (c : TripCause) : (enterStopping c s).pending = s.pending := by
  unfold enterStopping; split <;> [rfl; (dsimp only; split <;> simp)]
@[simp] theorem enterStopping_key (c : TripCause) : (enterStopping c s).key = s.key := by
  unfold enterStopping; split <;> [rfl; (dsimp only; split <;> simp)]
@[simp] theorem enterStopping_tables (c : TripCause) : (enterStopping c s).tables = s.tables := by
  unfold enterStopping; split <;> [rfl; (dsimp only; split <;> simp)]
@[simp] theorem enterStopping_drums (c : TripCause) : (enterStopping c s).drums = s.drums := by
  unfold enterStopping; split <;> [rfl; (dsimp only; split <;> simp)]
@[simp] theorem enterStopping_trackers (c : TripCause) : (enterStopping c s).trackers = s.trackers := by
  unfold enterStopping; split <;> [rfl; (dsimp only; split <;> simp)]
@[simp] theorem enterStopping_envelope (c : TripCause) : (enterStopping c s).envelope = s.envelope := by
  unfold enterStopping; split <;> [rfl; (dsimp only; split <;> simp)]
@[simp] theorem enterStopping_protection (c : TripCause) : (enterStopping c s).protection = s.protection := by
  unfold enterStopping; split <;> [rfl; (dsimp only; split <;> simp)]
@[simp] theorem enterStopping_zones (c : TripCause) : (enterStopping c s).zones = s.zones := by
  unfold enterStopping; split <;> [rfl; (dsimp only; split <;> simp)]
@[simp] theorem enterStopping_freeCount (c : TripCause) : (enterStopping c s).freeCount = s.freeCount := by
  unfold enterStopping; split <;> [rfl; (dsimp only; split <;> simp)]

/-! `judgeStart` writes the pipeline, guard, drums at most. -/
@[simp] theorem judgeStart_pending (d : Drum) (k : Int) : (judgeStart d k s).pending = s.pending := by
  unfold judgeStart; split <;> [rfl; (split <;> simp)]
@[simp] theorem judgeStart_key (d : Drum) (k : Int) : (judgeStart d k s).key = s.key := by
  unfold judgeStart; split <;> [rfl; (split <;> simp)]
@[simp] theorem judgeStart_line (d : Drum) (k : Int) : (judgeStart d k s).line = s.line := by
  unfold judgeStart; split <;> [rfl; (split <;> simp)]
@[simp] theorem judgeStart_tables (d : Drum) (k : Int) : (judgeStart d k s).tables = s.tables := by
  unfold judgeStart; split <;> [rfl; (split <;> simp)]
@[simp] theorem judgeStart_trackers (d : Drum) (k : Int) : (judgeStart d k s).trackers = s.trackers := by
  unfold judgeStart; split <;> [rfl; (split <;> simp)]
@[simp] theorem judgeStart_envelope (d : Drum) (k : Int) : (judgeStart d k s).envelope = s.envelope := by
  unfold judgeStart; split <;> [rfl; (split <;> simp)]
@[simp] theorem judgeStart_protection (d : Drum) (k : Int) : (judgeStart d k s).protection = s.protection := by
  unfold judgeStart; split <;> [rfl; (split <;> simp)]
@[simp] theorem judgeStart_zones (d : Drum) (k : Int) : (judgeStart d k s).zones = s.zones := by
  unfold judgeStart; split <;> [rfl; (split <;> simp)]
@[simp] theorem judgeStart_requests (d : Drum) (k : Int) : (judgeStart d k s).requests = s.requests := by
  unfold judgeStart; split <;> [rfl; (split <;> simp)]
@[simp] theorem judgeStart_freeCount (d : Drum) (k : Int) : (judgeStart d k s).freeCount = s.freeCount := by
  unfold judgeStart; split <;> [rfl; (split <;> simp)]

/-! `judgeCreeping` writes the pipeline, guard at most. -/
@[simp] theorem judgeCreeping_pending : (judgeCreeping s).pending = s.pending := by
  unfold judgeCreeping; split <;> [rfl; (split <;> simp)]
@[simp] theorem judgeCreeping_key : (judgeCreeping s).key = s.key := by
  unfold judgeCreeping; split <;> [rfl; (split <;> simp)]
@[simp] theorem judgeCreeping_line : (judgeCreeping s).line = s.line := by
  unfold judgeCreeping; split <;> [rfl; (split <;> simp)]
@[simp] theorem judgeCreeping_tables : (judgeCreeping s).tables = s.tables := by
  unfold judgeCreeping; split <;> [rfl; (split <;> simp)]
@[simp] theorem judgeCreeping_drums : (judgeCreeping s).drums = s.drums := by
  unfold judgeCreeping; split <;> [rfl; (split <;> simp)]
@[simp] theorem judgeCreeping_trackers : (judgeCreeping s).trackers = s.trackers := by
  unfold judgeCreeping; split <;> [rfl; (split <;> simp)]
@[simp] theorem judgeCreeping_envelope : (judgeCreeping s).envelope = s.envelope := by
  unfold judgeCreeping; split <;> [rfl; (split <;> simp)]
@[simp] theorem judgeCreeping_protection : (judgeCreeping s).protection = s.protection := by
  unfold judgeCreeping; split <;> [rfl; (split <;> simp)]
@[simp] theorem judgeCreeping_zones : (judgeCreeping s).zones = s.zones := by
  unfold judgeCreeping; split <;> [rfl; (split <;> simp)]
@[simp] theorem judgeCreeping_requests : (judgeCreeping s).requests = s.requests := by
  unfold judgeCreeping; split <;> [rfl; (split <;> simp)]
@[simp] theorem judgeCreeping_freeCount : (judgeCreeping s).freeCount = s.freeCount := by
  unfold judgeCreeping; split <;> [rfl; (split <;> simp)]

/-! `judgeSettling` writes the pipeline, guard at most. -/
@[simp] theorem judgeSettling_pending (d : Drum) : (judgeSettling d s).pending = s.pending := by
  unfold judgeSettling; (repeat' split) <;> simp
@[simp] theorem judgeSettling_key (d : Drum) : (judgeSettling d s).key = s.key := by
  unfold judgeSettling; (repeat' split) <;> simp
@[simp] theorem judgeSettling_line (d : Drum) : (judgeSettling d s).line = s.line := by
  unfold judgeSettling; (repeat' split) <;> simp
@[simp] theorem judgeSettling_tables (d : Drum) : (judgeSettling d s).tables = s.tables := by
  unfold judgeSettling; (repeat' split) <;> simp
@[simp] theorem judgeSettling_drums (d : Drum) : (judgeSettling d s).drums = s.drums := by
  unfold judgeSettling; (repeat' split) <;> simp
@[simp] theorem judgeSettling_trackers (d : Drum) : (judgeSettling d s).trackers = s.trackers := by
  unfold judgeSettling; (repeat' split) <;> simp
@[simp] theorem judgeSettling_envelope (d : Drum) : (judgeSettling d s).envelope = s.envelope := by
  unfold judgeSettling; (repeat' split) <;> simp
@[simp] theorem judgeSettling_protection (d : Drum) : (judgeSettling d s).protection = s.protection := by
  unfold judgeSettling; (repeat' split) <;> simp
@[simp] theorem judgeSettling_zones (d : Drum) : (judgeSettling d s).zones = s.zones := by
  unfold judgeSettling; (repeat' split) <;> simp
@[simp] theorem judgeSettling_requests (d : Drum) : (judgeSettling d s).requests = s.requests := by
  unfold judgeSettling; (repeat' split) <;> simp
@[simp] theorem judgeSettling_freeCount (d : Drum) : (judgeSettling d s).freeCount = s.freeCount := by
  unfold judgeSettling; (repeat' split) <;> simp

/-! `pipelineMovement` writes the pipeline, guard, drums at most. -/
@[simp] theorem pipelineMovement_pending (d : Drum) (k : Int) : (pipelineMovement d k s).pending = s.pending := by
  simp [pipelineMovement]
@[simp] theorem pipelineMovement_key (d : Drum) (k : Int) : (pipelineMovement d k s).key = s.key := by
  simp [pipelineMovement]
@[simp] theorem pipelineMovement_line (d : Drum) (k : Int) : (pipelineMovement d k s).line = s.line := by
  simp [pipelineMovement]
@[simp] theorem pipelineMovement_tables (d : Drum) (k : Int) : (pipelineMovement d k s).tables = s.tables := by
  simp [pipelineMovement]
@[simp] theorem pipelineMovement_trackers (d : Drum) (k : Int) : (pipelineMovement d k s).trackers = s.trackers := by
  simp [pipelineMovement]
@[simp] theorem pipelineMovement_envelope (d : Drum) (k : Int) : (pipelineMovement d k s).envelope = s.envelope := by
  simp [pipelineMovement]
@[simp] theorem pipelineMovement_protection (d : Drum) (k : Int) : (pipelineMovement d k s).protection = s.protection := by
  simp [pipelineMovement]
@[simp] theorem pipelineMovement_zones (d : Drum) (k : Int) : (pipelineMovement d k s).zones = s.zones := by
  simp [pipelineMovement]
@[simp] theorem pipelineMovement_requests (d : Drum) (k : Int) : (pipelineMovement d k s).requests = s.requests := by
  simp [pipelineMovement]
@[simp] theorem pipelineMovement_freeCount (d : Drum) (k : Int) : (pipelineMovement d k s).freeCount = s.freeCount := by
  simp [pipelineMovement]

/-! `pipelineLoss` writes the pipeline, guard, line, requests at most. -/
@[simp] theorem pipelineLoss_pending : (pipelineLoss s).pending = s.pending := by
  unfold pipelineLoss; split <;> [rfl; (split <;> simp)]
@[simp] theorem pipelineLoss_key : (pipelineLoss s).key = s.key := by
  unfold pipelineLoss; split <;> [rfl; (split <;> simp)]
@[simp] theorem pipelineLoss_tables : (pipelineLoss s).tables = s.tables := by
  unfold pipelineLoss; split <;> [rfl; (split <;> simp)]
@[simp] theorem pipelineLoss_drums : (pipelineLoss s).drums = s.drums := by
  unfold pipelineLoss; split <;> [rfl; (split <;> simp)]
@[simp] theorem pipelineLoss_trackers : (pipelineLoss s).trackers = s.trackers := by
  unfold pipelineLoss; split <;> [rfl; (split <;> simp)]
@[simp] theorem pipelineLoss_envelope : (pipelineLoss s).envelope = s.envelope := by
  unfold pipelineLoss; split <;> [rfl; (split <;> simp)]
@[simp] theorem pipelineLoss_protection : (pipelineLoss s).protection = s.protection := by
  unfold pipelineLoss; split <;> [rfl; (split <;> simp)]
@[simp] theorem pipelineLoss_zones : (pipelineLoss s).zones = s.zones := by
  unfold pipelineLoss; split <;> [rfl; (split <;> simp)]
@[simp] theorem pipelineLoss_freeCount : (pipelineLoss s).freeCount = s.freeCount := by
  unfold pipelineLoss; split <;> [rfl; (split <;> simp)]

/-! `datumMidTrip` writes the pipeline at most. -/
@[simp] theorem datumMidTrip_pending (c : Conveyance) : (datumMidTrip c s).pending = s.pending := by
  unfold datumMidTrip; split <;> [rfl; (split <;> simp)]
@[simp] theorem datumMidTrip_key (c : Conveyance) : (datumMidTrip c s).key = s.key := by
  unfold datumMidTrip; split <;> [rfl; (split <;> simp)]
@[simp] theorem datumMidTrip_line (c : Conveyance) : (datumMidTrip c s).line = s.line := by
  unfold datumMidTrip; split <;> [rfl; (split <;> simp)]
@[simp] theorem datumMidTrip_tables (c : Conveyance) : (datumMidTrip c s).tables = s.tables := by
  unfold datumMidTrip; split <;> [rfl; (split <;> simp)]
@[simp] theorem datumMidTrip_drums (c : Conveyance) : (datumMidTrip c s).drums = s.drums := by
  unfold datumMidTrip; split <;> [rfl; (split <;> simp)]
@[simp] theorem datumMidTrip_trackers (c : Conveyance) : (datumMidTrip c s).trackers = s.trackers := by
  unfold datumMidTrip; split <;> [rfl; (split <;> simp)]
@[simp] theorem datumMidTrip_envelope (c : Conveyance) : (datumMidTrip c s).envelope = s.envelope := by
  unfold datumMidTrip; split <;> [rfl; (split <;> simp)]
@[simp] theorem datumMidTrip_guard (c : Conveyance) : (datumMidTrip c s).guard = s.guard := by
  unfold datumMidTrip; split <;> [rfl; (split <;> simp)]
@[simp] theorem datumMidTrip_protection (c : Conveyance) : (datumMidTrip c s).protection = s.protection := by
  unfold datumMidTrip; split <;> [rfl; (split <;> simp)]
@[simp] theorem datumMidTrip_zones (c : Conveyance) : (datumMidTrip c s).zones = s.zones := by
  unfold datumMidTrip; split <;> [rfl; (split <;> simp)]
@[simp] theorem datumMidTrip_requests (c : Conveyance) : (datumMidTrip c s).requests = s.requests := by
  unfold datumMidTrip; split <;> [rfl; (split <;> simp)]
@[simp] theorem datumMidTrip_freeCount (c : Conveyance) : (datumMidTrip c s).freeCount = s.freeCount := by
  unfold datumMidTrip; split <;> [rfl; (split <;> simp)]
/-! ### The slots after each operation -/

variable {s}

@[simp] theorem placeRecord_pipeline (r : HistoryRecord) (s : State) :
    (placeRecord r s).pipeline
      = { s.pipeline with history := (r :: s.pipeline.history).take Config.historyRecords } := by
  simp [placeRecord]

@[simp] theorem finishActive_active (o : TripOutcome) (c : Option TripCause) (s : State) :
    (finishActive o c s).pipeline.active = none := by
  unfold finishActive; split
  · assumption
  · simp

@[simp] theorem finishActive_waiting (o : TripOutcome) (c : Option TripCause) (s : State) :
    (finishActive o c s).pipeline.waiting = s.pipeline.waiting := by
  unfold finishActive; split <;> simp

@[simp] theorem finishWaiting_waiting (o : TripOutcome) (c : Option TripCause) (s : State) :
    (finishWaiting o c s).pipeline.waiting = none := by
  unfold finishWaiting; split
  · assumption
  · simp

@[simp] theorem finishWaiting_active (o : TripOutcome) (c : Option TripCause) (s : State) :
    (finishWaiting o c s).pipeline.active = s.pipeline.active := by
  unfold finishWaiting; split <;> simp

@[simp] theorem finishBoth_active (o : TripOutcome) (c : Option TripCause) (s : State) :
    (finishBoth o c s).pipeline.active = none := by simp [finishBoth]

@[simp] theorem finishBoth_waiting (o : TripOutcome) (c : Option TripCause) (s : State) :
    (finishBoth o c s).pipeline.waiting = none := by simp [finishBoth]

@[simp] theorem promote_waiting (s : State) : (promote s).pipeline.waiting = none := by
  unfold promote; split
  · assumption
  · dsimp only; (repeat' split) <;> simp

theorem finishActive_guard (o : TripOutcome) (c : Option TripCause) (s : State) :
    (finishActive o c s).guard
      = if s.pipeline.active.isSome then { s.guard with watch := none, stop := none } else s.guard := by
  unfold finishActive; split <;> simp_all

theorem finishBoth_guard (o : TripOutcome) (c : Option TripCause) (s : State) :
    (finishBoth o c s).guard
      = if s.pipeline.active.isSome then { s.guard with watch := none, stop := none } else s.guard := by
  simp [finishBoth, finishActive_guard]

/-- The history keeps at most two records (R94). -/
theorem placeRecord_history_le (r : HistoryRecord) (s : State) : (placeRecord r s).pipeline.history.length ≤ 2 := by
  simp [Config.historyRecords]

theorem finishActive_history_le (o : TripOutcome) (c : Option TripCause) (s : State)
    (h : s.pipeline.history.length ≤ 2) : (finishActive o c s).pipeline.history.length ≤ 2 := by
  unfold finishActive; split
  · exact h
  · exact placeRecord_history_le _ _

theorem finishWaiting_history_le (o : TripOutcome) (c : Option TripCause) (s : State)
    (h : s.pipeline.history.length ≤ 2) : (finishWaiting o c s).pipeline.history.length ≤ 2 := by
  unfold finishWaiting; split
  · exact h
  · exact placeRecord_history_le _ _

/-! ### The active trip's state -/

theorem enterState_pipeline {t : Trip} (new : TripState) (s : State) (h : s.pipeline.active = some t) :
    (enterState new s).pipeline = { s.pipeline with active := some { t with state := new } } := by
  unfold enterState watchOn
  simp only [h]
  (repeat' split) <;> simp

theorem enterState_none (new : TripState) (s : State) (h : s.pipeline.active = none) : enterState new s = s := by
  simp [enterState, h]

@[simp] theorem datumMidTrip_waiting (c : Conveyance) (s : State) :
    (datumMidTrip c s).pipeline.waiting = s.pipeline.waiting := by
  unfold datumMidTrip; split <;> [rfl; (split <;> simp)]

/-- Distance, target and window of a trip look at the active tables, the trackers and the drums alone. -/
theorem distanceToTarget_congr {s t : State} (trip : Trip) (tables : t.tables.shaft.active = s.tables.shaft.active)
    (trackers : t.trackers = s.trackers) (drums : ∀ d, (channel d t).payout = (channel d s).payout) :
    distanceToTarget trip t = distanceToTarget trip s := by
  simp only [distanceToTarget, travelDone, stopDepthOf, stations, tables, tracker, trackers, drums]

end Sys2Proof.Machine
end

