-- ==== Sys2Proof/Laws/Protective.lean ====
section
/-! SUPPORT. Protective.lean: what an abandonment, a protective trip, a reported cause and the hand-on leave alone, and what they write
(R28, R135 to R138). -/

namespace Sys2Proof.Machine

variable (s : State)

/-! `abandon` writes the tables, line, requests at most. -/
@[simp] theorem abandon_pending (r : AbandonReason) : (abandon r s).pending = s.pending := by
  unfold abandon; split <;> simp
@[simp] theorem abandon_key (r : AbandonReason) : (abandon r s).key = s.key := by
  unfold abandon; split <;> simp
@[simp] theorem abandon_drums (r : AbandonReason) : (abandon r s).drums = s.drums := by
  unfold abandon; split <;> simp
@[simp] theorem abandon_trackers (r : AbandonReason) : (abandon r s).trackers = s.trackers := by
  unfold abandon; split <;> simp
@[simp] theorem abandon_pipeline (r : AbandonReason) : (abandon r s).pipeline = s.pipeline := by
  unfold abandon; split <;> simp
@[simp] theorem abandon_envelope (r : AbandonReason) : (abandon r s).envelope = s.envelope := by
  unfold abandon; split <;> simp
@[simp] theorem abandon_guard (r : AbandonReason) : (abandon r s).guard = s.guard := by
  unfold abandon; split <;> simp
@[simp] theorem abandon_protection (r : AbandonReason) : (abandon r s).protection = s.protection := by
  unfold abandon; split <;> simp
@[simp] theorem abandon_zones (r : AbandonReason) : (abandon r s).zones = s.zones := by
  unfold abandon; split <;> simp
@[simp] theorem abandon_freeCount (r : AbandonReason) : (abandon r s).freeCount = s.freeCount := by
  unfold abandon; split <;> simp

/-! `abandonByMotion` writes the tables, line, requests at most. -/
@[simp] theorem abandonByMotion_pending : (abandonByMotion s).pending = s.pending := by
  unfold abandonByMotion; split <;> simp
@[simp] theorem abandonByMotion_key : (abandonByMotion s).key = s.key := by
  unfold abandonByMotion; split <;> simp
@[simp] theorem abandonByMotion_drums : (abandonByMotion s).drums = s.drums := by
  unfold abandonByMotion; split <;> simp
@[simp] theorem abandonByMotion_trackers : (abandonByMotion s).trackers = s.trackers := by
  unfold abandonByMotion; split <;> simp
@[simp] theorem abandonByMotion_pipeline : (abandonByMotion s).pipeline = s.pipeline := by
  unfold abandonByMotion; split <;> simp
@[simp] theorem abandonByMotion_envelope : (abandonByMotion s).envelope = s.envelope := by
  unfold abandonByMotion; split <;> simp
@[simp] theorem abandonByMotion_guard : (abandonByMotion s).guard = s.guard := by
  unfold abandonByMotion; split <;> simp
@[simp] theorem abandonByMotion_protection : (abandonByMotion s).protection = s.protection := by
  unfold abandonByMotion; split <;> simp
@[simp] theorem abandonByMotion_zones : (abandonByMotion s).zones = s.zones := by
  unfold abandonByMotion; split <;> simp
@[simp] theorem abandonByMotion_freeCount : (abandonByMotion s).freeCount = s.freeCount := by
  unfold abandonByMotion; split <;> simp

/-! `openChain` writes the protection, line, requests at most. -/
@[simp] theorem openChain_pending (c : Cause) : (openChain c s).pending = s.pending := by
  simp [openChain]
@[simp] theorem openChain_key (c : Cause) : (openChain c s).key = s.key := by
  simp [openChain]
@[simp] theorem openChain_tables (c : Cause) : (openChain c s).tables = s.tables := by
  simp [openChain]
@[simp] theorem openChain_drums (c : Cause) : (openChain c s).drums = s.drums := by
  simp [openChain]
@[simp] theorem openChain_trackers (c : Cause) : (openChain c s).trackers = s.trackers := by
  simp [openChain]
@[simp] theorem openChain_pipeline (c : Cause) : (openChain c s).pipeline = s.pipeline := by
  simp [openChain]
@[simp] theorem openChain_envelope (c : Cause) : (openChain c s).envelope = s.envelope := by
  simp [openChain]
@[simp] theorem openChain_guard (c : Cause) : (openChain c s).guard = s.guard := by
  simp [openChain]
@[simp] theorem openChain_zones (c : Cause) : (openChain c s).zones = s.zones := by
  simp [openChain]
@[simp] theorem openChain_freeCount (c : Cause) : (openChain c s).freeCount = s.freeCount := by
  simp [openChain]

/-! `protectiveTrip` writes the protection, guard, pipeline, drums, tables, line, requests at most. -/
@[simp] theorem protectiveTrip_pending (c : Cause) : (protectiveTrip c s).pending = s.pending := by
  simp [protectiveTrip]
@[simp] theorem protectiveTrip_key (c : Cause) : (protectiveTrip c s).key = s.key := by
  simp [protectiveTrip]
@[simp] theorem protectiveTrip_trackers (c : Cause) : (protectiveTrip c s).trackers = s.trackers := by
  simp [protectiveTrip]
@[simp] theorem protectiveTrip_envelope (c : Cause) : (protectiveTrip c s).envelope = s.envelope := by
  simp [protectiveTrip]
@[simp] theorem protectiveTrip_zones (c : Cause) : (protectiveTrip c s).zones = s.zones := by
  simp [protectiveTrip]
@[simp] theorem protectiveTrip_freeCount (c : Cause) : (protectiveTrip c s).freeCount = s.freeCount := by
  simp [protectiveTrip]

/-! `reportCause` writes the protection, guard, pipeline, drums, tables, line, requests at most. -/
@[simp] theorem reportCause_pending (c : Cause) : (reportCause c s).pending = s.pending := by
  unfold reportCause; split <;> simp
@[simp] theorem reportCause_key (c : Cause) : (reportCause c s).key = s.key := by
  unfold reportCause; split <;> simp
@[simp] theorem reportCause_trackers (c : Cause) : (reportCause c s).trackers = s.trackers := by
  unfold reportCause; split <;> simp
@[simp] theorem reportCause_envelope (c : Cause) : (reportCause c s).envelope = s.envelope := by
  unfold reportCause; split <;> simp
@[simp] theorem reportCause_zones (c : Cause) : (reportCause c s).zones = s.zones := by
  unfold reportCause; split <;> simp
@[simp] theorem reportCause_freeCount (c : Cause) : (reportCause c s).freeCount = s.freeCount := by
  unfold reportCause; split <;> simp

/-! `reportIf` writes the protection, guard, pipeline, drums, tables, line, requests at most. -/
@[simp] theorem reportIf_pending (b : Bool) (c : Cause) : (reportIf b c s).pending = s.pending := by
  unfold reportIf; split <;> simp
@[simp] theorem reportIf_key (b : Bool) (c : Cause) : (reportIf b c s).key = s.key := by
  unfold reportIf; split <;> simp
@[simp] theorem reportIf_trackers (b : Bool) (c : Cause) : (reportIf b c s).trackers = s.trackers := by
  unfold reportIf; split <;> simp
@[simp] theorem reportIf_envelope (b : Bool) (c : Cause) : (reportIf b c s).envelope = s.envelope := by
  unfold reportIf; split <;> simp
@[simp] theorem reportIf_zones (b : Bool) (c : Cause) : (reportIf b c s).zones = s.zones := by
  unfold reportIf; split <;> simp
@[simp] theorem reportIf_freeCount (b : Bool) (c : Cause) : (reportIf b c s).freeCount = s.freeCount := by
  unfold reportIf; split <;> simp

/-! `handOn` writes the line, requests, zones, envelope at most. -/
@[simp] theorem handOn_pending : (handOn s).pending = s.pending := by
  simp [handOn]
@[simp] theorem handOn_key : (handOn s).key = s.key := by
  simp [handOn]
@[simp] theorem handOn_tables : (handOn s).tables = s.tables := by
  simp [handOn]
@[simp] theorem handOn_drums : (handOn s).drums = s.drums := by
  simp [handOn]
@[simp] theorem handOn_trackers : (handOn s).trackers = s.trackers := by
  simp [handOn]
@[simp] theorem handOn_pipeline : (handOn s).pipeline = s.pipeline := by
  simp [handOn]
@[simp] theorem handOn_guard : (handOn s).guard = s.guard := by
  simp [handOn]
@[simp] theorem handOn_protection : (handOn s).protection = s.protection := by
  simp [handOn]
@[simp] theorem handOn_freeCount : (handOn s).freeCount = s.freeCount := by
  simp [handOn]
/-! ### What they write -/

variable {s}

@[simp] theorem handOn_holders (s : State) : (handOn s).zones.holders = s.zones.holders := by simp [handOn]

theorem computeEnvelope_congr {s t : State} (state : t.protection.state = s.protection.state)
    (tables : t.tables.shaft.active = s.tables.shaft.active ∧ t.tables.profile.active = s.tables.profile.active)
    (trackers : t.trackers = s.trackers) (active : t.pipeline.active = s.pipeline.active)
    (drums : ∀ d, (channel d t).payout = (channel d s).payout) : computeEnvelope t = computeEnvelope s := by
  have rows (r : Regime) : regimeRow r t = regimeRow r s := by simp only [regimeRow, tables.2]
  have zones : zoneList t = zoneList s := by simp only [zoneList, tables.1]
  have row (c : Conveyance) : compartmentRow c t = compartmentRow c s := by simp only [compartmentRow, tables.1]
  have place (c : Conveyance) : tracker c t = tracker c s := tracker_congr c trackers
  have target (trip : Trip) (c : Conveyance) (row : CompartmentRow) :
      targetDistance trip c row t = targetDistance trip c row s := by
    unfold targetDistance
    rw [place, distanceToTarget_congr trip tables.1 trackers drums]
  have bounds (trip : Trip) (c : Conveyance) (r : RegimeRow) (row : CompartmentRow) :
      constraints trip c r row t = constraints trip c r row s := by
    unfold constraints
    rw [place, zones, target]
  have each (trip : Trip) (r : RegimeRow) : envelopesFor trip r t = envelopesFor trip r s := by
    simp only [envelopesFor, envelopeOf, bounds, row]
  unfold computeEnvelope
  rw [state, active]
  simp only [rows, each]

/-- After a hand-on, P, the envelopes and the thresholds in force are the present ones (R107). -/
theorem handOn_envelope (s : State) : (handOn s).envelope = computeEnvelope (handOn s) := by
  have : (handOn s).envelope = computeEnvelope s := by simp [handOn]
  rw [this]
  exact (computeEnvelope_congr (by simp) (by simp) (by simp) (by simp)
    (fun d => congrArg Channel.payout (channel_congr d (handOn_drums s)))).symm

theorem abandon_active (r : AbandonReason) (b : TableId) (s : State) :
    (bank b (abandon r s)).active = (bank b s).active ∧ (bank b (abandon r s)).shadow = (bank b s).shadow := by
  unfold abandon; split
  · rw [bank_congr b (setFlag_tables _ _)]; cases b <;> exact ⟨rfl, rfl⟩
  · exact ⟨rfl, rfl⟩

theorem abandon_markers (r : AbandonReason) (s : State) : (abandon r s).tables.markers = s.tables.markers := by
  unfold abandon; split
  · rw [setFlag_tables]; rfl
  · rfl

theorem reportCause_noTables (c : Cause) (h : s.protection.state = .noTables) : reportCause c s = s := by
  simp [reportCause, h]

theorem reportCause_tripped (c : Cause) (h : s.protection.state = .tripped) : reportCause c s = addCause c s := by
  simp [reportCause, h]

theorem reportCause_takes (c : Cause) (h : s.protection.state = .undatumed ∨ s.protection.state = .armed) :
    reportCause c s = protectiveTrip c s := by
  rcases h with h | h <;> simp [reportCause, h]

/-- Of the drums, a reported cause writes the drift accumulator at most. -/
theorem reportCause_drums (c : Cause) (s : State) :
    (reportCause c s).drums = { s.drums with drift := (reportCause c s).drums.drift } := by
  unfold reportCause; split <;> simp [protectiveTrip]

theorem reportCause_channel (c : Cause) (d : Drum) (s : State) : channel d (reportCause c s) = channel d s := by
  cases d <;> simp only [channel] <;> rw [reportCause_drums]

/-- A reported cause leaves the banks' rows and the marker records as they are. -/
theorem reportCause_rows (c : Cause) (b : TableId) (s : State) :
    (bank b (reportCause c s)).active = (bank b s).active ∧ (bank b (reportCause c s)).shadow = (bank b s).shadow
      ∧ (reportCause c s).tables.markers = s.tables.markers := by
  unfold reportCause
  split
  · exact ⟨rfl, rfl, rfl⟩
  · unfold protectiveTrip
    exact ⟨by rw [(abandon_active _ _ _).1]; exact congrArg Bank.active (bank_congr b (by simp)),
      by rw [(abandon_active _ _ _).2]; exact congrArg Bank.shadow (bank_congr b (by simp)),
      by rw [abandon_markers]; simp⟩
  · unfold protectiveTrip
    exact ⟨by rw [(abandon_active _ _ _).1]; exact congrArg Bank.active (bank_congr b (by simp)),
      by rw [(abandon_active _ _ _).2]; exact congrArg Bank.shadow (bank_congr b (by simp)),
      by rw [abandon_markers]; simp⟩
  · exact ⟨congrArg Bank.active (bank_congr b (by simp)), congrArg Bank.shadow (bank_congr b (by simp)), by simp⟩

theorem cause_index_lt (c : Cause) : c.index < 12 := by cases c <;> decide

theorem cause_index_injective {c d : Cause} (h : c.index = d.index) : c = d := by
  cases c <;> cases d <;> first | rfl | exact absurd h (by decide)

theorem causeBit_getLsbD (c d : Cause) : (causeBit c).getLsbD d.index = decide (d = c) := by
  cases c <;> cases d <;> decide

end Sys2Proof.Machine
end

