-- ==== Sys2Proof/Laws/Tracking.lean ====
section
/-! SUPPORT. Tracking.lean: what the trackers' shared operations leave alone, and what datum's search finds (R54 to R69). -/

namespace Sys2Proof.Machine

variable (s : State)

/-! `searchAfresh` writes the trackers at most. -/
@[simp] theorem searchAfresh_pending (c : Conveyance) : (searchAfresh c s).pending = s.pending := by
  simp [searchAfresh]
@[simp] theorem searchAfresh_key (c : Conveyance) : (searchAfresh c s).key = s.key := by
  simp [searchAfresh]
@[simp] theorem searchAfresh_line (c : Conveyance) : (searchAfresh c s).line = s.line := by
  simp [searchAfresh]
@[simp] theorem searchAfresh_tables (c : Conveyance) : (searchAfresh c s).tables = s.tables := by
  simp [searchAfresh]
@[simp] theorem searchAfresh_drums (c : Conveyance) : (searchAfresh c s).drums = s.drums := by
  simp [searchAfresh]
@[simp] theorem searchAfresh_pipeline (c : Conveyance) : (searchAfresh c s).pipeline = s.pipeline := by
  simp [searchAfresh]
@[simp] theorem searchAfresh_envelope (c : Conveyance) : (searchAfresh c s).envelope = s.envelope := by
  simp [searchAfresh]
@[simp] theorem searchAfresh_guard (c : Conveyance) : (searchAfresh c s).guard = s.guard := by
  simp [searchAfresh]
@[simp] theorem searchAfresh_protection (c : Conveyance) : (searchAfresh c s).protection = s.protection := by
  simp [searchAfresh]
@[simp] theorem searchAfresh_zones (c : Conveyance) : (searchAfresh c s).zones = s.zones := by
  simp [searchAfresh]
@[simp] theorem searchAfresh_requests (c : Conveyance) : (searchAfresh c s).requests = s.requests := by
  simp [searchAfresh]
@[simp] theorem searchAfresh_freeCount (c : Conveyance) : (searchAfresh c s).freeCount = s.freeCount := by
  simp [searchAfresh]

/-! `advanceBeyond` writes the trackers at most. -/
@[simp] theorem advanceBeyond_pending (c : Conveyance) (d : Int) : (advanceBeyond c d s).pending = s.pending := by
  simp [advanceBeyond]
@[simp] theorem advanceBeyond_key (c : Conveyance) (d : Int) : (advanceBeyond c d s).key = s.key := by
  simp [advanceBeyond]
@[simp] theorem advanceBeyond_line (c : Conveyance) (d : Int) : (advanceBeyond c d s).line = s.line := by
  simp [advanceBeyond]
@[simp] theorem advanceBeyond_tables (c : Conveyance) (d : Int) : (advanceBeyond c d s).tables = s.tables := by
  simp [advanceBeyond]
@[simp] theorem advanceBeyond_drums (c : Conveyance) (d : Int) : (advanceBeyond c d s).drums = s.drums := by
  simp [advanceBeyond]
@[simp] theorem advanceBeyond_pipeline (c : Conveyance) (d : Int) : (advanceBeyond c d s).pipeline = s.pipeline := by
  simp [advanceBeyond]
@[simp] theorem advanceBeyond_envelope (c : Conveyance) (d : Int) : (advanceBeyond c d s).envelope = s.envelope := by
  simp [advanceBeyond]
@[simp] theorem advanceBeyond_guard (c : Conveyance) (d : Int) : (advanceBeyond c d s).guard = s.guard := by
  simp [advanceBeyond]
@[simp] theorem advanceBeyond_protection (c : Conveyance) (d : Int) : (advanceBeyond c d s).protection = s.protection := by
  simp [advanceBeyond]
@[simp] theorem advanceBeyond_zones (c : Conveyance) (d : Int) : (advanceBeyond c d s).zones = s.zones := by
  simp [advanceBeyond]
@[simp] theorem advanceBeyond_requests (c : Conveyance) (d : Int) : (advanceBeyond c d s).requests = s.requests := by
  simp [advanceBeyond]
@[simp] theorem advanceBeyond_freeCount (c : Conveyance) (d : Int) : (advanceBeyond c d s).freeCount = s.freeCount := by
  simp [advanceBeyond]

/-! `takeMiss` writes the protection, guard, pipeline, drums, tables, line, requests, trackers at most. -/
@[simp] theorem takeMiss_pending (c : Conveyance) (i : Nat) : (takeMiss c i s).pending = s.pending := by
  unfold takeMiss; dsimp only; (repeat' split) <;> simp
@[simp] theorem takeMiss_key (c : Conveyance) (i : Nat) : (takeMiss c i s).key = s.key := by
  unfold takeMiss; dsimp only; (repeat' split) <;> simp
@[simp] theorem takeMiss_envelope (c : Conveyance) (i : Nat) : (takeMiss c i s).envelope = s.envelope := by
  unfold takeMiss; dsimp only; (repeat' split) <;> simp
@[simp] theorem takeMiss_zones (c : Conveyance) (i : Nat) : (takeMiss c i s).zones = s.zones := by
  unfold takeMiss; dsimp only; (repeat' split) <;> simp
@[simp] theorem takeMiss_freeCount (c : Conveyance) (i : Nat) : (takeMiss c i s).freeCount = s.freeCount := by
  unfold takeMiss; dsimp only; (repeat' split) <;> simp

/-! `missCheck` writes the protection, guard, pipeline, drums, tables, line, requests, trackers at most. -/
@[simp] theorem missCheck_pending (c : Conveyance) (n : Nat) : (missCheck c n s).pending = s.pending := by
  induction n generalizing s with
  | zero => rfl
  | succ n ih => unfold missCheck; split <;> simp [ih]
@[simp] theorem missCheck_key (c : Conveyance) (n : Nat) : (missCheck c n s).key = s.key := by
  induction n generalizing s with
  | zero => rfl
  | succ n ih => unfold missCheck; split <;> simp [ih]
@[simp] theorem missCheck_envelope (c : Conveyance) (n : Nat) : (missCheck c n s).envelope = s.envelope := by
  induction n generalizing s with
  | zero => rfl
  | succ n ih => unfold missCheck; split <;> simp [ih]
@[simp] theorem missCheck_zones (c : Conveyance) (n : Nat) : (missCheck c n s).zones = s.zones := by
  induction n generalizing s with
  | zero => rfl
  | succ n ih => unfold missCheck; split <;> simp [ih]
@[simp] theorem missCheck_freeCount (c : Conveyance) (n : Nat) : (missCheck c n s).freeCount = s.freeCount := by
  induction n generalizing s with
  | zero => rfl
  | succ n ih => unfold missCheck; split <;> simp [ih]

/-! `checkMisses` writes the protection, guard, pipeline, drums, tables, line, requests, trackers at most. -/
@[simp] theorem checkMisses_pending (c : Conveyance) : (checkMisses c s).pending = s.pending := by
  simp [checkMisses]
@[simp] theorem checkMisses_key (c : Conveyance) : (checkMisses c s).key = s.key := by
  simp [checkMisses]
@[simp] theorem checkMisses_envelope (c : Conveyance) : (checkMisses c s).envelope = s.envelope := by
  simp [checkMisses]
@[simp] theorem checkMisses_zones (c : Conveyance) : (checkMisses c s).zones = s.zones := by
  simp [checkMisses]
@[simp] theorem checkMisses_freeCount (c : Conveyance) : (checkMisses c s).freeCount = s.freeCount := by
  simp [checkMisses]

/-! `checkOverwind` writes the protection, guard, pipeline, drums, tables, line, requests at most. -/
@[simp] theorem checkOverwind_pending (c : Conveyance) : (checkOverwind c s).pending = s.pending := by
  simp [checkOverwind]
@[simp] theorem checkOverwind_key (c : Conveyance) : (checkOverwind c s).key = s.key := by
  simp [checkOverwind]
@[simp] theorem checkOverwind_trackers (c : Conveyance) : (checkOverwind c s).trackers = s.trackers := by
  simp [checkOverwind]
@[simp] theorem checkOverwind_envelope (c : Conveyance) : (checkOverwind c s).envelope = s.envelope := by
  simp [checkOverwind]
@[simp] theorem checkOverwind_zones (c : Conveyance) : (checkOverwind c s).zones = s.zones := by
  simp [checkOverwind]
@[simp] theorem checkOverwind_freeCount (c : Conveyance) : (checkOverwind c s).freeCount = s.freeCount := by
  simp [checkOverwind]

/-! `checkSlack` writes the protection, guard, pipeline, drums, tables, line, requests at most. -/
@[simp] theorem checkSlack_pending (c : Conveyance) : (checkSlack c s).pending = s.pending := by
  simp [checkSlack]
@[simp] theorem checkSlack_key (c : Conveyance) : (checkSlack c s).key = s.key := by
  simp [checkSlack]
@[simp] theorem checkSlack_trackers (c : Conveyance) : (checkSlack c s).trackers = s.trackers := by
  simp [checkSlack]
@[simp] theorem checkSlack_envelope (c : Conveyance) : (checkSlack c s).envelope = s.envelope := by
  simp [checkSlack]
@[simp] theorem checkSlack_zones (c : Conveyance) : (checkSlack c s).zones = s.zones := by
  simp [checkSlack]
@[simp] theorem checkSlack_freeCount (c : Conveyance) : (checkSlack c s).freeCount = s.freeCount := by
  simp [checkSlack]

/-! `depthChecks` writes the protection, guard, pipeline, drums, tables, line, requests, trackers at most. -/
@[simp] theorem depthChecks_pending (c : Conveyance) : (depthChecks c s).pending = s.pending := by
  unfold depthChecks; split <;> simp
@[simp] theorem depthChecks_key (c : Conveyance) : (depthChecks c s).key = s.key := by
  unfold depthChecks; split <;> simp
@[simp] theorem depthChecks_envelope (c : Conveyance) : (depthChecks c s).envelope = s.envelope := by
  unfold depthChecks; split <;> simp
@[simp] theorem depthChecks_zones (c : Conveyance) : (depthChecks c s).zones = s.zones := by
  unfold depthChecks; split <;> simp
@[simp] theorem depthChecks_freeCount (c : Conveyance) : (depthChecks c s).freeCount = s.freeCount := by
  unfold depthChecks; split <;> simp

/-! `followOn` writes the protection, guard, pipeline, drums, tables, line, requests, trackers at most. -/
@[simp] theorem followOn_pending (c : Conveyance) (b : Int) : (followOn c b s).pending = s.pending := by
  unfold followOn; split <;> simp
@[simp] theorem followOn_key (c : Conveyance) (b : Int) : (followOn c b s).key = s.key := by
  unfold followOn; split <;> simp
@[simp] theorem followOn_envelope (c : Conveyance) (b : Int) : (followOn c b s).envelope = s.envelope := by
  unfold followOn; split <;> simp
@[simp] theorem followOn_zones (c : Conveyance) (b : Int) : (followOn c b s).zones = s.zones := by
  unfold followOn; split <;> simp
@[simp] theorem followOn_freeCount (c : Conveyance) (b : Int) : (followOn c b s).freeCount = s.freeCount := by
  unfold followOn; split <;> simp

/-! `takeDirection` writes the trackers at most. -/
@[simp] theorem takeDirection_pending (c : Conveyance) : (takeDirection c s).pending = s.pending := by
  unfold takeDirection; dsimp only; (repeat' split) <;> simp
@[simp] theorem takeDirection_key (c : Conveyance) : (takeDirection c s).key = s.key := by
  unfold takeDirection; dsimp only; (repeat' split) <;> simp
@[simp] theorem takeDirection_line (c : Conveyance) : (takeDirection c s).line = s.line := by
  unfold takeDirection; dsimp only; (repeat' split) <;> simp
@[simp] theorem takeDirection_tables (c : Conveyance) : (takeDirection c s).tables = s.tables := by
  unfold takeDirection; dsimp only; (repeat' split) <;> simp
@[simp] theorem takeDirection_drums (c : Conveyance) : (takeDirection c s).drums = s.drums := by
  unfold takeDirection; dsimp only; (repeat' split) <;> simp
@[simp] theorem takeDirection_pipeline (c : Conveyance) : (takeDirection c s).pipeline = s.pipeline := by
  unfold takeDirection; dsimp only; (repeat' split) <;> simp
@[simp] theorem takeDirection_envelope (c : Conveyance) : (takeDirection c s).envelope = s.envelope := by
  unfold takeDirection; dsimp only; (repeat' split) <;> simp
@[simp] theorem takeDirection_guard (c : Conveyance) : (takeDirection c s).guard = s.guard := by
  unfold takeDirection; dsimp only; (repeat' split) <;> simp
@[simp] theorem takeDirection_protection (c : Conveyance) : (takeDirection c s).protection = s.protection := by
  unfold takeDirection; dsimp only; (repeat' split) <;> simp
@[simp] theorem takeDirection_zones (c : Conveyance) : (takeDirection c s).zones = s.zones := by
  unfold takeDirection; dsimp only; (repeat' split) <;> simp
@[simp] theorem takeDirection_requests (c : Conveyance) : (takeDirection c s).requests = s.requests := by
  unfold takeDirection; dsimp only; (repeat' split) <;> simp
@[simp] theorem takeDirection_freeCount (c : Conveyance) : (takeDirection c s).freeCount = s.freeCount := by
  unfold takeDirection; dsimp only; (repeat' split) <;> simp

/-! `trackMovement` writes the protection, guard, pipeline, drums, tables, line, requests, trackers at most. -/
@[simp] theorem trackMovement_pending (c : Conveyance) : (trackMovement c s).pending = s.pending := by
  simp [trackMovement]
@[simp] theorem trackMovement_key (c : Conveyance) : (trackMovement c s).key = s.key := by
  simp [trackMovement]
@[simp] theorem trackMovement_envelope (c : Conveyance) : (trackMovement c s).envelope = s.envelope := by
  simp [trackMovement]
@[simp] theorem trackMovement_zones (c : Conveyance) : (trackMovement c s).zones = s.zones := by
  simp [trackMovement]
@[simp] theorem trackMovement_freeCount (c : Conveyance) : (trackMovement c s).freeCount = s.freeCount := by
  simp [trackMovement]

/-! `trackDrum` writes the protection, guard, pipeline, drums, tables, line, requests, trackers at most. -/
@[simp] theorem trackDrum_pending (d : Drum) : (trackDrum d s).pending = s.pending := by
  unfold trackDrum; split <;> simp
@[simp] theorem trackDrum_key (d : Drum) : (trackDrum d s).key = s.key := by
  unfold trackDrum; split <;> simp
@[simp] theorem trackDrum_envelope (d : Drum) : (trackDrum d s).envelope = s.envelope := by
  unfold trackDrum; split <;> simp
@[simp] theorem trackDrum_zones (d : Drum) : (trackDrum d s).zones = s.zones := by
  unfold trackDrum; split <;> simp
@[simp] theorem trackDrum_freeCount (d : Drum) : (trackDrum d s).freeCount = s.freeCount := by
  unfold trackDrum; split <;> simp

/-! `takeDatum` writes the protection, guard, pipeline, drums, tables, line, requests, trackers at most. -/
@[simp] theorem takeDatum_pending (c : Conveyance) (d : Int) : (takeDatum c d s).pending = s.pending := by
  unfold takeDatum; split <;> simp
@[simp] theorem takeDatum_key (c : Conveyance) (d : Int) : (takeDatum c d s).key = s.key := by
  unfold takeDatum; split <;> simp
@[simp] theorem takeDatum_envelope (c : Conveyance) (d : Int) : (takeDatum c d s).envelope = s.envelope := by
  unfold takeDatum; split <;> simp
@[simp] theorem takeDatum_zones (c : Conveyance) (d : Int) : (takeDatum c d s).zones = s.zones := by
  unfold takeDatum; split <;> simp
@[simp] theorem takeDatum_freeCount (c : Conveyance) (d : Int) : (takeDatum c d s).freeCount = s.freeCount := by
  unfold takeDatum; split <;> simp

/-! `armIfDatumed` writes the protection, line, requests at most. -/
@[simp] theorem armIfDatumed_pending : (armIfDatumed s).pending = s.pending := by
  unfold armIfDatumed; split <;> simp
@[simp] theorem armIfDatumed_key : (armIfDatumed s).key = s.key := by
  unfold armIfDatumed; split <;> simp
@[simp] theorem armIfDatumed_tables : (armIfDatumed s).tables = s.tables := by
  unfold armIfDatumed; split <;> simp
@[simp] theorem armIfDatumed_drums : (armIfDatumed s).drums = s.drums := by
  unfold armIfDatumed; split <;> simp
@[simp] theorem armIfDatumed_trackers : (armIfDatumed s).trackers = s.trackers := by
  unfold armIfDatumed; split <;> simp
@[simp] theorem armIfDatumed_pipeline : (armIfDatumed s).pipeline = s.pipeline := by
  unfold armIfDatumed; split <;> simp
@[simp] theorem armIfDatumed_envelope : (armIfDatumed s).envelope = s.envelope := by
  unfold armIfDatumed; split <;> simp
@[simp] theorem armIfDatumed_guard : (armIfDatumed s).guard = s.guard := by
  unfold armIfDatumed; split <;> simp
@[simp] theorem armIfDatumed_zones : (armIfDatumed s).zones = s.zones := by
  unfold armIfDatumed; split <;> simp
@[simp] theorem armIfDatumed_freeCount : (armIfDatumed s).freeCount = s.freeCount := by
  unfold armIfDatumed; split <;> simp

/-! `satisfy` writes the protection, guard, pipeline, drums, tables, line, requests, trackers at most. -/
@[simp] theorem satisfy_pending (c : Conveyance) (i : Nat) (d : Int) : (satisfy c i d s).pending = s.pending := by
  unfold satisfy; split <;> simp
@[simp] theorem satisfy_key (c : Conveyance) (i : Nat) (d : Int) : (satisfy c i d s).key = s.key := by
  unfold satisfy; split <;> simp
@[simp] theorem satisfy_envelope (c : Conveyance) (i : Nat) (d : Int) : (satisfy c i d s).envelope = s.envelope := by
  unfold satisfy; split <;> simp
@[simp] theorem satisfy_zones (c : Conveyance) (i : Nat) (d : Int) : (satisfy c i d s).zones = s.zones := by
  unfold satisfy; split <;> simp
@[simp] theorem satisfy_freeCount (c : Conveyance) (i : Nat) (d : Int) : (satisfy c i d s).freeCount = s.freeCount := by
  unfold satisfy; split <;> simp

/-! `makeSync` writes the trackers, requests at most. -/
@[simp] theorem makeSync_pending (c : Conveyance) (d : Int) : (makeSync c d s).pending = s.pending := by
  simp [makeSync]
@[simp] theorem makeSync_key (c : Conveyance) (d : Int) : (makeSync c d s).key = s.key := by
  simp [makeSync]
@[simp] theorem makeSync_line (c : Conveyance) (d : Int) : (makeSync c d s).line = s.line := by
  simp [makeSync]
@[simp] theorem makeSync_tables (c : Conveyance) (d : Int) : (makeSync c d s).tables = s.tables := by
  simp [makeSync]
@[simp] theorem makeSync_drums (c : Conveyance) (d : Int) : (makeSync c d s).drums = s.drums := by
  simp [makeSync]
@[simp] theorem makeSync_pipeline (c : Conveyance) (d : Int) : (makeSync c d s).pipeline = s.pipeline := by
  simp [makeSync]
@[simp] theorem makeSync_envelope (c : Conveyance) (d : Int) : (makeSync c d s).envelope = s.envelope := by
  simp [makeSync]
@[simp] theorem makeSync_guard (c : Conveyance) (d : Int) : (makeSync c d s).guard = s.guard := by
  simp [makeSync]
@[simp] theorem makeSync_protection (c : Conveyance) (d : Int) : (makeSync c d s).protection = s.protection := by
  simp [makeSync]
@[simp] theorem makeSync_zones (c : Conveyance) (d : Int) : (makeSync c d s).zones = s.zones := by
  simp [makeSync]
@[simp] theorem makeSync_freeCount (c : Conveyance) (d : Int) : (makeSync c d s).freeCount = s.freeCount := by
  simp [makeSync]

/-! `expectAfterSync` writes the trackers at most. -/
@[simp] theorem expectAfterSync_pending (c : Conveyance) (i : Nat) (d : Int) : (expectAfterSync c i d s).pending = s.pending := by
  unfold expectAfterSync; split <;> simp
@[simp] theorem expectAfterSync_key (c : Conveyance) (i : Nat) (d : Int) : (expectAfterSync c i d s).key = s.key := by
  unfold expectAfterSync; split <;> simp
@[simp] theorem expectAfterSync_line (c : Conveyance) (i : Nat) (d : Int) : (expectAfterSync c i d s).line = s.line := by
  unfold expectAfterSync; split <;> simp
@[simp] theorem expectAfterSync_tables (c : Conveyance) (i : Nat) (d : Int) : (expectAfterSync c i d s).tables = s.tables := by
  unfold expectAfterSync; split <;> simp
@[simp] theorem expectAfterSync_drums (c : Conveyance) (i : Nat) (d : Int) : (expectAfterSync c i d s).drums = s.drums := by
  unfold expectAfterSync; split <;> simp
@[simp] theorem expectAfterSync_pipeline (c : Conveyance) (i : Nat) (d : Int) : (expectAfterSync c i d s).pipeline = s.pipeline := by
  unfold expectAfterSync; split <;> simp
@[simp] theorem expectAfterSync_envelope (c : Conveyance) (i : Nat) (d : Int) : (expectAfterSync c i d s).envelope = s.envelope := by
  unfold expectAfterSync; split <;> simp
@[simp] theorem expectAfterSync_guard (c : Conveyance) (i : Nat) (d : Int) : (expectAfterSync c i d s).guard = s.guard := by
  unfold expectAfterSync; split <;> simp
@[simp] theorem expectAfterSync_protection (c : Conveyance) (i : Nat) (d : Int) : (expectAfterSync c i d s).protection = s.protection := by
  unfold expectAfterSync; split <;> simp
@[simp] theorem expectAfterSync_zones (c : Conveyance) (i : Nat) (d : Int) : (expectAfterSync c i d s).zones = s.zones := by
  unfold expectAfterSync; split <;> simp
@[simp] theorem expectAfterSync_requests (c : Conveyance) (i : Nat) (d : Int) : (expectAfterSync c i d s).requests = s.requests := by
  unfold expectAfterSync; split <;> simp
@[simp] theorem expectAfterSync_freeCount (c : Conveyance) (i : Nat) (d : Int) : (expectAfterSync c i d s).freeCount = s.freeCount := by
  unfold expectAfterSync; split <;> simp

/-! `checkPair` writes the protection, guard, pipeline, drums, tables, line, requests at most. -/
@[simp] theorem checkPair_pending (c : Conveyance) : (checkPair c s).pending = s.pending := by
  simp [checkPair]
@[simp] theorem checkPair_key (c : Conveyance) : (checkPair c s).key = s.key := by
  simp [checkPair]
@[simp] theorem checkPair_trackers (c : Conveyance) : (checkPair c s).trackers = s.trackers := by
  simp [checkPair]
@[simp] theorem checkPair_envelope (c : Conveyance) : (checkPair c s).envelope = s.envelope := by
  simp [checkPair]
@[simp] theorem checkPair_zones (c : Conveyance) : (checkPair c s).zones = s.zones := by
  simp [checkPair]
@[simp] theorem checkPair_freeCount (c : Conveyance) : (checkPair c s).freeCount = s.freeCount := by
  simp [checkPair]

/-! `afterRead` writes the protection, guard, pipeline, drums, tables, line, requests, trackers at most. -/
@[simp] theorem afterRead_pending (c : Conveyance) (b : Int) : (afterRead c b s).pending = s.pending := by
  unfold afterRead; split <;> simp
@[simp] theorem afterRead_key (c : Conveyance) (b : Int) : (afterRead c b s).key = s.key := by
  unfold afterRead; split <;> simp
@[simp] theorem afterRead_envelope (c : Conveyance) (b : Int) : (afterRead c b s).envelope = s.envelope := by
  unfold afterRead; split <;> simp
@[simp] theorem afterRead_zones (c : Conveyance) (b : Int) : (afterRead c b s).zones = s.zones := by
  unfold afterRead; split <;> simp
@[simp] theorem afterRead_freeCount (c : Conveyance) (b : Int) : (afterRead c b s).freeCount = s.freeCount := by
  unfold afterRead; split <;> simp

/-! `judgeSync` writes the protection, guard, pipeline, drums, tables, line, requests, trackers at most. -/
@[simp] theorem judgeSync_pending (c : Conveyance) (i : Nat) (m : MarkerRow) : (judgeSync c i m s).pending = s.pending := by
  unfold judgeSync; split <;> [rfl; (dsimp only; split <;> simp)]
@[simp] theorem judgeSync_key (c : Conveyance) (i : Nat) (m : MarkerRow) : (judgeSync c i m s).key = s.key := by
  unfold judgeSync; split <;> [rfl; (dsimp only; split <;> simp)]
@[simp] theorem judgeSync_envelope (c : Conveyance) (i : Nat) (m : MarkerRow) : (judgeSync c i m s).envelope = s.envelope := by
  unfold judgeSync; split <;> [rfl; (dsimp only; split <;> simp)]
@[simp] theorem judgeSync_zones (c : Conveyance) (i : Nat) (m : MarkerRow) : (judgeSync c i m s).zones = s.zones := by
  unfold judgeSync; split <;> [rfl; (dsimp only; split <;> simp)]
@[simp] theorem judgeSync_freeCount (c : Conveyance) (i : Nat) (m : MarkerRow) : (judgeSync c i m s).freeCount = s.freeCount := by
  unfold judgeSync; split <;> [rfl; (dsimp only; split <;> simp)]

/-! `takeOwnRead` writes the protection, guard, pipeline, drums, tables, line, requests, trackers, zones, envelope at most. -/
@[simp] theorem takeOwnRead_pending (c : Conveyance) (i : Nat) (m : MarkerRow) (g : Bool) : (takeOwnRead c i m g s).pending = s.pending := by
  unfold takeOwnRead; (repeat' split) <;> simp
@[simp] theorem takeOwnRead_key (c : Conveyance) (i : Nat) (m : MarkerRow) (g : Bool) : (takeOwnRead c i m g s).key = s.key := by
  unfold takeOwnRead; (repeat' split) <;> simp
@[simp] theorem takeOwnRead_freeCount (c : Conveyance) (i : Nat) (m : MarkerRow) (g : Bool) : (takeOwnRead c i m g s).freeCount = s.freeCount := by
  unfold takeOwnRead; (repeat' split) <;> simp

/-! `observeMarker` writes the protection, guard, pipeline, drums, tables, line, requests, trackers, zones, envelope at most. -/
@[simp] theorem observeMarker_pending (r : MarkerRead) : (observeMarker r s).pending = s.pending := by
  unfold observeMarker; split <;> [simp; (split <;> simp)]
@[simp] theorem observeMarker_key (r : MarkerRead) : (observeMarker r s).key = s.key := by
  unfold observeMarker; split <;> [simp; (split <;> simp)]
@[simp] theorem observeMarker_freeCount (r : MarkerRead) : (observeMarker r s).freeCount = s.freeCount := by
  unfold observeMarker; split <;> [simp; (split <;> simp)]

/-! `observeLoad` writes the protection, guard, pipeline, drums, tables, line, requests, trackers, zones, envelope at most. -/
@[simp] theorem observeLoad_pending (r : LoadReport) : (observeLoad r s).pending = s.pending := by
  simp [observeLoad]
@[simp] theorem observeLoad_key (r : LoadReport) : (observeLoad r s).key = s.key := by
  simp [observeLoad]
@[simp] theorem observeLoad_freeCount (r : LoadReport) : (observeLoad r s).freeCount = s.freeCount := by
  simp [observeLoad]
/-! ### The search for a base depth (R58) -/

/-- The search returns a value that passes, at least the first one, when the first one passes. -/
theorem largestPassing_passes (test : Int → Bool) (n : Nat) (lo : Int) (h : test lo = true) :
    test (largestPassing test n lo) = true ∧ lo ≤ largestPassing test n lo := by
  induction n generalizing lo with
  | zero => exact ⟨h, le_refl _⟩
  | succ n ih =>
    unfold largestPassing
    split
    · next up =>
      have := ih (lo + 2 ^ n) up
      have : (0 : Int) < 2 ^ n := by positivity
      exact ⟨(ih _ up).1, by omega⟩
    · exact ih lo h

/-- Nothing from the found value up to the end of the range passes, for a test that fails for good once it fails. -/
theorem largestPassing_largest (test : Int → Bool) (once : ∀ a b, a ≤ b → test b = true → test a = true) (n : Nat)
    (lo b : Int) (above : largestPassing test n lo < b) (below : b < lo + 2 ^ n) : test b = false := by
  induction n generalizing lo with
  | zero => simp [largestPassing] at above below; omega
  | succ n ih =>
    have double : (2 : Int) ^ (n + 1) = 2 ^ n + 2 ^ n := by ring
    unfold largestPassing at above
    split at above
    · exact ih _ above (by omega)
    · next down =>
      by_cases h : b < lo + 2 ^ n
      · exact ih _ above h
      · by_contra pass
        exact down (once (lo + 2 ^ n) b (by omega) (by simpa using pass))

/-- Stretch does not fall as the base depth grows (R8). -/
theorem stretchAt_mono (row : CompartmentRow) (load : Nat) {a b : Int} (h : a ≤ b) :
    stretchAt row load a ≤ stretchAt row load b := by
  unfold stretchAt hangingLength
  have : ((a + row.sheaveHeight) / 1000).toNat ≤ ((b + row.sheaveHeight) / 1000).toNat :=
    Int.toNat_le_toNat (Int.ediv_le_ediv (by norm_num) (by omega))
  exact Nat.div_le_div_right (Nat.mul_le_mul_right _ (Nat.mul_le_mul_right _ this))

end Sys2Proof.Machine
end

