-- ==== Sys2Proof/Laws/Drums.lean ====
section
/-! SUPPORT. Drums.lean: what the Drum Stream Monitor's shared operations leave alone (R35 to R50). -/

namespace Sys2Proof.Machine

variable (s : State)

/-! `noteRest` writes the drums at most. -/
@[simp] theorem noteRest_pending (b : Bool) : (noteRest b s).pending = s.pending := by
  unfold noteRest; split <;> simp
@[simp] theorem noteRest_key (b : Bool) : (noteRest b s).key = s.key := by
  unfold noteRest; split <;> simp
@[simp] theorem noteRest_line (b : Bool) : (noteRest b s).line = s.line := by
  unfold noteRest; split <;> simp
@[simp] theorem noteRest_tables (b : Bool) : (noteRest b s).tables = s.tables := by
  unfold noteRest; split <;> simp
@[simp] theorem noteRest_trackers (b : Bool) : (noteRest b s).trackers = s.trackers := by
  unfold noteRest; split <;> simp
@[simp] theorem noteRest_pipeline (b : Bool) : (noteRest b s).pipeline = s.pipeline := by
  unfold noteRest; split <;> simp
@[simp] theorem noteRest_envelope (b : Bool) : (noteRest b s).envelope = s.envelope := by
  unfold noteRest; split <;> simp
@[simp] theorem noteRest_guard (b : Bool) : (noteRest b s).guard = s.guard := by
  unfold noteRest; split <;> simp
@[simp] theorem noteRest_protection (b : Bool) : (noteRest b s).protection = s.protection := by
  unfold noteRest; split <;> simp
@[simp] theorem noteRest_zones (b : Bool) : (noteRest b s).zones = s.zones := by
  unfold noteRest; split <;> simp
@[simp] theorem noteRest_requests (b : Bool) : (noteRest b s).requests = s.requests := by
  unfold noteRest; split <;> simp
@[simp] theorem noteRest_freeCount (b : Bool) : (noteRest b s).freeCount = s.freeCount := by
  unfold noteRest; split <;> simp

/-! `judgeRelock` writes the protection, guard, pipeline, drums, tables, line, requests at most. -/
@[simp] theorem judgeRelock_pending (b : Bool) (k : Int) : (judgeRelock b k s).pending = s.pending := by
  simp [judgeRelock]
@[simp] theorem judgeRelock_key (b : Bool) (k : Int) : (judgeRelock b k s).key = s.key := by
  simp [judgeRelock]
@[simp] theorem judgeRelock_trackers (b : Bool) (k : Int) : (judgeRelock b k s).trackers = s.trackers := by
  simp [judgeRelock]
@[simp] theorem judgeRelock_envelope (b : Bool) (k : Int) : (judgeRelock b k s).envelope = s.envelope := by
  simp [judgeRelock]
@[simp] theorem judgeRelock_zones (b : Bool) (k : Int) : (judgeRelock b k s).zones = s.zones := by
  simp [judgeRelock]
@[simp] theorem judgeRelock_freeCount (b : Bool) (k : Int) : (judgeRelock b k s).freeCount = s.freeCount := by
  simp [judgeRelock]

/-! `addDisagreement` writes the drums at most. -/
@[simp] theorem addDisagreement_pending (d : Drum) (k : Int) : (addDisagreement d k s).pending = s.pending := by
  unfold addDisagreement; split <;> [(split <;> rfl); rfl]
@[simp] theorem addDisagreement_key (d : Drum) (k : Int) : (addDisagreement d k s).key = s.key := by
  unfold addDisagreement; split <;> [(split <;> rfl); rfl]
@[simp] theorem addDisagreement_line (d : Drum) (k : Int) : (addDisagreement d k s).line = s.line := by
  unfold addDisagreement; split <;> [(split <;> rfl); rfl]
@[simp] theorem addDisagreement_tables (d : Drum) (k : Int) : (addDisagreement d k s).tables = s.tables := by
  unfold addDisagreement; split <;> [(split <;> rfl); rfl]
@[simp] theorem addDisagreement_trackers (d : Drum) (k : Int) : (addDisagreement d k s).trackers = s.trackers := by
  unfold addDisagreement; split <;> [(split <;> rfl); rfl]
@[simp] theorem addDisagreement_pipeline (d : Drum) (k : Int) : (addDisagreement d k s).pipeline = s.pipeline := by
  unfold addDisagreement; split <;> [(split <;> rfl); rfl]
@[simp] theorem addDisagreement_envelope (d : Drum) (k : Int) : (addDisagreement d k s).envelope = s.envelope := by
  unfold addDisagreement; split <;> [(split <;> rfl); rfl]
@[simp] theorem addDisagreement_guard (d : Drum) (k : Int) : (addDisagreement d k s).guard = s.guard := by
  unfold addDisagreement; split <;> [(split <;> rfl); rfl]
@[simp] theorem addDisagreement_protection (d : Drum) (k : Int) : (addDisagreement d k s).protection = s.protection := by
  unfold addDisagreement; split <;> [(split <;> rfl); rfl]
@[simp] theorem addDisagreement_zones (d : Drum) (k : Int) : (addDisagreement d k s).zones = s.zones := by
  unfold addDisagreement; split <;> [(split <;> rfl); rfl]
@[simp] theorem addDisagreement_requests (d : Drum) (k : Int) : (addDisagreement d k s).requests = s.requests := by
  unfold addDisagreement; split <;> [(split <;> rfl); rfl]
@[simp] theorem addDisagreement_freeCount (d : Drum) (k : Int) : (addDisagreement d k s).freeCount = s.freeCount := by
  unfold addDisagreement; split <;> [(split <;> rfl); rfl]

/-! `addHold` writes the drums at most. -/
@[simp] theorem addHold_pending (d : Drum) (k : Int) : (addHold d k s).pending = s.pending := by
  unfold addHold; split <;> rfl
@[simp] theorem addHold_key (d : Drum) (k : Int) : (addHold d k s).key = s.key := by
  unfold addHold; split <;> rfl
@[simp] theorem addHold_line (d : Drum) (k : Int) : (addHold d k s).line = s.line := by
  unfold addHold; split <;> rfl
@[simp] theorem addHold_tables (d : Drum) (k : Int) : (addHold d k s).tables = s.tables := by
  unfold addHold; split <;> rfl
@[simp] theorem addHold_trackers (d : Drum) (k : Int) : (addHold d k s).trackers = s.trackers := by
  unfold addHold; split <;> rfl
@[simp] theorem addHold_pipeline (d : Drum) (k : Int) : (addHold d k s).pipeline = s.pipeline := by
  unfold addHold; split <;> rfl
@[simp] theorem addHold_envelope (d : Drum) (k : Int) : (addHold d k s).envelope = s.envelope := by
  unfold addHold; split <;> rfl
@[simp] theorem addHold_guard (d : Drum) (k : Int) : (addHold d k s).guard = s.guard := by
  unfold addHold; split <;> rfl
@[simp] theorem addHold_protection (d : Drum) (k : Int) : (addHold d k s).protection = s.protection := by
  unfold addHold; split <;> rfl
@[simp] theorem addHold_zones (d : Drum) (k : Int) : (addHold d k s).zones = s.zones := by
  unfold addHold; split <;> rfl
@[simp] theorem addHold_requests (d : Drum) (k : Int) : (addHold d k s).requests = s.requests := by
  unfold addHold; split <;> rfl
@[simp] theorem addHold_freeCount (d : Drum) (k : Int) : (addHold d k s).freeCount = s.freeCount := by
  unfold addHold; split <;> rfl

/-! `judgeDisagreement` writes the protection, guard, pipeline, drums, tables, line, requests at most. -/
@[simp] theorem judgeDisagreement_pending (d : Drum) (k : Int) : (judgeDisagreement d k s).pending = s.pending := by
  simp [judgeDisagreement]
@[simp] theorem judgeDisagreement_key (d : Drum) (k : Int) : (judgeDisagreement d k s).key = s.key := by
  simp [judgeDisagreement]
@[simp] theorem judgeDisagreement_trackers (d : Drum) (k : Int) : (judgeDisagreement d k s).trackers = s.trackers := by
  simp [judgeDisagreement]
@[simp] theorem judgeDisagreement_envelope (d : Drum) (k : Int) : (judgeDisagreement d k s).envelope = s.envelope := by
  simp [judgeDisagreement]
@[simp] theorem judgeDisagreement_zones (d : Drum) (k : Int) : (judgeDisagreement d k s).zones = s.zones := by
  simp [judgeDisagreement]
@[simp] theorem judgeDisagreement_freeCount (d : Drum) (k : Int) : (judgeDisagreement d k s).freeCount = s.freeCount := by
  simp [judgeDisagreement]

/-! `judgeHold` writes the protection, guard, pipeline, drums, tables, line, requests at most. -/
@[simp] theorem judgeHold_pending (d : Drum) (k : Int) : (judgeHold d k s).pending = s.pending := by
  simp [judgeHold]
@[simp] theorem judgeHold_key (d : Drum) (k : Int) : (judgeHold d k s).key = s.key := by
  simp [judgeHold]
@[simp] theorem judgeHold_trackers (d : Drum) (k : Int) : (judgeHold d k s).trackers = s.trackers := by
  simp [judgeHold]
@[simp] theorem judgeHold_envelope (d : Drum) (k : Int) : (judgeHold d k s).envelope = s.envelope := by
  simp [judgeHold]
@[simp] theorem judgeHold_zones (d : Drum) (k : Int) : (judgeHold d k s).zones = s.zones := by
  simp [judgeHold]
@[simp] theorem judgeHold_freeCount (d : Drum) (k : Int) : (judgeHold d k s).freeCount = s.freeCount := by
  simp [judgeHold]

/-! `judgeDrift` writes the protection, guard, pipeline, drums, tables, line, requests at most. -/
@[simp] theorem judgeDrift_pending (k : Int) : (judgeDrift k s).pending = s.pending := by
  unfold judgeDrift; split <;> simp
@[simp] theorem judgeDrift_key (k : Int) : (judgeDrift k s).key = s.key := by
  unfold judgeDrift; split <;> simp
@[simp] theorem judgeDrift_trackers (k : Int) : (judgeDrift k s).trackers = s.trackers := by
  unfold judgeDrift; split <;> simp
@[simp] theorem judgeDrift_envelope (k : Int) : (judgeDrift k s).envelope = s.envelope := by
  unfold judgeDrift; split <;> simp
@[simp] theorem judgeDrift_zones (k : Int) : (judgeDrift k s).zones = s.zones := by
  unfold judgeDrift; split <;> simp
@[simp] theorem judgeDrift_freeCount (k : Int) : (judgeDrift k s).freeCount = s.freeCount := by
  unfold judgeDrift; split <;> simp

/-! `accumulate` writes the protection, guard, pipeline, drums, tables, line, requests at most. -/
@[simp] theorem accumulate_pending (d : Drum) (b : Bool) (k : Int) : (accumulate d b k s).pending = s.pending := by
  simp [accumulate]
@[simp] theorem accumulate_key (d : Drum) (b : Bool) (k : Int) : (accumulate d b k s).key = s.key := by
  simp [accumulate]
@[simp] theorem accumulate_trackers (d : Drum) (b : Bool) (k : Int) : (accumulate d b k s).trackers = s.trackers := by
  simp [accumulate]
@[simp] theorem accumulate_envelope (d : Drum) (b : Bool) (k : Int) : (accumulate d b k s).envelope = s.envelope := by
  simp [accumulate]
@[simp] theorem accumulate_zones (d : Drum) (b : Bool) (k : Int) : (accumulate d b k s).zones = s.zones := by
  simp [accumulate]
@[simp] theorem accumulate_freeCount (d : Drum) (b : Bool) (k : Int) : (accumulate d b k s).freeCount = s.freeCount := by
  simp [accumulate]

/-! `judgeOverspeed` writes the protection, guard, pipeline, drums, tables, line, requests, envelope at most. -/
@[simp] theorem judgeOverspeed_pending (d : Drum) : (judgeOverspeed d s).pending = s.pending := by
  unfold judgeOverspeed; split <;> simp
@[simp] theorem judgeOverspeed_key (d : Drum) : (judgeOverspeed d s).key = s.key := by
  unfold judgeOverspeed; split <;> simp
@[simp] theorem judgeOverspeed_trackers (d : Drum) : (judgeOverspeed d s).trackers = s.trackers := by
  unfold judgeOverspeed; split <;> simp
@[simp] theorem judgeOverspeed_zones (d : Drum) : (judgeOverspeed d s).zones = s.zones := by
  unfold judgeOverspeed; split <;> simp
@[simp] theorem judgeOverspeed_freeCount (d : Drum) : (judgeOverspeed d s).freeCount = s.freeCount := by
  unfold judgeOverspeed; split <;> simp

/-! `rampStep` writes the protection, guard, pipeline, drums, tables, line, requests, envelope at most. -/
@[simp] theorem rampStep_pending (d : Drum) (dt : Nat) : (rampStep d dt s).pending = s.pending := by
  unfold rampStep; (repeat' split) <;> (try dsimp only) <;> (repeat' split) <;> simp
@[simp] theorem rampStep_key (d : Drum) (dt : Nat) : (rampStep d dt s).key = s.key := by
  unfold rampStep; (repeat' split) <;> (try dsimp only) <;> (repeat' split) <;> simp
@[simp] theorem rampStep_trackers (d : Drum) (dt : Nat) : (rampStep d dt s).trackers = s.trackers := by
  unfold rampStep; (repeat' split) <;> (try dsimp only) <;> (repeat' split) <;> simp
@[simp] theorem rampStep_zones (d : Drum) (dt : Nat) : (rampStep d dt s).zones = s.zones := by
  unfold rampStep; (repeat' split) <;> (try dsimp only) <;> (repeat' split) <;> simp
@[simp] theorem rampStep_freeCount (d : Drum) (dt : Nat) : (rampStep d dt s).freeCount = s.freeCount := by
  unfold rampStep; (repeat' split) <;> (try dsimp only) <;> (repeat' split) <;> simp

/-! `noteMotion` writes the tables, line, requests at most. -/
@[simp] theorem noteMotion_pending (k : Int) : (noteMotion k s).pending = s.pending := by
  unfold noteMotion; split <;> simp
@[simp] theorem noteMotion_key (k : Int) : (noteMotion k s).key = s.key := by
  unfold noteMotion; split <;> simp
@[simp] theorem noteMotion_drums (k : Int) : (noteMotion k s).drums = s.drums := by
  unfold noteMotion; split <;> simp
@[simp] theorem noteMotion_trackers (k : Int) : (noteMotion k s).trackers = s.trackers := by
  unfold noteMotion; split <;> simp
@[simp] theorem noteMotion_pipeline (k : Int) : (noteMotion k s).pipeline = s.pipeline := by
  unfold noteMotion; split <;> simp
@[simp] theorem noteMotion_envelope (k : Int) : (noteMotion k s).envelope = s.envelope := by
  unfold noteMotion; split <;> simp
@[simp] theorem noteMotion_guard (k : Int) : (noteMotion k s).guard = s.guard := by
  unfold noteMotion; split <;> simp
@[simp] theorem noteMotion_protection (k : Int) : (noteMotion k s).protection = s.protection := by
  unfold noteMotion; split <;> simp
@[simp] theorem noteMotion_zones (k : Int) : (noteMotion k s).zones = s.zones := by
  unfold noteMotion; split <;> simp
@[simp] theorem noteMotion_freeCount (k : Int) : (noteMotion k s).freeCount = s.freeCount := by
  unfold noteMotion; split <;> simp

/-! `takeMovement` writes the tables, line, requests, protection, guard, pipeline, drums, trackers at most. -/
@[simp] theorem takeMovement_pending (d : Drum) (b : Bool) (k : Int) : (takeMovement d b k s).pending = s.pending := by
  simp [takeMovement]
@[simp] theorem takeMovement_key (d : Drum) (b : Bool) (k : Int) : (takeMovement d b k s).key = s.key := by
  simp [takeMovement]
@[simp] theorem takeMovement_envelope (d : Drum) (b : Bool) (k : Int) : (takeMovement d b k s).envelope = s.envelope := by
  simp [takeMovement]
@[simp] theorem takeMovement_zones (d : Drum) (b : Bool) (k : Int) : (takeMovement d b k s).zones = s.zones := by
  simp [takeMovement]
@[simp] theorem takeMovement_freeCount (d : Drum) (b : Bool) (k : Int) : (takeMovement d b k s).freeCount = s.freeCount := by
  simp [takeMovement]

/-! `takeRest` writes the pipeline, guard, drums, line, requests at most. -/
@[simp] theorem takeRest_pending (d : Drum) (x y : Bool) : (takeRest d x y s).pending = s.pending := by
  unfold takeRest; dsimp only; split <;> simp
@[simp] theorem takeRest_key (d : Drum) (x y : Bool) : (takeRest d x y s).key = s.key := by
  unfold takeRest; dsimp only; split <;> simp
@[simp] theorem takeRest_tables (d : Drum) (x y : Bool) : (takeRest d x y s).tables = s.tables := by
  unfold takeRest; dsimp only; split <;> simp
@[simp] theorem takeRest_trackers (d : Drum) (x y : Bool) : (takeRest d x y s).trackers = s.trackers := by
  unfold takeRest; dsimp only; split <;> simp
@[simp] theorem takeRest_envelope (d : Drum) (x y : Bool) : (takeRest d x y s).envelope = s.envelope := by
  unfold takeRest; dsimp only; split <;> simp
@[simp] theorem takeRest_protection (d : Drum) (x y : Bool) : (takeRest d x y s).protection = s.protection := by
  unfold takeRest; dsimp only; split <;> simp
@[simp] theorem takeRest_zones (d : Drum) (x y : Bool) : (takeRest d x y s).zones = s.zones := by
  unfold takeRest; dsimp only; split <;> simp
@[simp] theorem takeRest_freeCount (d : Drum) (x y : Bool) : (takeRest d x y s).freeCount = s.freeCount := by
  unfold takeRest; dsimp only; split <;> simp

/-! `judgeSpeed` writes the envelope, protection, guard, pipeline, drums, tables, line, requests at most. -/
@[simp] theorem judgeSpeed_pending (d : Drum) (dt : Nat) : (judgeSpeed d dt s).pending = s.pending := by
  simp [judgeSpeed]
@[simp] theorem judgeSpeed_key (d : Drum) (dt : Nat) : (judgeSpeed d dt s).key = s.key := by
  simp [judgeSpeed]
@[simp] theorem judgeSpeed_trackers (d : Drum) (dt : Nat) : (judgeSpeed d dt s).trackers = s.trackers := by
  simp [judgeSpeed]
@[simp] theorem judgeSpeed_zones (d : Drum) (dt : Nat) : (judgeSpeed d dt s).zones = s.zones := by
  simp [judgeSpeed]
@[simp] theorem judgeSpeed_freeCount (d : Drum) (dt : Nat) : (judgeSpeed d dt s).freeCount = s.freeCount := by
  simp [judgeSpeed]

/-- A relock of zero change reaches no tracker and leaves the Protection Controller as it was (R41). -/
theorem handOnMovement_nothing (d : Drum) (dt : Nat) (x y : Bool) :
    (handOnMovement d true 0 dt x y s).trackers = s.trackers
      ∧ (handOnMovement d true 0 dt x y s).protection = s.protection := by
  simp [handOnMovement, appliesNothing]

/-! `handOnMovement` writes the protection, guard, pipeline, drums, tables, line, requests, trackers, zones, envelope at most. -/
@[simp] theorem handOnMovement_pending (d : Drum) (b : Bool) (k : Int) (dt : Nat) (x y : Bool) : (handOnMovement d b k dt x y s).pending = s.pending := by
  unfold handOnMovement; split <;> simp
@[simp] theorem handOnMovement_key (d : Drum) (b : Bool) (k : Int) (dt : Nat) (x y : Bool) : (handOnMovement d b k dt x y s).key = s.key := by
  unfold handOnMovement; split <;> simp
@[simp] theorem handOnMovement_freeCount (d : Drum) (b : Bool) (k : Int) (dt : Nat) (x y : Bool) : (handOnMovement d b k dt x y s).freeCount = s.freeCount := by
  unfold handOnMovement; split <;> simp

/-! `applyMovement` writes the protection, guard, pipeline, drums, tables, line, requests, trackers, zones, envelope at most. -/
@[simp] theorem applyMovement_pending (d : Drum) (b : Bool) (o : Int) (dt : Nat) : (applyMovement d b o dt s).pending = s.pending := by
  unfold applyMovement; split <;> simp
@[simp] theorem applyMovement_key (d : Drum) (b : Bool) (o : Int) (dt : Nat) : (applyMovement d b o dt s).key = s.key := by
  unfold applyMovement; split <;> simp
@[simp] theorem applyMovement_freeCount (d : Drum) (b : Bool) (o : Int) (dt : Nat) : (applyMovement d b o dt s).freeCount = s.freeCount := by
  unfold applyMovement; split <;> simp

/-- An open commitment outside NO-TABLES is abandoned with reason MOTION (R29). -/
theorem abandonByMotion_open (state : s.protection.state ≠ .noTables) (isOpen : commitmentOpen s = true) :
    abandonByMotion s = setFlag .valid (setResult (.abandoned (openSet s) .motion) (closeCommitment s)) := by
  simp [abandonByMotion, abandon, state, isOpen]

/-- In NO-TABLES, and with none open, no movement abandons a commitment (R29). -/
theorem abandonByMotion_of_none (h : s.protection.state = .noTables ∨ commitmentOpen s = false) :
    abandonByMotion s = s := by
  rcases h with h | h <;> simp [abandonByMotion, abandon, h]

/-- All that a loss hands on: to the pipeline, the Table Store and the Protection Controller in this order, or, where the
abort of a WAITING trip and cause SAMPLE both arise, in either order (R29, R38, R46, R89; assumptions 1 and 12). -/
theorem takeLoss_cases (raises : Bool) :
    takeLoss raises s = reportIf raises .sample (abandonByMotion (pipelineLoss s))
      ∨ raises = true ∧ s.pipeline.active.map (·.state) = some .waiting
        ∧ let next : State := { s with freeCount := s.freeCount + 1 }
          takeLoss raises s = reportCause .sample (abandonByMotion (pipelineLoss next))
            ∨ takeLoss raises s = pipelineLoss (abandonByMotion (reportCause .sample next)) := by
  unfold takeLoss
  dsimp only
  by_cases both : (raises && decide (s.pipeline.active.map (·.state) = some TripState.waiting)) = true
  · rw [if_pos both]
    obtain ⟨raised, waits⟩ := Bool.and_eq_true_iff.mp both
    refine .inr ⟨raised, of_decide_eq_true waits, ?_⟩
    split
    · exact .inl rfl
    · exact .inr rfl
  · exact .inl (if_neg both)

/-! `loseLock` writes the protection, guard, pipeline, drums, tables, line, requests, zones, envelope, freeCount at most. -/
@[simp] theorem loseLock_pending (d : Drum) : (loseLock d s).pending = s.pending := by
  unfold loseLock takeLoss; dsimp only; (repeat' split) <;> simp
@[simp] theorem loseLock_key (d : Drum) : (loseLock d s).key = s.key := by
  unfold loseLock takeLoss; dsimp only; (repeat' split) <;> simp
@[simp] theorem loseLock_trackers (d : Drum) : (loseLock d s).trackers = s.trackers := by
  unfold loseLock takeLoss; dsimp only; (repeat' split) <;> simp

/-! `setLock` writes the drums at most. -/
@[simp] theorem setLock_pending (d : Drum) (l : Lock) (b : Option Baseline) : (setLock d l b s).pending = s.pending := by
  simp [setLock]
@[simp] theorem setLock_key (d : Drum) (l : Lock) (b : Option Baseline) : (setLock d l b s).key = s.key := by
  simp [setLock]
@[simp] theorem setLock_line (d : Drum) (l : Lock) (b : Option Baseline) : (setLock d l b s).line = s.line := by
  simp [setLock]
@[simp] theorem setLock_tables (d : Drum) (l : Lock) (b : Option Baseline) : (setLock d l b s).tables = s.tables := by
  simp [setLock]
@[simp] theorem setLock_trackers (d : Drum) (l : Lock) (b : Option Baseline) : (setLock d l b s).trackers = s.trackers := by
  simp [setLock]
@[simp] theorem setLock_pipeline (d : Drum) (l : Lock) (b : Option Baseline) : (setLock d l b s).pipeline = s.pipeline := by
  simp [setLock]
@[simp] theorem setLock_envelope (d : Drum) (l : Lock) (b : Option Baseline) : (setLock d l b s).envelope = s.envelope := by
  simp [setLock]
@[simp] theorem setLock_guard (d : Drum) (l : Lock) (b : Option Baseline) : (setLock d l b s).guard = s.guard := by
  simp [setLock]
@[simp] theorem setLock_protection (d : Drum) (l : Lock) (b : Option Baseline) : (setLock d l b s).protection = s.protection := by
  simp [setLock]
@[simp] theorem setLock_zones (d : Drum) (l : Lock) (b : Option Baseline) : (setLock d l b s).zones = s.zones := by
  simp [setLock]
@[simp] theorem setLock_requests (d : Drum) (l : Lock) (b : Option Baseline) : (setLock d l b s).requests = s.requests := by
  simp [setLock]
@[simp] theorem setLock_freeCount (d : Drum) (l : Lock) (b : Option Baseline) : (setLock d l b s).freeCount = s.freeCount := by
  simp [setLock]

/-! `restartSampleWatch` writes the drums at most. -/
@[simp] theorem restartSampleWatch_pending (d : Drum) : (restartSampleWatch d s).pending = s.pending := by
  unfold restartSampleWatch; split <;> simp
@[simp] theorem restartSampleWatch_key (d : Drum) : (restartSampleWatch d s).key = s.key := by
  unfold restartSampleWatch; split <;> simp
@[simp] theorem restartSampleWatch_line (d : Drum) : (restartSampleWatch d s).line = s.line := by
  unfold restartSampleWatch; split <;> simp
@[simp] theorem restartSampleWatch_tables (d : Drum) : (restartSampleWatch d s).tables = s.tables := by
  unfold restartSampleWatch; split <;> simp
@[simp] theorem restartSampleWatch_trackers (d : Drum) : (restartSampleWatch d s).trackers = s.trackers := by
  unfold restartSampleWatch; split <;> simp
@[simp] theorem restartSampleWatch_pipeline (d : Drum) : (restartSampleWatch d s).pipeline = s.pipeline := by
  unfold restartSampleWatch; split <;> simp
@[simp] theorem restartSampleWatch_envelope (d : Drum) : (restartSampleWatch d s).envelope = s.envelope := by
  unfold restartSampleWatch; split <;> simp
@[simp] theorem restartSampleWatch_guard (d : Drum) : (restartSampleWatch d s).guard = s.guard := by
  unfold restartSampleWatch; split <;> simp
@[simp] theorem restartSampleWatch_protection (d : Drum) : (restartSampleWatch d s).protection = s.protection := by
  unfold restartSampleWatch; split <;> simp
@[simp] theorem restartSampleWatch_zones (d : Drum) : (restartSampleWatch d s).zones = s.zones := by
  unfold restartSampleWatch; split <;> simp
@[simp] theorem restartSampleWatch_requests (d : Drum) : (restartSampleWatch d s).requests = s.requests := by
  unfold restartSampleWatch; split <;> simp
@[simp] theorem restartSampleWatch_freeCount (d : Drum) : (restartSampleWatch d s).freeCount = s.freeCount := by
  unfold restartSampleWatch; split <;> simp

/-! `judgeSample` writes the protection, guard, pipeline, drums, tables, line, requests, trackers, zones, envelope, freeCount at most. -/
@[simp] theorem judgeSample_pending (d : Drum) (r : DrumRow) (x : Sample) (o : Int) : (judgeSample d r x o s).pending = s.pending := by
  unfold judgeSample; dsimp only; (repeat' split) <;> simp
@[simp] theorem judgeSample_key (d : Drum) (r : DrumRow) (x : Sample) (o : Int) : (judgeSample d r x o s).key = s.key := by
  unfold judgeSample; dsimp only; (repeat' split) <;> simp

/-! `observeSample` writes the protection, guard, pipeline, drums, tables, line, requests, trackers, zones, envelope, freeCount at most. -/
@[simp] theorem observeSample_pending (x : Sample) : (observeSample x s).pending = s.pending := by
  unfold observeSample; dsimp only; split <;> simp
@[simp] theorem observeSample_key (x : Sample) : (observeSample x s).key = s.key := by
  unfold observeSample; dsimp only; split <;> simp

end Sys2Proof.Machine
end

