-- ==== Sys2Proof/Laws/Frames.lean ====
section
/-! SUPPORT. Frames.lean: fields of bytes read back as they were written, and what the receivers make of a run of bytes (R163,
R172). -/

namespace Sys2Proof.Machine

/-! ### Unsigned fields -/

@[simp] theorem beBytes_length (n v : Nat) : (beBytes n v).length = n := by
  induction n generalizing v with
  | zero => rfl
  | succ n ih => simp [beBytes, ih]

@[simp] theorem be_nil : be [] = 0 := rfl

theorem be_append_one (bytes : List Byte) (b : Byte) : be (bytes ++ [b]) = be bytes * 256 + b.toNat := by
  simp [be, List.foldl_append]

/-- A number written in `n` bytes reads back modulo 256 to the `n`. -/
theorem be_beBytes (n v : Nat) : be (beBytes n v) = v % 256 ^ n := by
  induction n generalizing v with
  | zero => simp [beBytes, Nat.mod_one]
  | succ n ih =>
    have split : v % 256 ^ (n + 1) = v % 256 + 256 * (v / 256 % 256 ^ n) := by
      rw [Nat.pow_succ, Nat.mul_comm, Nat.mod_mul]
    rw [beBytes, be_append_one, ih, BitVec.toNat_ofNat, split]
    omega

/-- A number that fits is read back as it was written. -/
theorem be_beBytes_of_lt {n v : Nat} (h : v < 256 ^ n) : be (beBytes n v) = v := by
  rw [be_beBytes, Nat.mod_eq_of_lt h]

theorem be_lt (bytes : List Byte) : be bytes < 256 ^ bytes.length := by
  induction bytes using List.reverseRecOn with
  | nil => simp
  | append_singleton bytes b ih =>
    have := b.isLt
    rw [be_append_one, List.length_append, List.length_singleton, Nat.pow_succ]
    omega

/-- Bytes read and written again are the same bytes. -/
theorem beBytes_be (bytes : List Byte) : beBytes bytes.length (be bytes) = bytes := by
  induction bytes using List.reverseRecOn with
  | nil => rfl
  | append_singleton bytes b ih =>
    have hb : b.toNat < 256 := b.isLt
    rw [List.length_append, List.length_singleton, beBytes, be_append_one]
    rw [show (be bytes * 256 + b.toNat) / 256 = be bytes by omega, ih]
    congr 1
    simp only [List.cons.injEq, and_true]
    apply BitVec.eq_of_toNat_eq
    rw [BitVec.toNat_ofNat]
    omega

/-! ### Signed fields -/

/-- An integer in the range of `n` bytes is read back as it was written in two's complement. -/
theorem signed_signedBytes {n : Nat} {v : Int} (lo : -(256 ^ n : Nat) ≤ 2 * v)
    (hi : 2 * v < (256 ^ n : Nat)) : signed n (be (signedBytes n v)) = v := by
  have hpos : (0 : Int) < (256 ^ n : Nat) := by positivity
  have hnn := Int.emod_nonneg v (ne_of_gt hpos)
  have hlt := Int.emod_lt_of_pos v hpos
  have hdiv := Int.emod_add_mul_ediv v (256 ^ n : Nat)
  generalize hN : (256 ^ n : Nat) = N at *
  rw [signedBytes, be_beBytes_of_lt (by rw [hN]; omega), signed, hN]
  by_cases hv : 0 ≤ v
  · rw [Int.emod_eq_of_lt hv (by omega)]
    rw [if_pos (by omega)]
    omega
  · have : v % (N : Int) = v + N := by
      rw [← Int.add_emod_right, Int.emod_eq_of_lt (by omega) (by omega)]
    rw [this]
    rw [if_neg (by omega)]
    omega

@[simp] theorem signedBytes_length (n : Nat) (v : Int) : (signedBytes n v).length = n := by simp [signedBytes]

/-! ### A run of bytes at a receiver -/

/-- A receiver in RECEIVING takes further bytes up to 62 in all, keeping them in order and any absent stop bit. -/
theorem foldl_takeByte_receiving (bytes : List LineByte) (buffer : List Byte) (bad : Bool)
    (h : buffer.length + bytes.length ≤ 62) :
    bytes.foldl takeByte (.receiving buffer bad)
      = .receiving (buffer ++ bytes.map LineByte.value) (bad || bytes.any fun b => !b.stopBit) := by
  induction bytes generalizing buffer bad with
  | nil => simp
  | cons b rest ih =>
    simp only [List.length_cons] at h
    have : buffer.length < 62 := by omega
    rw [List.foldl_cons, takeByte, if_pos this, ih _ _ (by simp; omega)]
    simp [Bool.or_assoc]

theorem foldl_takeByte_discarding (bytes : List LineByte) : bytes.foldl takeByte .discarding = .discarding := by
  induction bytes with
  | nil => rfl
  | cons b rest ih => simpa [takeByte] using ih

theorem foldl_takeByte_waitingIdle (bytes : List LineByte) : bytes.foldl takeByte .waitingIdle = .waitingIdle := by
  induction bytes with
  | nil => rfl
  | cons b rest ih => simpa [takeByte] using ih

/-- Past 62 bytes a receiver discards. -/
theorem foldl_takeByte_overlong (bytes : List LineByte) (buffer : List Byte) (bad : Bool) (full : buffer.length ≤ 62)
    (h : 62 < buffer.length + bytes.length) : bytes.foldl takeByte (.receiving buffer bad) = .discarding := by
  induction bytes generalizing buffer bad with
  | nil => simp at h; omega
  | cons b rest ih =>
    rw [List.foldl_cons, takeByte]
    split
    · exact ih _ _ (by simp; omega) (by simp at h ⊢; omega)
    · exact foldl_takeByte_discarding rest

/-- Bytes on a link whose receiver is in IDLE, at least one and at most 62, are judged together at the silence. -/
theorem deliver_of_idle {l : Link} {s : State} (bytes : List LineByte) (idle : receiver l s = .idle)
    (some : bytes ≠ []) (fits : bytes.length ≤ 62) :
    deliver l bytes s = takeJudged l (judgeFrame (bytes.map LineByte.value) (bytes.any fun b => !b.stopBit)) s := by
  obtain ⟨b, rest, rfl⟩ := List.exists_cons_of_ne_nil some
  have run : (b :: rest).foldl takeByte (receiver l s)
      = .receiving ((b :: rest).map LineByte.value) ((b :: rest).any fun b => !b.stopBit) := by
    rw [idle, List.foldl_cons, takeByte, foldl_takeByte_receiving _ _ _ (by simpa [Nat.add_comm] using fits)]
    simp
  have back : setReceiver l .idle s = s := by cases l <;> simp_all [setReceiver, receiver] <;> rw [← idle]
  have once (r : Receiver) : setReceiver l .idle (setReceiver l r s) = setReceiver l .idle s := by cases l <;> rfl
  have now (r : Receiver) : receiver l (setReceiver l r s) = r := by cases l <;> rfl
  rw [deliver, silence, run]
  simp only [now, once, back, ended]

end Sys2Proof.Machine
end

