-- ==== Sys2Proof/Laws/Speed.lean ====
section
/-! SUPPORT. Speed.lean: the integer square root is the one R102 asks for, and the least of some constraints bounds each. -/

namespace Sys2Proof.Machine

/-- The bits found from bit `k` − 1 down give the root that lies below `root + 2 ^ k`. -/
theorem isqrtFrom_spec (n k root : Nat) (lo : root * root ≤ n) (hi : n < (root + 2 ^ k) * (root + 2 ^ k)) :
    isqrtFrom n k root * isqrtFrom n k root ≤ n ∧ n < (isqrtFrom n k root + 1) * (isqrtFrom n k root + 1) := by
  induction k generalizing root with
  | zero => exact ⟨lo, by simpa [isqrtFrom] using hi⟩
  | succ k ih =>
    unfold isqrtFrom
    split
    · next fits =>
      refine ih _ fits ?_
      rwa [show root + 2 ^ k + 2 ^ k = root + 2 ^ (k + 1) by rw [Nat.pow_succ]; omega]
    · next more => exact ih _ lo (by omega)

/-- The integer square root: the largest integer whose square does not exceed the number (R102). -/
theorem isqrt_eq_sqrt (n : Nat) : isqrt n = n.sqrt := by
  have bound : n < (0 + 2 ^ (n.log2 / 2 + 1)) * (0 + 2 ^ (n.log2 / 2 + 1)) := by
    rw [Nat.zero_add, ← Nat.pow_add]
    exact lt_of_lt_of_le Nat.lt_log2_self (Nat.pow_le_pow_right (by omega) (by omega))
  obtain ⟨lo, hi⟩ := isqrtFrom_spec n (n.log2 / 2 + 1) 0 (by simp) bound
  exact Nat.eq_sqrt.mpr ⟨lo, hi⟩

theorem least_le_start (n : Nat) (others : List Nat) : least n others ≤ n := by
  induction others generalizing n with
  | nil => exact le_refl n
  | cons a rest ih => exact le_trans (ih (min n a)) (Nat.min_le_left _ _)

theorem least_le_mem (n : Nat) (others : List Nat) {a : Nat} (h : a ∈ others) : least n others ≤ a := by
  induction others generalizing n with
  | nil => exact absurd h (by simp)
  | cons b rest ih =>
    rcases List.mem_cons.mp h with rfl | h
    · exact le_trans (least_le_start (min n a) rest) (Nat.min_le_right _ _)
    · exact ih (min n b) h

/-- P's least is no more than any envelope present. -/
theorem leastOf_le {envelopes : List Nat} {a : Nat} (h : a ∈ envelopes) : leastOf envelopes ≤ a := by
  cases envelopes with
  | nil => exact absurd h (by simp)
  | cons b rest =>
    rcases List.mem_cons.mp h with rfl | h
    · exact least_le_start a rest
    · exact least_le_mem b rest h

end Sys2Proof.Machine
end

