-- ==== Sys2Proof/Laws/Words.lean ====
section
/-! SUPPORT. Words.lean: what the shared operations do, in the words of the statements. -/

namespace Sys2Proof.Machine

/-! ### The nearest marker ahead (R62 to R64) -/

/-- A marker that the search may take. -/
def MayExpect (c : Conveyance) (dir : Direction) (here : Int) (m : MarkerRow) : Prop :=
  m.compartment = c ∧ m.unreliable = false ∧ isAhead dir here m.depth = true

theorem mayExpect_iff (c : Conveyance) (dir : Direction) (here : Int) (m : MarkerRow) :
    MayExpect c dir here m ↔ LiesAhead c dir here m := by
  cases dir <;> simp [MayExpect, LiesAhead, isAhead]

/-- A candidate that stands for all markers seen: there is none where none may be taken, else the nearest of them. -/
def Stands (c : Conveyance) (dir : Direction) (here : Int) (seen : List (MarkerRow × Nat)) (best : Option (Int × Nat)) :
    Prop :=
  (best = none → ∀ p ∈ seen, ¬MayExpect c dir here p.1)
    ∧ ∀ d j, best = some (d, j) → (∃ m, (m, j) ∈ seen ∧ MayExpect c dir here m ∧ m.depth = d)
      ∧ ∀ p ∈ seen, MayExpect c dir here p.1 → isAhead dir p.1.depth d = false

theorem stands_foldl (c : Conveyance) (dir : Direction) (here : Int) (l seen : List (MarkerRow × Nat))
    (best : Option (Int × Nat)) (h : Stands c dir here seen best) :
    Stands c dir here (seen ++ l) (l.foldl (fun best (m, i) =>
      if m.compartment = c ∧ m.unreliable = false ∧ isAhead dir here m.depth then nearer dir best m.depth i else best)
      best) := by
  induction l generalizing seen best with
  | nil => simpa using h
  | cons p l ih =>
    obtain ⟨m, i⟩ := p
    rw [show seen ++ (m, i) :: l = (seen ++ [(m, i)]) ++ l by simp]
    refine ih _ _ ?_
    obtain ⟨none_seen, some_seen⟩ := h
    dsimp only
    split
    · rename_i may
      cases best with
      | none =>
        refine ⟨by simp [nearer], fun d j eq => ?_⟩
        simp only [nearer, Option.some.injEq, Prod.mk.injEq] at eq
        obtain ⟨rfl, rfl⟩ := eq
        refine ⟨⟨m, by simp, may, rfl⟩, fun q hq mayq => ?_⟩
        rcases List.mem_append.1 hq with hq | hq
        · exact absurd mayq (none_seen rfl q hq)
        · simp only [List.mem_singleton] at hq
          subst hq
          cases dir <;> simp [isAhead]
      | some b =>
        obtain ⟨e, k⟩ := b
        obtain ⟨⟨m', hm', may', de⟩, far⟩ := some_seen e k rfl
        refine ⟨fun eq => ?_, fun d j eq => ?_⟩
        · simp only [nearer] at eq
          split at eq <;> simp at eq
        · simp only [nearer] at eq
          split at eq <;> rename_i closer <;> simp only [Option.some.injEq, Prod.mk.injEq] at eq <;>
            obtain ⟨rfl, rfl⟩ := eq
          · refine ⟨⟨m, by simp, may, rfl⟩, fun q hq mayq => ?_⟩
            rcases List.mem_append.1 hq with hq | hq
            · have := far q hq mayq
              cases dir <;> simp [isAhead] at * <;> omega
            · simp only [List.mem_singleton] at hq
              subst hq
              cases dir <;> simp [isAhead]
          · refine ⟨⟨m', by simp [hm'], may', de⟩, fun q hq mayq => ?_⟩
            rcases List.mem_append.1 hq with hq | hq
            · exact far q hq mayq
            · simp only [List.mem_singleton] at hq
              subst hq
              simpa using closer
    · rename_i may
      refine ⟨fun eq q hq => ?_, fun d j eq => ?_⟩
      · rcases List.mem_append.1 hq with hq | hq
        · exact none_seen eq q hq
        · simp only [List.mem_singleton] at hq
          subst hq
          exact may
      · obtain ⟨⟨m', hm', may', de⟩, far⟩ := some_seen d j eq
        refine ⟨⟨m', by simp [hm'], may', de⟩, fun q hq mayq => ?_⟩
        rcases List.mem_append.1 hq with hq | hq
        · exact far q hq mayq
        · simp only [List.mem_singleton] at hq
          subst hq
          exact absurd mayq may

/-- The search finds the nearest marker ahead, or NONE where there is none (R62, R63). -/
theorem nearestAhead_isNearest (c : Conveyance) (dir : Direction) (here : Int) (s : State) :
    IsNearest (nearestAhead (markers s) c dir here) c dir here s := by
  have h := stands_foldl c dir here (markers s).zipIdx [] none ⟨by simp, by simp⟩
  unfold nearestAhead
  generalize List.foldl _ none (markers s).zipIdx = best at h
  obtain ⟨none_seen, some_seen⟩ := h
  refine ⟨fun eq m hm ahead => ?_, fun i eq => ?_⟩
  · simp only [Option.map_eq_none_iff] at eq
    obtain ⟨i, hi⟩ := List.getElem?_of_mem hm
    exact none_seen eq (m, i) (by simpa [List.mem_zipIdx_iff_getElem?] using hi) ((mayExpect_iff ..).2 ahead)
  · simp only [Option.map_eq_some_iff] at eq
    obtain ⟨⟨d, j⟩, rfl, rfl⟩ := eq
    obtain ⟨⟨m, hm, may, rfl⟩, far⟩ := some_seen d j rfl
    refine ⟨m, by simpa [List.mem_zipIdx_iff_getElem?] using hm, (mayExpect_iff ..).1 may, fun m' hm' ahead => ?_⟩
    obtain ⟨k, hk⟩ := List.getElem?_of_mem hm'
    have := far (m', k) (by simpa [List.mem_zipIdx_iff_getElem?] using hk) ((mayExpect_iff ..).2 ahead)
    constructor <;> rintro rfl <;> simpa [isAhead] using this

/-- A miss leaves its tracker as it was but for the miss flag (R65). -/
theorem takeMiss_tracker (c : Conveyance) (i : Nat) (s : State) :
    tracker c (takeMiss c i s) = { tracker c s with missFlag := true } := by
  have key : ∀ u : State, tracker c u = tracker c s →
      tracker c (if (tracker c u).missFlag then reportCause .position u
        else setTracker c { tracker c u with missFlag := true } u) = { tracker c s with missFlag := true } := by
    intro u h
    split
    · rename_i flag
      rw [tracker_congr c (reportCause_trackers u _), h]
      rw [h] at flag
      rw [← flag]
    · rw [tracker_setTracker_same, h]
  unfold takeMiss
  refine key _ (tracker_congr c ?_)
  rw [setFlag_trackers, count_trackers]
  split
  · rw [setFlag_trackers]; rfl
  · rfl

/-- A miss leaves the active SHAFT bank as it was. -/
theorem takeMiss_shaft (c : Conveyance) (i : Nat) (s : State) :
    (takeMiss c i s).tables.shaft.active = s.tables.shaft.active := by
  have key : ∀ u : State, u.tables.shaft.active = s.tables.shaft.active →
      (if (tracker c u).missFlag then reportCause .position u
        else setTracker c { tracker c u with missFlag := true } u).tables.shaft.active = s.tables.shaft.active := by
    intro u h
    split
    · exact (reportCause_rows .position .shaft u).1.trans h
    · exact h
  unfold takeMiss
  refine key _ ?_
  rw [setFlag_tables, count_tables]
  split
  · rw [setFlag_tables]; rfl
  · rfl

/-- What a missed marker is: the one that a DATUMED tracker expects, passed by more than `miss_distance` (R64). -/
theorem missedMarker_iff (c : Conveyance) (i : Nat) (m : MarkerRow) (s : State) :
    missedMarker c s = some (i, m) ↔ (tracker c s).datumed = true ∧ Expects c i m s ∧ HasPassed c m s := by
  unfold missedMarker Expects HasPassed
  have passed_iff : ∀ row : CompartmentRow, passed (tracker c s).direction (tracker c s).reported m.depth row.missDistance
      = true ↔ ((tracker c s).direction = .down ∧ m.depth + row.missDistance < (tracker c s).reported
        ∨ (tracker c s).direction = .up ∧ (tracker c s).reported < m.depth - row.missDistance) := by
    intro row
    cases (tracker c s).direction <;> simp [passed]
  cases expected : (tracker c s).expected with
  | none => simp [expected]
  | some k =>
    cases found : compartmentRow c s with
    | none => simp [expected]
    | some row =>
      cases at_k : (markers s)[k]? with
      | none =>
        simp only [expected, at_k]
        constructor
        · simp
        · rintro ⟨-, ⟨eq, at_i⟩, -⟩
          obtain rfl := Option.some.inj eq
          simp [at_k] at at_i
      | some m' =>
        simp only [expected, at_k]
        constructor
        · intro h
          split at h
          · rename_i both
            obtain ⟨rfl, rfl⟩ := Prod.mk.inj (Option.some.inj h)
            exact ⟨both.1, ⟨rfl, at_k⟩, row, rfl, (passed_iff row).1 both.2⟩
          · cases h
        · rintro ⟨datumed, ⟨eq, at_i⟩, row', eq', far⟩
          obtain rfl := Option.some.inj eq
          obtain rfl := Option.some.inj eq'
          obtain rfl := Option.some.inj (at_k.symm.trans at_i)
          exact if_pos ⟨datumed, (passed_iff _).2 far⟩

/-- How many markers lie ahead of a depth. -/
def markersAhead (c : Conveyance) (dir : Direction) (here : Int) (ms : List MarkerRow) : Nat :=
  ms.countP fun m => decide (m.compartment = c) && !m.unreliable && isAhead dir here m.depth

theorem markersAhead_lt (c : Conveyance) (dir : Direction) (here : Int) (m : MarkerRow) (ms : List MarkerRow)
    (hm : m ∈ ms) (ahead : LiesAhead c dir here m) : markersAhead c dir m.depth ms < markersAhead c dir here ms := by
  have further : ∀ m' : MarkerRow, isAhead dir m.depth m'.depth = true → isAhead dir here m'.depth = true := by
    intro m' h
    have := ((mayExpect_iff c dir here m).2 ahead).2.2
    cases dir <;> simp [isAhead] at * <;> omega
  obtain ⟨left, right, rfl⟩ := List.append_of_mem hm
  have here_m : (decide (m.compartment = c) && !m.unreliable && isAhead dir here m.depth) = true := by
    obtain ⟨h1, h2, h3⟩ := (mayExpect_iff c dir here m).2 ahead
    simp [h1, h2, h3]
  have there_m : isAhead dir m.depth m.depth = false := by cases dir <;> simp [isAhead]
  have mono : ∀ l : List MarkerRow, markersAhead c dir m.depth l ≤ markersAhead c dir here l := by
    intro l
    refine List.countP_mono_left fun m' _ h => ?_
    simp only [Bool.and_eq_true] at h ⊢
    exact ⟨h.1, further m' h.2⟩
  have l := mono left
  have r := mono right
  unfold markersAhead at *
  rw [List.countP_append, List.countP_append, List.countP_cons, List.countP_cons, here_m, there_m]
  simp only [Bool.and_false, if_true, Bool.false_eq_true, if_false]
  omega

/-- The miss check's bound is no bound: enough steps for the markers ahead of the missed one are enough (R64). -/
theorem missCheck_enough (c : Conveyance) (n : Nat) (s : State)
    (h : ∀ i m, missedMarker c s = some (i, m) → markersAhead c (tracker c s).direction m.depth (markers s) < n) :
    missCheck c n s = missCheck c (n + 1) s := by
  induction n generalizing s with
  | zero =>
    cases missed : missedMarker c s with
    | none => simp [missCheck, missed]
    | some p => exact absurd (h p.1 p.2 missed) (by simp)
  | succ n ih =>
    cases missed : missedMarker c s with
    | none => simp [missCheck, missed]
    | some p =>
      obtain ⟨i, m⟩ := p
      have next : ∀ k, missCheck c (k + 1) s = missCheck c k (advanceBeyond c m.depth (takeMiss c i s)) := by
        intro k
        rw [missCheck, missed]
      rw [next n, next (n + 1)]
      refine ih _ fun j m' missed' => ?_
      have same : markers (takeMiss c i s) = markers s := by unfold markers; rw [takeMiss_shaft]
      have same' : markers (advanceBeyond c m.depth (takeMiss c i s)) = markers s := same
      have dir : (tracker c (advanceBeyond c m.depth (takeMiss c i s))).direction = (tracker c s).direction := by
        rw [advanceBeyond, setExpected, tracker_setTracker_same, takeMiss_tracker]
      have expected : (tracker c (advanceBeyond c m.depth (takeMiss c i s))).expected
          = nearestAhead (markers s) c (tracker c s).direction m.depth := by
        rw [advanceBeyond, setExpected, tracker_setTracker_same, takeMiss_tracker, same]
      obtain ⟨-, ⟨exp, at_j⟩, -⟩ := (missedMarker_iff c j m' _).1 missed'
      rw [expected] at exp
      rw [same'] at at_j
      obtain ⟨m'', at_j', ahead, -⟩ := (nearestAhead_isNearest c (tracker c s).direction m.depth s).2 j exp
      obtain rfl := Option.some.inj (at_j.symm.trans at_j')
      rw [dir, same']
      have := markersAhead_lt c (tracker c s).direction m.depth m' (markers s) (List.mem_of_getElem? at_j) ahead
      have := h i m missed
      omega

/-! ### Finishes and plans (R73, R77, R78, R83, R84, R94) -/

/-- The record of a finish says what the history holds of its trip (R94). -/
theorem historyRecord_isRecord (t : Trip) (outcome : TripOutcome) (cause : Option TripCause) (s : State) :
    IsRecord (historyRecord t outcome cause s) t outcome cause s := by
  refine ⟨rfl, rfl, rfl, rfl, rfl, rfl, fun length kind => ?_, fun k st kind at_k => ?_⟩
  · simp [historyRecord, stopDepthOf, kind]
  · simp [historyRecord, stopDepthOf, kind, at_k]

/-- The window test is the one of the statements (R83, R84). -/
theorem withinWindow_iff (t : Trip) (s : State) : withinWindow t s = true ↔ StandsAtStop t s := by
  unfold withinWindow StandsAtStop
  cases kind : t.kind with
  | travel length => simp [stopDepthOf, windowOf, kind]
  | station k =>
    cases at_k : (stations s)[k]? with
    | none => simp [stopDepthOf, windowOf, kind, at_k]
    | some st => simp [stopDepthOf, windowOf, kind, at_k]

/-- No hold stands against a trip exactly when the list of held zones in its way is empty (R75, R84). -/
theorem heldAgainst_eq_nil_iff (t : Trip) (s : State) : heldAgainst t s = [] ↔ ¬MeetsHold t s := by
  unfold heldAgainst MeetsHold
  rw [List.map_eq_nil_iff, List.filter_eq_nil_iff]
  constructor
  · rintro free ⟨n, z, h, at_n, held, way⟩
    refine free (z, n) (by simpa [List.mem_zipIdx_iff_getElem?] using at_n) ?_
    simpa [held] using way
  · rintro free ⟨z, n⟩ at_n way
    simp only [Bool.and_eq_true, Option.isSome_iff_exists] at way
    obtain ⟨⟨h, held⟩, way⟩ := way
    exact free ⟨n, z, h, by simpa [List.mem_zipIdx_iff_getElem?] using at_n, held, by simpa using way⟩

/-- The trip starts from where the conveyances stand (R76, R84). -/
theorem presentStarts_get (movesAll : Bool) (s : State) (c : Conveyance) :
    (presentStarts movesAll s).get c =
      if inMovingSet movesAll c = true ∧ (tracker c s).datumed = true then some (tracker c s).reported else none := by
  cases c <;> rfl

/-- The rope travel and the planned ends of a plan (R77). -/
theorem planned_ends (t : Trip) (s : State) : EndsAsPlanned (planned t s) s := by
  refine ⟨ropeTravel t s, fun length kind => ?_, fun k st start kind at_k at_start => ?_, fun c => ?_⟩
  · simp [ropeTravel, show t.kind = .travel length from kind]
  · have kind : t.kind = .station k := kind
    have at_start : t.starts.get t.lead.conveyance = some start := at_start
    simp [ropeTravel, stopDepthOf, kind, at_k, at_start]
  · have get : (planned t s).ends.get c = (t.starts.get c).map fun start => plannedEnd t c start s := by
      cases c <;> rfl
    refine ⟨fun no => ?_, fun start at_start => ⟨plannedEnd t c start s, ?_, fun k st kind at_k lead => ?_, fun other => ?_⟩⟩
    · rw [get, show t.starts.get c = none from no]; rfl
    · rw [get, show t.starts.get c = some start from at_start]; rfl
    · have kind : t.kind = .station k := kind
      have lead : c = t.lead.conveyance := lead
      simp [plannedEnd, isLead, stopDepthOf, kind, at_k, lead]
    · have moved : plannedEnd t c start s = movedBy c t.direction start (ropeTravel t s) := by
        rcases other with ⟨length, kind⟩ | away
        · have kind : t.kind = .travel length := kind
          simp [plannedEnd, stopDepthOf, kind]
        · have away : c ≠ t.lead.conveyance := away
          have not_lead : isLead t c = false := by simp [isLead, Ne.symm away]
          simp [plannedEnd, not_lead]
      rw [moved]
      rfl

/-- A zone lies in the claimed interval of its compartment exactly when the trip claims it (R78). -/
theorem claimsZone_iff (t : Trip) (z : ZoneRow) (s : State) : claimsZone t t.starts t.ends z s = true ↔ Claims t z s := by
  unfold claimsZone Claims
  cases starts : t.starts.get z.compartment with
  | none => simp
  | some start =>
    cases ends : t.ends.get z.compartment with
    | none => simp
    | some finish =>
      cases found : compartmentRow z.compartment s with
      | none => simp
      | some row =>
        have lead : (isLead t z.compartment = true) ↔ z.compartment = t.lead.conveyance := by
          simp [isLead, eq_comm]
        have margin : (if isLead t z.compartment = true then 0 else followerMargin s)
            = if z.compartment = t.lead.conveyance then 0 else followerMargin s := by
          by_cases h : z.compartment = t.lead.conveyance
          · rw [if_pos h, if_pos (lead.2 h)]
          · rw [if_neg h, if_neg (mt lead.1 h)]
        simp only [claimedInterval, margin]
        constructor
        · intro h
          refine ⟨row, start, finish, rfl, rfl, rfl, ?_⟩
          split at h <;> rename_i down <;> simp [meets, down] at h ⊢ <;> omega
        · rintro ⟨row', start', finish', e1, e2, e3, h⟩
          obtain rfl := Option.some.inj e1
          obtain rfl := Option.some.inj e2
          obtain rfl := Option.some.inj e3
          split <;> rename_i down <;> simp [meets, down] at h ⊢ <;> omega

/-- A planned trip carries its plan (R77, R78). -/
theorem planned_carries (t : Trip) (s : State) : CarriesItsPlan (planned t s) s := by
  refine ⟨planned_ends t s, fun n => ?_⟩
  have swept : (planned t s).swept = zonesWhere (zoneList s) fun z => claimsZone (planned t s) (planned t s).starts
      (planned t s).ends z s := rfl
  rw [swept]
  simp only [zonesWhere, List.mem_map, List.mem_filter]
  constructor
  · rintro ⟨⟨z, i⟩, ⟨at_i, claims⟩, rfl⟩
    exact ⟨z, by simpa [List.mem_zipIdx_iff_getElem?] using at_i, (claimsZone_iff ..).1 claims⟩
  · rintro ⟨z, at_n, claims⟩
    exact ⟨(z, n), ⟨by simpa [List.mem_zipIdx_iff_getElem?] using at_n, (claimsZone_iff ..).2 claims⟩, rfl⟩

/-- A promoted trip is re-based (R84). -/
theorem rebased_isRebased (w : Trip) (s : State) : IsRebased (rebased w s) w s := by
  refine ⟨rfl, fun c => presentStarts_get w.movesAll s c, fun k st start kind at_k at_start => ?_, planned_carries _ s,
    ?_, ?_⟩
  · have kind : w.kind = .station k := kind
    have at_start : (presentStarts w.movesAll s).get w.lead.conveyance = some start := at_start
    have direction : (rebased w s).direction = directionToward w.lead start st.stopDepth w.direction := by
      simp [rebased, planned, stopDepthOf, kind, at_k, at_start]
    have lead : (rebased w s).lead = w.lead := rfl
    rw [direction, lead]
    unfold directionToward
    cases w.lead <;> constructor <;> intro h <;> simp [h, Lead.conveyance, not_lt_of_gt] <;> decide
  · rintro ⟨length, kind⟩
    simp [rebased, planned, stopDepthOf, kind]
  · intro k st kind at_k at_start
    have at_start : (presentStarts w.movesAll s).get w.lead.conveyance = some st.stopDepth := at_start
    simp [rebased, planned, stopDepthOf, kind, at_k, at_start, directionToward]

/-- A finish of both slots, as the statements say it (R83, R94). -/
theorem finishBoth_finishes (trip : Trip) (outcome : TripOutcome) (cause : Option TripCause) (s : State)
    (active : s.pipeline.active = some trip) : FinishesBoth trip outcome cause s (finishBoth outcome cause s) := by
  have first : (finishActive outcome cause s).pipeline
      = { active := none, waiting := s.pipeline.waiting,
          history := (historyRecord trip outcome cause s :: s.pipeline.history).take 2 } := by
    simp [finishActive, active, placeRecord, endStop, setActive, Config.historyRecords]
  unfold finishBoth finishWaiting
  cases waiting : s.pipeline.waiting with
  | none =>
    rw [first, waiting]
    refine ⟨by rw [first], by rw [first, waiting], _, historyRecord_isRecord .., fun _ => by rw [first], fun w h => ?_⟩
    rw [waiting] at h
    cases h
  | some w =>
    rw [first, waiting]
    have second : (placeRecord (historyRecord w .discarded none (finishActive outcome cause s))
        (setWaiting none (finishActive outcome cause s))).pipeline
        = { active := none, waiting := none,
            history := [historyRecord w .discarded none s, historyRecord trip outcome cause s] } := by
      have same : historyRecord w .discarded none (finishActive outcome cause s) = historyRecord w .discarded none s := by
        simp [historyRecord, tracker, stopDepthOf, stations]
      simp [placeRecord, setWaiting, Config.historyRecords, first, same]
    refine ⟨by rw [second], by rw [second], _, historyRecord_isRecord .., fun h => ?_, fun w' h => ?_⟩
    · rw [waiting] at h
      cases h
    · rw [waiting] at h
      obtain rfl := Option.some.inj h
      exact ⟨_, historyRecord_isRecord .., by rw [second]⟩

end Sys2Proof.Machine
end

