-- ==== Sys2Proof/Laws/Notices.lean ====
section
/-! SUPPORT. Notices.lean: what an event adds to the upstream queue before its hand-on, ATTENTION notices alone, and what the judging
of the watch list adds then (R155, R185, R190); and the constraints of R97 to R103 in the words of the statements. -/

namespace Sys2Proof.Machine

/-! ### Attention notices -/

/-- Between two states the upstream queue took ATTENTION notices at its tail, if anything, and the watch list stayed. -/
def NoticesOnly (s t : State) : Prop :=
  t.zones.watchList = s.zones.watchList
    ∧ ∃ notices, t.line.queue = s.line.queue ++ notices ∧ ∀ f ∈ notices, IsAttention f

theorem NoticesOnly.of_same {s t : State} (list : t.zones.watchList = s.zones.watchList)
    (queue : t.line.queue = s.line.queue) : NoticesOnly s t :=
  ⟨list, [], by simpa using queue, by simp⟩

theorem NoticesOnly.refl (s : State) : NoticesOnly s s := .of_same rfl rfl

theorem NoticesOnly.trans {s t u : State} (h : NoticesOnly s t) (k : NoticesOnly t u) : NoticesOnly s u := by
  obtain ⟨list, notices, queue, all⟩ := h
  obtain ⟨list', notices', queue', all'⟩ := k
  refine ⟨list'.trans list, notices ++ notices', by rw [queue', queue, List.append_assoc], fun f hf => ?_⟩
  rcases List.mem_append.mp hf with hf | hf
  · exact all f hf
  · exact all' f hf

theorem attentionNotice_isAttention (f : Flag) (s : State) :
    IsAttention { frame := attentionNotice f s, mark := .part } :=
  ⟨rfl, f.index, s.requests.flags.toNat, rfl⟩

theorem NoticesOnly.count (c : Counter) (s : State) : NoticesOnly s (count c s) := .of_same (by simp) (by simp)

theorem NoticesOnly.appendUp (f : Flag) (s u : State) : NoticesOnly s (appendUp .part (attentionNotice f u) s) :=
  ⟨rfl, [{ frame := attentionNotice f u, mark := .part }], rfl, fun g hg => by
    obtain rfl := List.mem_singleton.mp hg
    exact attentionNotice_isAttention f u⟩

theorem NoticesOnly.raiseDrop (s : State) : NoticesOnly s (raiseDrop s) := by
  unfold Machine.raiseDrop; dsimp only; split
  · exact .refl s
  · have marked : NoticesOnly s (markFlag .drop s) := .of_same (by simp) (by simp)
    split
    · exact marked.trans (.appendUp .drop _ _)
    · exact marked.trans (.count _ _)

/-- Setting a flag adds ATTENTION notices alone: its own, and DROP's if that one is dropped (R169, R185). -/
theorem NoticesOnly.setFlag (f : Flag) (s : State) : NoticesOnly s (setFlag f s) := by
  unfold Machine.setFlag; dsimp only; split
  · exact .refl s
  · have marked : NoticesOnly s (markFlag f s) := .of_same (by simp) (by simp)
    unfold Machine.offerUp; split
    · exact marked.trans (.appendUp f _ _)
    · exact marked.trans ((NoticesOnly.count _ _).trans (.raiseDrop _))

/-! ### Finishes and causes -/

theorem NoticesOnly.placeRecord (r : HistoryRecord) (s : State) : NoticesOnly s (placeRecord r s) :=
  (NoticesOnly.of_same rfl rfl : NoticesOnly s { s with pipeline.history := _ }).trans (.setFlag .finish _)

theorem NoticesOnly.finishActive (o : TripOutcome) (c : Option TripCause) (s : State) :
    NoticesOnly s (finishActive o c s) := by
  unfold Machine.finishActive; split
  · exact .refl s
  · exact (NoticesOnly.of_same rfl rfl).trans (.placeRecord _ _)

theorem NoticesOnly.finishWaiting (o : TripOutcome) (c : Option TripCause) (s : State) :
    NoticesOnly s (finishWaiting o c s) := by
  unfold Machine.finishWaiting; split
  · exact .refl s
  · exact (NoticesOnly.of_same rfl rfl).trans (.placeRecord _ _)

theorem NoticesOnly.finishBoth (o : TripOutcome) (c : Option TripCause) (s : State) : NoticesOnly s (finishBoth o c s) :=
  (NoticesOnly.finishActive o c s).trans (.finishWaiting _ _ _)

theorem NoticesOnly.promote (s : State) : NoticesOnly s (promote s) := by
  unfold Machine.promote; split
  · exact .refl s
  · next t _ =>
    have moved : NoticesOnly s (setActive (some (rebased t s)) (setWaiting none s)) := .of_same rfl rfl
    dsimp only
    split
    · exact moved.trans (.finishActive _ _ _)
    · split
      · exact moved.trans (.finishActive _ _ _)
      · exact moved

theorem NoticesOnly.finishAtRest (s : State) : NoticesOnly s (finishAtRest s) := by
  unfold Machine.finishAtRest; split
  · exact .refl s
  · split
    · split
      · split
        · exact .finishBoth _ _ _
        · exact (NoticesOnly.finishActive _ _ _).trans (.promote _)
      · exact .finishBoth _ _ _
      · exact .refl s
    · exact .refl s

theorem NoticesOnly.loseDown (s : State) : NoticesOnly s (loseDown s) :=
  (NoticesOnly.count _ s).trans (.setFlag _ _)

theorem NoticesOnly.placeDemand (f : Frame) (s : State) : NoticesOnly s (placeDemand f s) := by
  unfold Machine.placeDemand; dsimp only; split
  · exact .refl s
  · split
    · exact .of_same rfl rfl
    · exact (NoticesOnly.loseDown s).trans (.of_same rfl rfl)

theorem NoticesOnly.abandon (reason : AbandonReason) (s : State) : NoticesOnly s (abandon reason s) := by
  unfold Machine.abandon; split
  · exact (NoticesOnly.of_same rfl rfl).trans (.setFlag _ _)
  · exact .refl s

theorem NoticesOnly.protectiveTrip (c : Cause) (s : State) : NoticesOnly s (protectiveTrip c s) := by
  unfold Machine.protectiveTrip openChain; dsimp only
  refine NoticesOnly.trans ?_ (.abandon _ _)
  refine NoticesOnly.trans (t := Machine.finishBoth _ _ _) ?_ (.of_same rfl rfl)
  refine NoticesOnly.trans ?_ (.finishBoth _ _ _)
  refine NoticesOnly.trans ?_ (.placeDemand _ _)
  exact (NoticesOnly.of_same rfl rfl).trans (.setFlag _ _)

/-- A cause taken adds the notices of the flags that it sets, and nothing else (R136, R190). -/
theorem NoticesOnly.reportCause (c : Cause) (s : State) : NoticesOnly s (reportCause c s) := by
  unfold Machine.reportCause; split
  · exact .refl s
  · exact .protectiveTrip c s
  · exact .protectiveTrip c s
  · exact .of_same rfl rfl

theorem NoticesOnly.reportIf (b : Bool) (c : Cause) (s : State) : NoticesOnly s (reportIf b c s) := by
  unfold Machine.reportIf; split
  · exact .reportCause c s
  · exact .refl s

/-! ### The trackers' checks -/

theorem NoticesOnly.takeMiss (c : Conveyance) (i : Nat) (s : State) : NoticesOnly s (takeMiss c i s) := by
  have recorded (r : MarkerRecord) : NoticesOnly s (setRecord i r s) := .of_same rfl rfl
  have noted (b : Bool) (u : State) : NoticesOnly u (if b then Machine.setFlag .suspect u else u) := by
    split
    · exact .setFlag _ _
    · exact .refl u
  have flagged (u : State) : NoticesOnly u (if (tracker c u).missFlag then Machine.reportCause .position u
      else setTracker c { tracker c u with missFlag := true } u) := by
    split
    · exact .reportCause _ _
    · exact .of_same (by simp) (by simp)
  exact ((recorded _).trans (noted _ _)).trans (((NoticesOnly.count _ _).trans (.setFlag _ _)).trans (flagged _))

theorem NoticesOnly.missCheck (c : Conveyance) (n : Nat) (s : State) : NoticesOnly s (missCheck c n s) := by
  induction n generalizing s with
  | zero => exact .refl s
  | succ n ih =>
    unfold Machine.missCheck; split
    · exact .refl s
    · next i m _ =>
      have advanced : NoticesOnly (Machine.takeMiss c i s) (advanceBeyond c m.depth (Machine.takeMiss c i s)) :=
        .of_same (by simp [advanceBeyond, setExpected]) (by simp [advanceBeyond, setExpected])
      exact ((NoticesOnly.takeMiss c i s).trans advanced).trans (ih _)

theorem NoticesOnly.depthChecks (c : Conveyance) (s : State) : NoticesOnly s (depthChecks c s) := by
  unfold Machine.depthChecks; split
  · exact (NoticesOnly.missCheck c _ s).trans (.reportIf _ _ _)
  · exact .refl s

theorem NoticesOnly.followOn (c : Conveyance) (before : Int) (s : State) : NoticesOnly s (followOn c before s) := by
  unfold Machine.followOn checkSlack; split
  · exact .reportIf _ _ _
  · exact (NoticesOnly.depthChecks c s).trans (.reportIf _ _ _)

/-! ### The judging of the watch list -/

/-- Frames offered one after another join the tail for as long as there is room, with nothing behind them, unless DROP's
own notice found room, which it cannot at a full queue (R155, R169). -/
theorem offerAll_queue (n : WatchEntry → Frame) (due : List WatchEntry) (s : State) :
    (due.foldl (fun s e => offerUp .part (n e) s) s).line.queue
      = s.line.queue ++ (due.map fun e => ({ frame := n e, mark := .part } : UpFrame)).take (16 - s.line.queue.length) := by
  induction due generalizing s with
  | nil => simp
  | cons e rest ih =>
    rw [List.foldl_cons, ih, List.map_cons]
    by_cases room : s.line.queue.length < 16
    · have offered : (offerUp .part (n e) s).line.queue = s.line.queue ++ [{ frame := n e, mark := .part }] := by
        simp [offerUp, (upRoom_part s).mpr room]
      obtain ⟨k, hk⟩ : ∃ k, 16 - s.line.queue.length = k + 1 := ⟨15 - s.line.queue.length, by omega⟩
      rw [offered, hk, List.take_succ_cons, List.length_append, List.length_singleton,
        show 16 - (s.line.queue.length + 1) = k by omega, List.append_assoc, List.singleton_append]
    · have kept : (offerUp .part (n e) s).line.queue = s.line.queue := by
        have none : ¬upRoom .part s = true := by rw [upRoom_part]; exact room
        unfold offerUp raiseDrop
        rw [if_neg none]
        dsimp only
        split
        · simp
        · rw [if_neg (show ¬upRoom .part (markFlag .drop (count .droppedUp s)) = true by rw [upRoom_part]; simpa using room)]
          simp
      rw [kept, show 16 - s.line.queue.length = 0 by omega]
      simp

/-- The notices of one judgement all carry the zones as they stood when it began: offering frames changes none. -/
theorem offerAll_notices (due : List WatchEntry) (s : State) :
    due.foldl (fun s e => offerUp .part (zoneClearNotice e s) s) s
      = due.foldl (fun u e => offerUp .part (zoneClearNotice e s) u) s := by
  have go (u : State) (tables : u.tables = s.tables) (zones : u.zones = s.zones) :
      due.foldl (fun s e => offerUp .part (zoneClearNotice e s) s) u
        = due.foldl (fun u e => offerUp .part (zoneClearNotice e s) u) u := by
    induction due generalizing u with
    | nil => rfl
    | cons e rest ih =>
      have same : zoneClearNotice e u = zoneClearNotice e s := by
        unfold zoneClearNotice
        rw [summaryOf_congr (s := s) (t := u) e.zone (by rw [tables]) (by rw [zones]) (by rw [zones]) (by rw [zones])
          (by rw [zones]), show holderOf e.zone u = holderOf e.zone s by unfold holderOf; rw [zones]]
      rw [List.foldl_cons, List.foldl_cons, same]
      exact ih _ (by simpa using tables) (by simpa using zones)
  exact go s rfl rfl

/-- A judgement keeps the entries whose zones stay watched, in order, and offers one ZONE CLEAR notice for each other
entry, in order, while the upstream queue has room (R155). -/
theorem judgeWatchList_queue (s : State) :
    (judgeWatchList s).line.queue
      = s.line.queue ++ ((s.zones.watchList.filter fun e => !(summaryOf e.zone s).staysWatched).map fun e =>
          ({ frame := zoneClearNotice e s, mark := .part } : UpFrame)).take (16 - s.line.queue.length) := by
  unfold judgeWatchList
  dsimp only
  rw [offerAll_notices, offerAll_queue]
  rfl

/-! ### Constraints and envelopes (R97 to R104) -/

theorem isFloorRoot_iff (root n : Nat) : IsFloorRoot root n ↔ root = isqrt n := by
  rw [isqrt_eq_sqrt, Nat.eq_sqrt]; rfl

theorem isTargetConstraint_iff (v : Nat) (R : RegimeRow) (d : Int) :
    IsTargetConstraint v R d ↔ v = targetConstraint R d := by
  unfold IsTargetConstraint targetConstraint
  by_cases near : d ≤ 0
  · rw [if_pos near]
    exact ⟨fun h => h.1 near, fun h => ⟨fun _ => h, fun far => by omega, fun beyond at_ far => by omega⟩⟩
  rw [if_neg near]
  by_cases creep : d ≤ R.dCreep
  · rw [if_pos creep]
    exact ⟨fun h => h.2.1 (by omega) creep,
      fun h => ⟨fun far => absurd far near, fun _ _ => h, fun beyond at_ far => by omega⟩⟩
  rw [if_neg creep, Nat.pow_two, ← isFloorRoot_iff]
  refine ⟨fun h => h.2.2 _ (by omega) (by omega), fun h => ⟨fun far => absurd far near, fun _ far => absurd far creep,
    fun beyond at_ _ => ?_⟩⟩
  rwa [show beyond = (d - (R.dCreep : Int)).toNat by omega]

/-- The values that constrain a moved conveyance are the regime ceiling and the listed constraints (R103). -/
theorem constrains_iff (v : Nat) (trip : Trip) (c : Conveyance) (R : RegimeRow) (row : CompartmentRow) (s : State) :
    Constrains v trip c R row s ↔ v = R.vMax ∨ v ∈ constraints trip c R row s := by
  have target : (if c = trip.lead.conveyance then distanceToTarget trip s
      else if goesDown c trip.direction = true then row.bottomLimit - (tracker c s).reported
      else (tracker c s).reported - row.topLimit) = targetDistance trip c row s := by
    by_cases lead : c = trip.lead.conveyance
    · simp [targetDistance, isLead, lead]
    · simp [targetDistance, isLead, lead, Ne.symm lead]
  unfold Constrains
  dsimp only
  unfold constraints
  dsimp only
  rw [target, isTargetConstraint_iff]
  generalize targetDistance trip c row s = d
  have present : (∃ z ∈ zoneList s, z.compartment = c ∧ z.top ≤ (tracker c s).reported + (row.bodyBelow : Int)
      ∧ (tracker c s).reported - (row.bodyAbove : Int) ≤ z.bottom ∧ v = z.ceiling)
      ↔ v ∈ presentCeilings (zoneList s) c row (tracker c s).reported := by
    simp only [presentCeilings, List.mem_map, List.mem_filter, Bool.and_eq_true, decide_eq_true_eq, meets]
    exact ⟨fun ⟨z, mem, own, top, bottom, is⟩ => ⟨z, ⟨mem, own, bottom, top⟩, is.symm⟩,
      fun ⟨z, ⟨mem, own, bottom, top⟩, is⟩ => ⟨z, mem, own, top, bottom, is.symm⟩⟩
  have ahead : (∃ z ∈ zoneList s, z.compartment = c ∧ ∃ ahead : Nat,
        (goesDown c trip.direction = true → (ahead : Int) = z.top - ((tracker c s).reported + (row.bodyBelow : Int)))
        ∧ (¬goesDown c trip.direction = true → (ahead : Int) = (tracker c s).reported - (row.bodyAbove : Int) - z.bottom)
        ∧ 0 < ahead ∧ (ahead : Int) ≤ d ∧ IsFloorRoot v (z.ceiling * z.ceiling + 2 * R.decel * ahead))
      ↔ v ∈ aheadConstraints (zoneList s) c R (goesDown c trip.direction)
          (leadingEdge row (goesDown c trip.direction) (tracker c s).reported) d := by
    simp only [aheadConstraints, List.mem_map, List.mem_filter, Bool.and_eq_true, decide_eq_true_eq]
    constructor
    · rintro ⟨z, mem, own, n, down, up, some, near, root⟩
      have is : zoneDistance (goesDown c trip.direction)
          (leadingEdge row (goesDown c trip.direction) (tracker c s).reported) z = n := by
        cases way : goesDown c trip.direction
        · simp [zoneDistance, leadingEdge, up (by simp [way])]
        · simp [zoneDistance, leadingEdge, down way]
      refine ⟨z, ⟨mem, own, by rw [is]; omega, by rw [is]; exact near⟩, ?_⟩
      rw [is, Int.toNat_natCast, Nat.pow_two, (isFloorRoot_iff _ _).mp root]
    · rintro ⟨z, ⟨mem, own, some, near⟩, is⟩
      refine ⟨z, mem, own, _, fun way => ?_, fun way => ?_, Int.lt_toNat.mpr some,
        by rw [Int.toNat_of_nonneg (Int.le_of_lt some)]; exact near,
        (isFloorRoot_iff _ _).mpr (by rw [← is, Nat.pow_two])⟩
      · rw [Int.toNat_of_nonneg (Int.le_of_lt some)]; simp [zoneDistance, leadingEdge, way]
      · rw [Int.toNat_of_nonneg (Int.le_of_lt some)]; simp [zoneDistance, leadingEdge, way]
  have leads : c = trip.lead.conveyance ↔ isLead trip c = true := by simp [isLead, eq_comm]
  rw [present, ahead, leads]
  cases (tracker c s).datumed <;> cases isLead trip c <;> simp

theorem least_mem (n : Nat) (others : List Nat) : least n others = n ∨ least n others ∈ others := by
  induction others generalizing n with
  | nil => exact .inl rfl
  | cons a rest ih =>
    have next : least n (a :: rest) = least (min n a) rest := rfl
    rw [next]
    rcases ih (min n a) with h | h
    · rcases Nat.le_total n a with le | le
      · exact .inl (by rw [h, Nat.min_eq_left le])
      · exact .inr (by rw [h, Nat.min_eq_right le]; exact List.mem_cons_self ..)
    · exact .inr (List.mem_cons_of_mem _ h)

/-- An envelope is the least value that constrains its conveyance (R103). -/
theorem envelopeOf_least (trip : Trip) (c : Conveyance) (R : RegimeRow) (row : CompartmentRow) (s : State) :
    Constrains (envelopeOf trip c R row s) trip c R row s
      ∧ ∀ v, Constrains v trip c R row s → envelopeOf trip c R row s ≤ v := by
  refine ⟨(constrains_iff ..).mpr (least_mem _ _), fun v h => ?_⟩
  rcases (constrains_iff ..).mp h with rfl | h
  · exact least_le_start _ _
  · exact least_le_mem _ _ h

end Sys2Proof.Machine
end

