-- ==== Sys2Proof/Laws/PerInstr.lean ====
section
/-! SUPPORT. PerInstr.lean: the family BodyFits: what a well-formed command puts into a frame's body fits a frame (R172). One lemma
per command. -/

namespace Sys2Proof.Laws

open Machine in
/-- The body of the frame that carries a command: the body as sent, or a request's kind, tag and parameters (R172). An
input, a silence, a timer, a transmission and a rejected run of bytes carry none. -/
def BodyFits.carried (i : Instr) : List Byte :=
  match i with
  | .nrst => []
  | .keyChange _ => []
  | .frameRejected _ _ => []
  | .drumSample _ _ body => body
  | .sampleWatchExpiry _ => []
  | .restTimerExpiry _ => []
  | .markerEvent _ _ body => body
  | .ropeLoad _ _ body => body
  | .interlockState _ _ body => body
  | .driveAnswer _ _ body => body
  | .dLinkOtherFrame _ _ _ body => body
  | .speedReference _ _ body => body
  | .brakeCommand _ _ body => body
  | .clutchCommand _ _ body => body
  | .brakeDemand _ _ body => body
  | .downstreamOtherFrame _ _ _ body => body
  | .dTransmitStart => []
  | .dTransmitEnd => []
  | .cTransmitStart => []
  | .cTransmitEnd => []
  | .unknownRequest _ kind tag params => kind :: tag :: params
  | .rowLoad _ tag params => RequestKind.code .rowLoad :: tag :: params
  | .rowRead _ tag params => RequestKind.code .rowRead :: tag :: params
  | .commitPrepare _ tag params => RequestKind.code .commitPrepare :: tag :: params
  | .validationComplete => []
  | .commitConfirm _ tag params => RequestKind.code .commitConfirm :: tag :: params
  | .commitCancel _ tag params => RequestKind.code .commitCancel :: tag :: params
  | .tripRequest _ tag params => RequestKind.code .tripRequest :: tag :: params
  | .tripAbort _ tag params => RequestKind.code .tripAbort :: tag :: params
  | .refWatchExpiry => []
  | .stopDeadlineExpiry => []
  | .echoTimerExpiry => []
  | .tripReset _ tag params => RequestKind.code .tripReset :: tag :: params
  | .restart _ tag params => RequestKind.code .restart :: tag :: params
  | .zoneInquiry _ tag params => RequestKind.code .zoneInquiry :: tag :: params
  | .zoneHold _ tag params => RequestKind.code .zoneHold :: tag :: params
  | .zoneRelease _ tag params => RequestKind.code .zoneRelease :: tag :: params
  | .statusRead _ tag params => RequestKind.code .statusRead :: tag :: params
  | .positionRead _ tag params => RequestKind.code .positionRead :: tag :: params
  | .counterRead _ tag params => RequestKind.code .counterRead :: tag :: params
  | .receiverIdle _ => []

/-- A well-formed command's body has at most the 56 bytes of a frame (R172). -/
def BodyFits.Statement (i : Instr) : Prop := i.wellFormed = true → (BodyFits.carried i).length ≤ 56

theorem BodyFits.params_fit {kind tag : Byte} {params : List Byte} (h : paramsFit params = true) :
    (kind :: tag :: params).length ≤ 56 := by
  have : params.length ≤ 54 := of_decide_eq_true h
  simp only [List.length_cons]
  omega

theorem BodyFits.nrst : Statement (.nrst) :=
  fun _ => Nat.zero_le _

theorem BodyFits.keyChange (position : KeyPosition) : Statement (.keyChange position) :=
  fun _ => Nat.zero_le _

theorem BodyFits.frameRejected (link : Link) (bytes : List LineByte) : Statement (.frameRejected link bytes) :=
  fun _ => Nat.zero_le _

theorem BodyFits.drumSample (origin target : Byte) (body : List Byte) : Statement (.drumSample origin target body) :=
  fun h => of_decide_eq_true h

theorem BodyFits.sampleWatchExpiry (drum : Drum) : Statement (.sampleWatchExpiry drum) :=
  fun _ => Nat.zero_le _

theorem BodyFits.restTimerExpiry (drum : Drum) : Statement (.restTimerExpiry drum) :=
  fun _ => Nat.zero_le _

theorem BodyFits.markerEvent (origin target : Byte) (body : List Byte) : Statement (.markerEvent origin target body) :=
  fun h => of_decide_eq_true h

theorem BodyFits.ropeLoad (origin target : Byte) (body : List Byte) : Statement (.ropeLoad origin target body) :=
  fun h => of_decide_eq_true h

theorem BodyFits.interlockState (origin target : Byte) (body : List Byte) : Statement (.interlockState origin target body) :=
  fun h => of_decide_eq_true h

theorem BodyFits.driveAnswer (origin target : Byte) (body : List Byte) : Statement (.driveAnswer origin target body) :=
  fun h => of_decide_eq_true h

theorem BodyFits.dLinkOtherFrame (cls origin target : Byte) (body : List Byte) : Statement (.dLinkOtherFrame cls origin target body) :=
  fun h => of_decide_eq_true (Bool.and_eq_true_iff.mp h).2

theorem BodyFits.speedReference (origin target : Byte) (body : List Byte) : Statement (.speedReference origin target body) :=
  fun h => of_decide_eq_true h

theorem BodyFits.brakeCommand (origin target : Byte) (body : List Byte) : Statement (.brakeCommand origin target body) :=
  fun h => of_decide_eq_true h

theorem BodyFits.clutchCommand (origin target : Byte) (body : List Byte) : Statement (.clutchCommand origin target body) :=
  fun h => of_decide_eq_true h

theorem BodyFits.brakeDemand (origin target : Byte) (body : List Byte) : Statement (.brakeDemand origin target body) :=
  fun h => of_decide_eq_true h

theorem BodyFits.downstreamOtherFrame (cls origin target : Byte) (body : List Byte) : Statement (.downstreamOtherFrame cls origin target body) :=
  fun h => of_decide_eq_true (Bool.and_eq_true_iff.mp h).2

theorem BodyFits.dTransmitStart : Statement (.dTransmitStart) :=
  fun _ => Nat.zero_le _

theorem BodyFits.dTransmitEnd : Statement (.dTransmitEnd) :=
  fun _ => Nat.zero_le _

theorem BodyFits.cTransmitStart : Statement (.cTransmitStart) :=
  fun _ => Nat.zero_le _

theorem BodyFits.cTransmitEnd : Statement (.cTransmitEnd) :=
  fun _ => Nat.zero_le _

theorem BodyFits.unknownRequest (origin kind tag : Byte) (params : List Byte) : Statement (.unknownRequest origin kind tag params) :=
  fun h => params_fit (Bool.and_eq_true_iff.mp h).2

theorem BodyFits.rowLoad (origin tag : Byte) (params : List Byte) : Statement (.rowLoad origin tag params) :=
  fun h => params_fit h

theorem BodyFits.rowRead (origin tag : Byte) (params : List Byte) : Statement (.rowRead origin tag params) :=
  fun h => params_fit h

theorem BodyFits.commitPrepare (origin tag : Byte) (params : List Byte) : Statement (.commitPrepare origin tag params) :=
  fun h => params_fit h

theorem BodyFits.validationComplete : Statement (.validationComplete) :=
  fun _ => Nat.zero_le _

theorem BodyFits.commitConfirm (origin tag : Byte) (params : List Byte) : Statement (.commitConfirm origin tag params) :=
  fun h => params_fit h

theorem BodyFits.commitCancel (origin tag : Byte) (params : List Byte) : Statement (.commitCancel origin tag params) :=
  fun h => params_fit h

theorem BodyFits.tripRequest (origin tag : Byte) (params : List Byte) : Statement (.tripRequest origin tag params) :=
  fun h => params_fit h

theorem BodyFits.tripAbort (origin tag : Byte) (params : List Byte) : Statement (.tripAbort origin tag params) :=
  fun h => params_fit h

theorem BodyFits.refWatchExpiry : Statement (.refWatchExpiry) :=
  fun _ => Nat.zero_le _

theorem BodyFits.stopDeadlineExpiry : Statement (.stopDeadlineExpiry) :=
  fun _ => Nat.zero_le _

theorem BodyFits.echoTimerExpiry : Statement (.echoTimerExpiry) :=
  fun _ => Nat.zero_le _

theorem BodyFits.tripReset (origin tag : Byte) (params : List Byte) : Statement (.tripReset origin tag params) :=
  fun h => params_fit h

theorem BodyFits.restart (origin tag : Byte) (params : List Byte) : Statement (.restart origin tag params) :=
  fun h => params_fit h

theorem BodyFits.zoneInquiry (origin tag : Byte) (params : List Byte) : Statement (.zoneInquiry origin tag params) :=
  fun h => params_fit h

theorem BodyFits.zoneHold (origin tag : Byte) (params : List Byte) : Statement (.zoneHold origin tag params) :=
  fun h => params_fit h

theorem BodyFits.zoneRelease (origin tag : Byte) (params : List Byte) : Statement (.zoneRelease origin tag params) :=
  fun h => params_fit h

theorem BodyFits.statusRead (origin tag : Byte) (params : List Byte) : Statement (.statusRead origin tag params) :=
  fun h => params_fit h

theorem BodyFits.positionRead (origin tag : Byte) (params : List Byte) : Statement (.positionRead origin tag params) :=
  fun h => params_fit h

theorem BodyFits.counterRead (origin tag : Byte) (params : List Byte) : Statement (.counterRead origin tag params) :=
  fun h => params_fit h

theorem BodyFits.receiverIdle (link : Link) : Statement (.receiverIdle link) :=
  fun _ => Nat.zero_le _

end Sys2Proof.Laws
end

