-- ==== Sys2Proof/Laws/Run.lean ====
section
/-! SUPPORT. Run.lean: every command and every step answers a next state. -/

namespace Sys2Proof.Machine

/-- Every command completes from every state. -/
theorem exec_next (i : Instr) (s : State) : ∃ t, exec i s = .next t := by
  cases i <;> exact ⟨_, rfl⟩

theorem step_empty {s : State} (h : s.pending = []) : step s = .next (passMicrosecond s) := by simp [step, h]

/-- Every step answers a next state. -/
theorem step_next (s : State) : ∃ t, step s = .next t := by
  unfold step
  split
  · exact exec_next _ _
  · exact ⟨_, rfl⟩

end Sys2Proof.Machine
end

