-- ==== Sys2Proof/Tests/Slice0.lean ====
section
/-! SUPPORT. Slice0.lean: tests of single steps against figures worked in the manual, ill-formed terms for each check of
WellFormed, and, for each statement with hypotheses, a state and operands that meet them. -/

-- One test after the other: the kernel evaluates each, and waiting ones would each hold a thread.
set_option Elab.async false

namespace Sys2Proof.Tests

open Machine

/-! ### Small states -/

/-- Both receivers in IDLE, both lines silent, nothing queued. -/
def quiet : State :=
  { State.reset with line := { cReceiver := .idle, dReceiver := .idle, queue := [], transmitter := .idle } }

/-- The compartments, some markers, zones and stations of the shaft described in the manual (1.3, 5 and 12). -/
def shaftRows : List Row :=
  [.shaft { pairSum := 3182000, pairTolerance := 800, followerMargin := 5000 },
   .compartment { compartment := .skip, topLimit := -18000, bottomLimit := 3175000, bodyAbove := 1500,
                  bodyBelow := 13500, sheaveHeight := 61000, compliance := 68, syncWindow := 250, missDistance := 2000,
                  slackThreshold := 6000 },
   .compartment { compartment := .cage, topLimit := -12000, bottomLimit := 3162000, bodyAbove := 1200,
                  bodyBelow := 4500, sheaveHeight := 58000, compliance := 65, syncWindow := 150, missDistance := 2000,
                  slackThreshold := 4000 },
   .compartment { compartment := .counterweight, topLimit := 20000, bottomLimit := 3194000, bodyAbove := 800,
                  bodyBelow := 6000, sheaveHeight := 58000, compliance := 65, syncWindow := 300, missDistance := 2500,
                  slackThreshold := 8000 },
   .marker { compartment := .skip, markerId := 506, depth := 2870000, unreliable := false },
   .marker { compartment := .cage, markerId := 1207, depth := 2150000, unreliable := false },
   .marker { compartment := .cage, markerId := 1208, depth := 2300000, unreliable := true },
   .marker { compartment := .cage, markerId := 1209, depth := 2330000, unreliable := false },
   .marker { compartment := .counterweight, markerId := 3104, depth := 1000000, unreliable := false },
   .zone { compartment := .skip, top := 2350000, bottom := 2599999, ceiling := 16000 },
   .zone { compartment := .skip, top := 2600000, bottom := 2849999, ceiling := 16000 },
   .zone { compartment := .skip, top := 2850000, bottom := 3049999, ceiling := 16000 },
   .zone { compartment := .cage, top := 1960000, bottom := 2199999, ceiling := 14000 },
   .zone { compartment := .cage, top := 2200000, bottom := 2419999, ceiling := 6000 },
   .zone { compartment := .cage, top := 2420000, bottom := 2749999, ceiling := 14000 },
   .zone { compartment := .counterweight, top := 400000, bottom := 699999, ceiling := 16000 },
   .zone { compartment := .counterweight, top := 700000, bottom := 999999, ceiling := 16000 },
   .zone { compartment := .counterweight, top := 1000000, bottom := 1299999, ceiling := 16000 },
   .station { compartment := .skip, stopDepth := 2440000, window := 300, allowed := 9 },
   .station { compartment := .cage, stopDepth := 2310000, window := 150, allowed := 14 }]

/-- The PROFILE table of the manual (1.4). -/
def profileRows : List Row :=
  [.timing { refWatch := 300, restSpeed := 20, restTime := 1500 },
   .regime { vMax := 16000, decel := 1000, vCreep := 800, dCreep := 4000, marginAbs := 400, marginPct := 6,
             stopDecel := 1200 },
   .regime { vMax := 14000, decel := 900, vCreep := 600, dCreep := 3000, marginAbs := 300, marginPct := 5,
             stopDecel := 1000 },
   .regime { vMax := 12000, decel := 800, vCreep := 500, dCreep := 3000, marginAbs := 300, marginPct := 5,
             stopDecel := 900 },
   .regime { vMax := 2000, decel := 400, vCreep := 300, dCreep := 1000, marginAbs := 150, marginPct := 10,
             stopDecel := 500 },
   .regime { vMax := 1000, decel := 300, vCreep := 1000, dCreep := 0, marginAbs := 150, marginPct := 10,
             stopDecel := 400 }]

/-- The three layers of the manual (1.5). -/
def layers : LayerRow :=
  { layerCount := 3, layer0 := { startCount := 0, scale := 20107 }, layer1 := { startCount := 2900000, scale := 20562 },
    layer2 := { startCount := 5760000, scale := 21017 }, layer3 := { startCount := 0, scale := 0 } }

/-- A DRUM table with the sample period of the manual (1.5). -/
def drumConstants : DrumRow :=
  { samplePeriod := 2000, sampleWatch := 20, disagreeLimit := 3000, holdLimit := 50, driftLimit := 200 }

def drumRows : List Row := [.drum drumConstants, .layers layers, .layers layers]

/-- A tracker that stands DATUMED at a reported depth with no load. -/
def datumedAt (depth : Int) : Tracker :=
  { State.resetTracker with datumed := true, offset := depth * 65536, baseFine := depth * 65536, reported := depth }

/-- A channel that is LOCKED and at rest, next sample at stamp 2000 with `seq` 1. -/
def lockedChannel : Channel :=
  { State.resetChannel with
    lock := .locked
    baseline := some { seq := 0, stamp := 0 }
    countRef := some 0
    atRest := true
    restTimer := some { lengthMs := 1500, runUs := 1500000 }
    watchTimer := some { lengthMs := 20, runUs := 0 } }

/-- The ARMED part at rest where trip 21 of the manual begins (5, "Worked example"), with an empty pipeline. -/
def armed : State :=
  handOn { quiet with
    tables := { shaft := { active := shaftRows, shadow := [], state := .loading }
                profile := { active := profileRows, shadow := [], state := .loading }
                drum := { active := drumRows, shadow := [], state := .loading }
                markers := freshRecords shaftRows, result := .none }
    drums := { skip := lockedChannel, cage := lockedChannel, disagree := 0, hold := 0, drift := 0 }
    trackers := { skip := datumedAt 2900000, cage := datumedAt 2140000, counterweight := datumedAt 1044429 }
    protection := { quiet.protection with
      state := .armed
      chainClosed := true
      driveHeard := true
      image := { readiness := 0xFFFFFF#32, clutch := .engaged, brakeApplied := true } }
    zones := { quiet.zones with holders := List.replicate 9 none } }

/-- Trip 21 of the manual: STATION, lead CAGE, PERSONS; the cage's station has index 1 here. -/
def trip21 : TripAsked :=
  { tag := 21, kind := .station 1, lead := .cage, regime := .persons, direction := .forward }

/-- Trip 21 in the ACTIVE slot in a state. -/
def carrying (st : TripState) (s : State) : State :=
  handOn { s with pipeline.active := some { candidate trip21 s with state := st, payoutOrigin := some 0 } }

/-- Trip 22 of the manual in the WAITING slot: STATION, lead SKIP, ROCK. -/
def queueing (s : State) : State :=
  handOn { s with pipeline.waiting := some (candidate { tag := 22, kind := .station 0, lead := .skip, regime := .rock,
                                                        direction := .forward } s) }

/-- The state a command leaves. -/
def after (i : Instr) (s : State) : State :=
  match exec i s with
  | .next t => t
  | _ => s

/-- The part right after the first steps of a protective trip on OVERSPEED, at rest. -/
def tripped : State := reportCause .overspeed armed

/-- The ARMED part with one conveyance UNDATUMED, and so in UNDATUMED. -/
def undatumed (c : Conveyance) : State :=
  handOn (setTracker c { tracker c armed with datumed := false } { armed with protection.state := .undatumed })

/-- A frame of no block. -/
def plain : Frame := makeFrame 0x99 1 2 [3]

/-- A waiting speed reference of the controller. -/
def waitingReference : DownFrame := { frame := makeFrame 0x10 1 20 (speedBody 7 11171 0), source := some .controller }

/-! ### Ill-formed terms, one for each check of WellFormed -/

theorem test_wellFormed_rejected : (Instr.frameRejected .c ((frameBytes plain).map goodByte)).wellFormed = false := by
  decide +kernel

theorem test_wellFormed_rejected_empty : (Instr.frameRejected .c []).wellFormed = false := by decide +kernel

theorem test_wellFormed_body : (Instr.brakeDemand 1 2 (List.replicate 57 0)).wellFormed = false := by decide +kernel

theorem test_wellFormed_params : (Instr.rowLoad 1 2 (List.replicate 55 0)).wellFormed = false := by decide +kernel

theorem test_wellFormed_otherField : (Instr.dLinkOtherFrame 0x20 1 2 []).wellFormed = false := by decide +kernel

theorem test_wellFormed_otherCommand :
    (Instr.downstreamOtherFrame 0x10 1 2 []).wellFormed = false
      ∧ (Instr.downstreamOtherFrame 0x40 1 240 []).wellFormed = false := by decide +kernel

theorem test_wellFormed_undefinedKind : (Instr.unknownRequest 1 0x0F 2 []).wellFormed = false := by decide +kernel

theorem test_wellFormed_accepts :
    (Instr.unknownRequest 1 0x10 2 []).wellFormed = true ∧ (Instr.dLinkOtherFrame 0x40 1 2 []).wellFormed = true
      ∧ (Instr.downstreamOtherFrame 0x40 1 241 []).wellFormed = true
      ∧ (Instr.brakeDemand 1 2 (List.replicate 56 0)).wellFormed = true
      ∧ (Instr.frameRejected .c [goodByte 5]).wellFormed = true := by decide +kernel

/-! ### The machine -/

/-- An empty queue idles but for the timers (assumption 7, DESIGN CHOICE). -/
theorem test_step_empty : (channel .skip (match step armed with | .next t => t | _ => quiet)).watchTimer
    = some { lengthMs := 20, runUs := 1 } := by decide +kernel

/-- No row of the table has bits. -/
theorem test_decode_none : decodeTableWord 32 0x40 = none := by decide +kernel

/-! ### Figures worked in the manual -/

/-- The check word over "123456789" (R165). -/
theorem test_check_word : checkWord [0x31, 0x32, 0x33, 0x34, 0x35, 0x36, 0x37, 0x38, 0x39] = 0x29B1#16 := by
  decide +kernel

/-- Layers worked through (1.5): the payout of 10,000,000 counts through three layers, and whole millimetres of it. -/
theorem test_layers : payoutChange layers 0 10000000 = 206229700000 ∧ mm 206229700000 = 3146815
    ∧ payoutChange layers 10000000 0 = -206229700000 := by decide +kernel

/-- Speed worked through (3.5). -/
theorem test_rope_speeds : ropeSpeed 1306955 2000 = 9971 ∧ ropeSpeed (-1325155) 2000 = 10110
    ∧ ropeSpeed 20107 2000 = 153 := by decide +kernel

/-- Stretch worked through (4.3): 1,714 mm for the cage, 1,934 and 5,803 mm for the skip. -/
theorem test_stretch :
    (compartmentRow .cage armed).map (fun r => stretchAt r 12000 2140000) = some 1714
      ∧ (compartmentRow .skip armed).map (fun r => stretchAt r 9000 3100000) = some 1934
      ∧ (compartmentRow .skip armed).map (fun r => stretchAt r 27000 3100000) = some 5803 := by decide +kernel

/-- Datum worked through (4.4): base 2,148,280, offset 789,678,080, reported 2,150,000. -/
theorem test_datum :
    let s := { undatumed .cage with drums.cage.payout := 140000000000 }
    let t := after (.markerEvent 30 0 (markerBody 1 1207 1)) (setTracker .cage { tracker .cage s with load := 12000 } s)
    (tracker .cage t).baseFine = 140789678080 ∧ (tracker .cage t).offset = 789678080
      ∧ (tracker .cage t).reported = 2150000 ∧ (tracker .cage t).datumed = true
      ∧ t.protection.state = .armed := by decide +kernel

/-- The sync at 3104 (12, Sequence 1): +43, within 300; the new base is 998,971 and the syncs counter rises to 1. -/
theorem test_sync :
    let s := recomputeTracker .counterweight (setTracker .counterweight
      { tracker .counterweight armed with load := 15000, offset := 998928 * 65536 } armed)
    let s := setTracker .cage { tracker .cage s with offset := 2183080 * 65536, baseFine := 2183080 * 65536 } s
    let t := after (.markerEvent 30 0 (markerBody 2 3104 1)) s
    (tracker .counterweight s).reported = 999957 ∧ mm (tracker .counterweight t).baseFine = 998971
      ∧ (tracker .counterweight t).reported = 1000000 ∧ t.requests.counters.syncs = 1
      ∧ t.protection.state = .armed := by decide +kernel

/-- Trip 21's plan (5, "Worked example"): ends and swept set; zones 11, 12, 27, 28, 34 and 35 are 1, 2, 3, 4, 7, 8 here. -/
theorem test_trip21_plan :
    (candidate trip21 armed).ends = { skip := some 2730000, cage := some 2310000, counterweight := some 874429 }
      ∧ (candidate trip21 armed).swept = [1, 2, 3, 4, 7, 8] := by decide +kernel

/-- Trip 22's plan behind it (5, "Worked example"): zones 10, 11, 28, 29, 33 and 34. -/
theorem test_trip22_plan :
    (queueing (carrying .waiting armed)).zones.waitingSwept = [0, 1, 4, 5, 6, 7] := by decide +kernel

/-- The descent at its start (6.7): P, the envelopes and the thresholds. -/
theorem test_envelopes :
    (carrying .waiting armed).envelope
      = { permitted := 11171
          envelopes := { skip := some 12000, cage := some 11171, counterweight := some 12000 }
          thresholds := { skip := some 12600, cage := some 11729, counterweight := some 12600 } } := by decide +kernel

/-- Along the descent (6.7). -/
theorem test_descent :
    let at_ (depth : Int) := (carrying .running (setTracker .cage (datumedAt depth) armed)).envelope.envelopes.cage
    at_ 2180000 = some 7797 ∧ at_ 2195500 = some 6000 ∧ at_ 2290000 = some 5239 := by decide +kernel

/-! ### One step of a command -/

/-- NRST offers the START notice and keeps KEY (R130, R175). -/
theorem test_nrst : (after .nrst { armed with key := .unlocked }).protection.state = .noTables
    ∧ (after .nrst { armed with key := .unlocked }).key = .unlocked
    ∧ (after .nrst armed).line.queue.map (fun f => f.frame.body) = [[1, 0, 0, 1]] := by decide +kernel

/-- A sample of 65 counts in layer 0 after 2,000 µs: 19.94 mm of payout, 9,971 mm/s, trip 21 RUNNING (3.5, 5). -/
theorem test_drum_sample :
    let s := carrying .waiting (setTracker .cage { tracker .cage armed with load := 12000 } armed)
    let t := after (.drumSample 20 0 (sampleBody 1 1 65 2000)) s
    (channel .cage t).payout = 1306955 ∧ (channel .cage t).speed = 9971 ∧ (channel .cage t).sense = .forward
      ∧ t.pipeline.active.map (·.state) = some .running ∧ (channel .cage t).atRest = false
      ∧ t.line.queue.length = 1 := by decide +kernel

/-- A stamp 4,001 µs on is not good: the channel loses its lock, and SAMPLE trips a moving winder (R36, R46). -/
theorem test_drum_sample_late :
    let t := after (.drumSample 20 0 (sampleBody 1 1 65 4001)) (carrying .running armed)
    (channel .cage t).lock = .unlocked ∧ t.protection.firstCause = some .sample
      ∧ t.pipeline.history.map (·.outcome) = [.tripped] := by decide +kernel

/-- A cage below its `slack_threshold` that is hauled down is SLACK only while it descends (R67). -/
theorem test_rope_load :
    let s := setTracker .cage { tracker .cage armed with direction := .down } { armed with drums.cage.speed := 9971 }
    (after (.ropeLoad 31 0 (loadBody 1 3999)) s).protection.firstCause = some .slack
      ∧ (after (.ropeLoad 31 0 (loadBody 1 4000)) s).protection.state = .armed := by decide +kernel

/-- A clutch change under a RUNNING trip trips on CLUTCH (R88). -/
theorem test_interlock :
    (after (.interlockState 32 0 (interlockBody 0xFFFFFF#32 3 1)) (carrying .running armed)).protection.firstCause
      = some .clutch := by decide +kernel

/-- A SPEED REFERENCE of +12,000 at P 11,171 waits as +11,171, CLAMPED; −3,000 against FORWARD waits as 0 (7). -/
theorem test_speed_reference :
    let s := carrying .waiting armed
    (after (.speedReference 1 20 (speedBody 40 12000 0)) s).guard.queue.map (·.frame.body) = [speedBody 40 11171 1]
      ∧ (after (.speedReference 1 20 (speedBody 41 (-3000) 0)) s).guard.queue.map (·.frame.body) = [speedBody 41 0 1]
      ∧ flagSet .clamp (after (.speedReference 1 20 (speedBody 40 12000 0)) s) = true := by decide +kernel

/-- A reference taken at P 11,171 leaves as P of the moment of its transmission start (R117). -/
theorem test_transmit_start :
    let s := { carrying .running (setTracker .cage (datumedAt 2180000) armed) with
                guard.queue := [waitingReference] }
    (after .dTransmitStart s).guard.transmitter = .sending (makeFrame 0x10 1 20 (speedBody 7 7797 1))
      ∧ (after .dTransmitStart s).guard.lastRef = { magnitude := 7797, seq := 7, target := 20 } := by decide +kernel

/-- A WATCH expiry begins a controlled stop whose deadline is 7,797 × 1,000 / 900 + 2,000 ms (R87, R121). -/
theorem test_ref_watch :
    let s := { carrying .running armed with
                drums.cage.atRest := false
                guard.watch := some { lengthMs := 300, runUs := 0 }
                guard.lastRef := { magnitude := 7797, seq := 7, target := 20 } }
    (after .refWatchExpiry s).guard.stop.map (·.deadline.lengthMs) = some 10663
      ∧ (after .refWatchExpiry s).pipeline.active.map (·.state) = some .stopping := by decide +kernel

/-- TRIP REQUEST 21 is answered DONE, ACTIVE (5, "Worked example"; R171, R172). -/
theorem test_trip_request :
    let t := after (.tripRequest 1 9 [21, 0, 1, 2, 1, 0, 0, 0, 0, 0]) armed
    t.line.queue.map (·.frame) = [makeFrame 0x41 240 1 [6, 9, 0, 0]]
      ∧ t.pipeline.active.map (·.swept) = some [1, 2, 3, 4, 7, 8] := by decide +kernel

/-- ZONE HOLD on PLANNED zone 27 (3 here) is refused OCCUPIED, since the cage stands in it; on zone 29 it is CLEAR. -/
theorem test_zone_hold :
    (after (.zoneHold 7 1 [3]) armed).line.queue.map (·.frame.body) = [[11, 1, 9]]
      ∧ (after (.zoneHold 7 1 [5]) armed).zones.holders[5]? = some (some 7) := by decide +kernel

/-- ROW LOAD of the manual's cage row names `bottom_limit`, field 4, when it equals `top_limit` (R6, R174). -/
theorem test_row_load :
    let content := rowBytes (.compartment
      { compartment := .skip, topLimit := 5, bottomLimit := 5, bodyAbove := 0, bodyBelow := 0, sheaveHeight := 0,
        compliance := 0, syncWindow := 10, missDistance := 100, slackThreshold := 0 })
    judgeRow .shaft 1 [] content = .error 4 := by decide +kernel

/-- The shadow rows of the manual pass validation but for ZONE-COVER, which names the first compartment row (R25). -/
theorem test_validation :
    tableFailure .profile profileRows = none ∧ tableFailure .drum drumRows = none
      ∧ tableFailure .shaft shaftRows = some (1, .zoneCover) := by decide +kernel

/-- TRIP RESET after OVERSPEED returns to ARMED and says so (R141, R142; 12, Sequence 3). -/
theorem test_trip_reset :
    let t := after (.tripReset 1 4 []) { tripped with protection.driveHeard := true }
    t.protection.state = .armed ∧ t.protection.chainClosed = true
      ∧ t.line.queue.getLast?.map (·.frame.body) = some [8, 4, 0, 2] := by decide +kernel

/-! ### Each statement's hypotheses are met, at boundary values, clause by clause -/

theorem witness_FramesSurviveTheLine :
    (List.replicate 56 (7 : Byte)).length ≤ 56
      ∧ (0xFFFF#16 : BitVec 16) ≠ (makeFrame 0x13 1 2 (List.replicate 56 7)).check := by decide +kernel

theorem witness_FrameCommandsReachTheirBlock :
    Ready .d quiet ∧ Ready .c quiet ∧ (List.replicate 56 (7 : Byte)).length ≤ 56
      ∧ (List.replicate 54 (7 : Byte)).length ≤ 54 := by unfold Ready; decide +kernel

/-- The bytes of a frame of 62 bytes whose last check byte is wrong. -/
def wrongCheck : List LineByte :=
  ((frameBytes (makeFrame 0x13 1 2 (List.replicate 56 7))).dropLast ++ [0]).map goodByte

theorem witness_RejectedFramesAreCounted :
    Ready .c quiet ∧ Ready .d quiet
      ∧ (rejected (List.replicate 63 (goodByte 0)) = true ∧ 62 < (List.replicate 63 (goodByte 0)).length)
      ∧ (rejected [goodByte 0] = true ∧ judgeFrame ([goodByte 0].map LineByte.value) false = .malformed)
      ∧ (rejected wrongCheck = true ∧ wrongCheck.length = 62
          ∧ judgeFrame (wrongCheck.map LineByte.value) false = .checkError) := by unfold Ready; decide +kernel

theorem witness_SilenceEndsAFrame :
    Ready .c quiet ∧ receiver .c State.reset = .waitingIdle
      ∧ receiver .d (setReceiver .d .discarding quiet) = .discarding
      ∧ receiver .d (setReceiver .d (.receiving [5] true) quiet) = .receiving [5] true := by unfold Ready; decide +kernel

theorem witness_OtherFramesPass :
    Ready .d quiet ∧ Ready .c quiet ∧ isOtherField 0x99 = true ∧ classOf 0x99 ≠ .request ∧ classOf 0x40 = .request
      ∧ isOtherCommand 0x99 240 = true ∧ isOtherCommand 0x40 241 = true := by unfold Ready; decide +kernel

theorem witness_TransmittersTakeTheHead :
    { quiet.guard with transmitter := .sending plain }.transmitter = .sending plain
      ∧ { quiet.line with transmitter := .sending plain }.transmitter = .sending plain
      ∧ quiet.line.transmitter = .idle ∧ quiet.line.queue = []
      ∧ State.reset.line.queue = [{ frame := State.startNotice, mark := .part }]
      ∧ { quiet.line with transmitter := .gap }.transmitter = .gap := by decide +kernel

/-- A command that every state takes. -/
def waitingStep (s : State) : State := { s with pending := [.receiverIdle .c] }

theorem waitingStep_next (s : State) (idle : receiver .c s = .idle) (none : s.pending = []) :
    step (waitingStep s) = .next s := by
  cases s with
  | mk pending key line tables drums trackers pipeline envelope guard protection zones requests freeCount =>
    simp only at none
    subst none
    cases line with
    | mk c d q t =>
      simp only [receiver] at idle
      subst idle
      rfl

theorem witness_ChainAndArmedKeepToTheState :
    ChainFollowsState (waitingStep armed) ∧ ArmedIsDatumed (waitingStep armed)
      ∧ step (waitingStep armed) = .next armed :=
  ⟨by unfold ChainFollowsState; decide +kernel, by unfold ArmedIsDatumed; decide +kernel,
    waitingStep_next _ (by decide +kernel) (by decide +kernel)⟩

theorem witness_EnvelopeStaysCurrent :
    EnvelopeCurrent (waitingStep (carrying .waiting armed))
      ∧ step (waitingStep (carrying .waiting armed)) = .next (carrying .waiting armed) :=
  ⟨by unfold EnvelopeCurrent; decide +kernel, waitingStep_next _ (by decide +kernel) (by decide +kernel)⟩

theorem witness_PipelineKeepsItsForm :
    StoppedIsEmpty (waitingStep (queueing (carrying .running armed)))
      ∧ WaitingHasActive (waitingStep (queueing (carrying .running armed)))
      ∧ SlotsHoldTheirStates (waitingStep (queueing (carrying .running armed)))
      ∧ step (waitingStep (queueing (carrying .running armed))) = .next (queueing (carrying .running armed)) := by
  refine ⟨?_, ?_, ⟨fun t h => ?_, fun t h => ?_⟩, ?_⟩
  · unfold StoppedIsEmpty; decide +kernel
  · unfold WaitingHasActive; decide +kernel
  · have : (waitingStep (queueing (carrying .running armed))).pipeline.active.all (fun t => decide (t.state ≠ .queued))
        = true := by decide +kernel
    simpa [h] using this
  · have : (waitingStep (queueing (carrying .running armed))).pipeline.waiting.all (fun t => decide (t.state = .queued))
        = true := by decide +kernel
    simpa [h] using this
  · exact waitingStep_next _ (by decide +kernel) (by decide +kernel)

theorem witness_CausesKeepToTheState :
    CausesFollowState (waitingStep armed) ∧ CausesFollowState (waitingStep tripped)
      ∧ step (waitingStep tripped) = .next tripped := by
  refine ⟨?_, ?_, ?_⟩
  · unfold CausesFollowState
    rw [if_neg (by decide +kernel)]
    decide +kernel
  · have state : (waitingStep tripped).protection.state = .tripped := by decide +kernel
    have first : (waitingStep tripped).protection.firstCause = some .overspeed := by decide +kernel
    have cause : causePresent .overspeed (waitingStep tripped) = true := by decide +kernel
    simp [CausesFollowState, state, first, cause]
  · exact waitingStep_next _ (by decide +kernel) (by decide +kernel)

/-- A full downstream queue: a reference, a demand and six plain frames. -/
def fullDown : State :=
  { armed with guard.queue := [{ frame := partDemand, source := none }, waitingReference]
                ++ List.replicate 6 { frame := plain, source := none } }

theorem witness_BoundsHold :
    Bounded (waitingStep fullDown) ∧ ReferencesMarked (waitingStep fullDown)
      ∧ step (waitingStep fullDown) = .next fullDown := by
  refine ⟨?_, ?_, ?_⟩
  · unfold Bounded DownQueueBounded UpQueueBounded WatchListBounded HistoryBounded CountersBounded; decide +kernel
  · unfold ReferencesMarked; decide +kernel
  · exact waitingStep_next _ (by decide +kernel) (by decide +kernel)

/-- A RUNNING trip with its watch. -/
def watched : State := startWatch { carrying .running armed with drums.cage.atRest := false }

/-- A STOPPING trip with its stop record. -/
def stopping : State := after .refWatchExpiry watched

theorem witness_GuardAndAccumulatorsKeepToTheTrip :
    GuardFollowsTrip (waitingStep watched) ∧ GuardFollowsTrip (waitingStep stopping)
      ∧ watched.guard.watch.isSome = true ∧ stopping.guard.stop.isSome = true
      ∧ AccumulatorsHeld (waitingStep { armed with drums.disagree := -3000, drums.drift := 200 })
      ∧ step (waitingStep stopping) = .next stopping := by
  refine ⟨?_, ?_, by decide +kernel, by decide +kernel, ?_, waitingStep_next _ (by decide +kernel) (by decide +kernel)⟩
  · unfold GuardFollowsTrip; decide +kernel
  · unfold GuardFollowsTrip; decide +kernel
  · unfold AccumulatorsHeld; decide +kernel

theorem witness_GuardAndAccumulatorsKeepToTheTrip_slots : SlotsHoldTheirStates (waitingStep armed) := by
  constructor <;> intro t h
  · exact absurd (h.symm.trans (by decide +kernel : (waitingStep armed).pipeline.active = none)) (by simp)
  · exact absurd (h.symm.trans (by decide +kernel : (waitingStep armed).pipeline.waiting = none)) (by simp)

/-- A commitment of all three tables that waits for its ruling. -/
def committing : State :=
  { quiet with
    key := .unlocked
    tables.shaft := { active := [], shadow := shaftRows, state := .validating }
    tables.profile := { active := [], shadow := profileRows, state := .validating }
    tables.drum := { active := [], shadow := drumRows, state := .validating } }

/-- The same banks VALIDATED. -/
def validated : State :=
  { committing with
    tables.shaft.state := .validated
    tables.profile.state := .validated
    tables.drum.state := .validated }

theorem witness_StoreKeepsItsForm :
    BanksTogether (waitingStep committing) ∧ RecordsFitTables (waitingStep armed) ∧ BanksTogether (waitingStep armed)
      ∧ step (waitingStep armed) = .next armed := by
  refine ⟨?_, ?_, ?_, waitingStep_next _ (by decide +kernel) (by decide +kernel)⟩
  · unfold BanksTogether; decide +kernel
  · unfold RecordsFitTables; decide +kernel
  · unfold BanksTogether; decide +kernel

/-- Station 7 watches the zone in which the cage stands, and holds a zone that no trip plans. -/
def watching : State :=
  { carrying .waiting armed with
    zones.watchList := [{ zone := 3, station := 7 }]
    zones.holders := [none, none, none, none, none, some 7, none, none, none] }

theorem witness_ZoneMapStaysCurrent :
    ZoneMapCurrent (waitingStep watching) ∧ WatchedZonesBusy (waitingStep watching)
      ∧ step (waitingStep watching) = .next watching := by
  refine ⟨?_, ?_, waitingStep_next _ (by decide +kernel) (by decide +kernel)⟩
  · unfold ZoneMapCurrent; decide +kernel
  · unfold WatchedZonesBusy; decide +kernel

theorem witness_HoldsStayOutOfTheWay :
    ZoneMapCurrent (waitingStep watching) ∧ StoppedIsEmpty (waitingStep watching) ∧ HoldsStandClear (waitingStep watching)
      ∧ step (waitingStep watching) = .next watching := by
  refine ⟨?_, ?_, ⟨fun t h => ?_, fun t h => ?_⟩, ?_⟩
  · unfold ZoneMapCurrent; decide +kernel
  · unfold StoppedIsEmpty; decide +kernel
  · have : (waitingStep watching).pipeline.active.all (fun t => decide (heldAgainst t (waitingStep watching) = [])) = true := by
      decide +kernel
    unfold NoHoldAgainst
    simpa [h] using this
  · exact absurd (h.symm.trans (by decide +kernel : (waitingStep watching).pipeline.waiting = none)) (by simp)
  · exact waitingStep_next _ (by decide +kernel) (by decide +kernel)

/-! Drum streams -/

theorem witness_SamplesBringTheCountForward :
    Ready .d quiet ∧ (channel .skip quiet).countRef = none ∧ Ready .d armed
      ∧ (channel .skip armed).countRef = some 0 := by unfold Ready; decide +kernel

/-- A channel whose last sample had `seq` 0 and stamp 0, in a lock state. -/
def channelIn (l : Lock) : State := setChannel .skip { lockedChannel with lock := l } armed

/-- UNLOCKED; a run of 0 to 2; the fourth good sample at 1,000 and at 4,000 µs; 999 and 4,001 µs and a lost `seq`. -/
theorem witness_LockMovesByTheTable :
    Ready .d armed ∧ drumRow armed = some drumConstants ∧ (channel .skip (channelIn .unlocked)).lock = .unlocked
      ∧ (channel .skip (channelIn (.locking 2))).baseline = some { seq := 0, stamp := 0 }
      ∧ (channel .skip (channelIn (.locking 2))).lock = .locking 2
      ∧ (channel .skip (channelIn (.locking 3))).lock = .locking 3 ∧ (channel .skip armed).lock = .locked
      ∧ ((1 : Byte) = 0 + 1 ∧ 2000 ≤ 2 * (1000#16 - 0).toNat ∧ (4000#16 - 0).toNat ≤ 2 * 2000)
      ∧ ¬(2000 ≤ 2 * (999#16 - 0).toNat) ∧ ¬((4001#16 - 0).toNat ≤ 2 * 2000) ∧ (2 : Byte) ≠ 0 + 1 := by
  unfold Ready; decide +kernel

theorem witness_MovementReachesThePayout :
    Ready .d armed ∧ drumRow armed = some drumConstants ∧ layerRow .skip armed = some layers
      ∧ (channel .skip armed).baseline = some { seq := 0, stamp := 0 } ∧ (channel .skip armed).countRef = some 0
      ∧ (channel .skip armed).lock = .locked ∧ (channel .skip (channelIn (.locking 3))).lock = .locking 3
      ∧ drumConstants.samplePeriod ≤ 2 * (1000#16 - 0).toNat
      ∧ (4000#16 - 0).toNat ≤ 2 * drumConstants.samplePeriod := by unfold Ready; decide +kernel

/-- The steps on either side of a boundary, at the last count before layer 1 and at its first. -/
theorem witness_CountStepsAreScaledByTheirLayer :
    1 ≤ layers.layerCount ∧ layers.layerCount ≤ 4 ∧ layers.layer0.startCount = 0 ∧ startsRise layers.inUse = true
      ∧ (layerOf layers 2899999).scale = 20107 ∧ (layerOf layers 2900000).scale = 20562
      ∧ (layerOf layers (-1)).scale = 20107 := by decide +kernel

/-- A drum not yet at rest whose rest timer runs. -/
def coming : State := { armed with drums.skip.atRest := false }

theorem witness_DrumTimersExpire :
    (channel .skip { armed with drums.skip.watchTimer := none }).watchTimer = none
      ∧ ((channel .skip (channelIn .unlocked)).watchTimer ≠ none ∧ (channel .skip (channelIn .unlocked)).lock ≠ .locked)
      ∧ ((channel .skip armed).watchTimer ≠ none ∧ (channel .skip armed).lock = .locked)
      ∧ (TakesCauses (carrying .running armed) ∧ tripMoving (carrying .running armed) = true)
      ∧ (TakesCauses coming ∧ (channel .skip coming).atRest = false)
      ∧ (TakesCauses armed ∧ tripMoving armed = false ∧ (channel .skip armed).atRest = true)
      ∧ ((channel .skip coming).restTimer ≠ none ∧ (channel .skip coming).atRest = false) := by
  unfold TakesCauses; decide +kernel

/-- Trip 21 in a state, the skip drum last to come to rest, with the cage at a depth. -/
def finishing (st : TripState) (depth : Int) : State :=
  { carrying st (setTracker .cage (datumedAt depth) armed) with drums.skip.atRest := false }

theorem witness_RestFinishesTheTrip :
    (channel .skip (finishing .settling 2310150)).restTimer ≠ none
      ∧ (channel .skip (finishing .settling 2310150)).atRest = false
      ∧ (channel (otherDrum .skip) (finishing .settling 2310150)).atRest = true
      ∧ (finishing .settling 2310150).pipeline.waiting = none
      ∧ (finishing .settling 2310150).pipeline.active.map (fun t => (t.kind, t.state)) = some (.station 1, .settling)
      ∧ (stations (finishing .settling 2310150))[1]?.map (fun st => (st.stopDepth, st.window)) = some (2310000, 150)
      ∧ (finishing .stopping 2310151).pipeline.active.map (·.state) = some .stopping := by decide +kernel

/-- A TRAVEL trip in SETTLING. -/
def travelling : Trip :=
  { candidate { tag := 1, kind := .travel 100, lead := .skip, regime := .inspection, direction := .reverse } armed with
    state := .settling
    payoutOrigin := some 0 }

theorem witness_RestFinishesTheTrip_travel :
    (setActive (some travelling) coming).pipeline.active = some travelling ∧ travelling.kind = .travel 100
      ∧ travelling.state = .settling ∧ (channel .skip (setActive (some travelling) coming)).restTimer ≠ none
      ∧ (channel .skip (setActive (some travelling) coming)).atRest = false
      ∧ (channel .cage (setActive (some travelling) coming)).atRest = true
      ∧ (setActive (some travelling) coming).pipeline.waiting = none := by decide +kernel

/-! Tracking -/

theorem witness_LoadsStretchTheRope : Ready .d armed ∧ (compartmentRow .cage armed).isSome = true
    ∧ compartmentRow .cage quiet = none := by unfold Ready; decide +kernel

/-- Marker 1207 belongs to the cage, and 9 is in no row. -/
theorem witness_ForeignReadsAreCounted :
    Ready .d armed ∧ (∀ m ∈ markers armed, m.markerId = (1207#16).toNat → m.compartment ≠ .skip)
      ∧ (∀ m ∈ markers armed, m.markerId = (9#16).toNat → m.compartment ≠ .skip) := by unfold Ready; decide +kernel

/-- Marker 1207 and the cage's row. -/
def marker1207 : MarkerRow := { compartment := .cage, markerId := 1207, depth := 2150000, unreliable := false }

def cageRow : CompartmentRow :=
  { compartment := .cage, topLimit := -12000, bottomLimit := 3162000, bodyAbove := 1200, bodyBelow := 4500,
    sheaveHeight := 58000, compliance := 65, syncWindow := 150, missDistance := 2000, slackThreshold := 4000 }

theorem witness_DatumMeetsTheMarker :
    Ready .d (undatumed .cage) ∧ findMarker (1207#16).toNat (undatumed .cage) = some (1, marker1207)
      ∧ marker1207.compartment = .cage ∧ compartmentRow .cage (undatumed .cage) = some cageRow
      ∧ (tracker .cage (undatumed .cage)).datumed = false ∧ (recordOf 1 (undatumed .cage)).suspect = false
      ∧ (undatumed .cage).protection.state = .undatumed := by unfold Ready; decide +kernel

/-- The cage 150 mm and 151 mm above marker 1207: the last deviation that syncs, and the first that does not. -/
theorem witness_SyncsCorrectTheOffset :
    let s (depth : Int) := setTracker .cage (datumedAt depth) armed
    Ready .d (s 2149850) ∧ findMarker (1207#16).toNat (s 2149850) = some (1, marker1207)
      ∧ compartmentRow .cage (s 2149850) = some cageRow ∧ (tracker .cage (s 2149850)).datumed = true
      ∧ (marker1207.depth - (tracker .cage (s 2149850)).reported).natAbs = cageRow.syncWindow
      ∧ (marker1207.depth - (tracker .cage (s 2149849)).reported).natAbs = cageRow.syncWindow + 1
      ∧ TakesCauses (s 2149849) ∧ tripped.protection.state = .tripped := by unfold Ready TakesCauses; decide +kernel

theorem witness_MissesAreTaken :
    let s := setRecord 4 { missCount := 2, suspect := false } armed
    4 < s.tables.markers.length ∧ ¬5 < s.tables.markers.length ∧ (recordOf 4 s).missCount = 2
      ∧ (tracker .skip s).missFlag = false
      ∧ (tracker .skip (setTracker .skip { tracker .skip s with missFlag := true } s)).missFlag = true
      ∧ TakesCauses s := by unfold TakesCauses; decide +kernel

/-! Interlock, drive and protective trips -/

theorem witness_InterlockReplacesTheImage :
    let image : Interlock := { readiness := 0xFFFFFD#32, clutch := .engaged, brakeApplied := false }
    Ready .d armed ∧ armed.pipeline.active = none
      ∧ (carrying .waiting armed).pipeline.active.map (·.state) = some .waiting
      ∧ (stations armed)[1]?.map (fun st => inMovingSet true st.compartment && !image.readiness.getLsbD 1) = some true
      ∧ (carrying .waiting armed).pipeline.active.map (·.movesAll) = some true
      ∧ Clutch.moving ≠ armed.protection.image.clutch ∧ ¬image.clutch ≠ armed.protection.image.clutch
      ∧ tripMoving (carrying .running armed) = true ∧ TakesCauses (carrying .running armed) := by
  unfold Ready TakesCauses; decide +kernel

theorem witness_DriveAnswersAreHeard : Ready .d quiet := by unfold Ready; decide +kernel

theorem witness_ProtectiveTripOpensChain :
    TakesCauses armed ∧ TakesCauses (undatumed .cage)
      ∧ ((queueing (carrying .running armed)).pipeline.active = none →
          (queueing (carrying .running armed)).pipeline.waiting = none)
      ∧ armed.guard.queue.any DownFrame.isDemand = false ∧ fullDown.guard.queue.any DownFrame.isDemand = true
      ∧ tripped.protection.state = .tripped ∧ quiet.protection.state = .noTables := by
  unfold TakesCauses; decide +kernel

/-- The cage's body ends at 2,200,000, where zone 28 (4 here) begins; and the cage past its stop. -/
theorem witness_PermittedSpeedIsBounded :
    let s := carrying .running (setTracker .cage (datumedAt 2195500) armed)
    s.pipeline.active.map (fun t => (t.regime, t.movesAll)) = some (.persons, true)
      ∧ (regimeRow .persons s).map (·.vMax) = some 12000 ∧ (tracker .cage s).datumed = true
      ∧ compartmentRow .cage s = some cageRow
      ∧ (zoneList s)[4]? = some { compartment := .cage, top := 2200000, bottom := 2419999, ceiling := 6000 }
      ∧ 2200000 = (tracker .cage s).reported + (cageRow.bodyBelow : Int)
      ∧ (carrying .running (setTracker .cage (datumedAt 2310000) armed)).pipeline.active.map
          (fun t => distanceToTarget t (setTracker .cage (datumedAt 2310000) armed)) = some 0 := by decide +kernel

/-! The Reference Guard -/

theorem witness_ReferencesAreGuarded :
    Ready .c stopping ∧ stopRuns stopping = true ∧ Ready .c watched ∧ stopRuns watched = false
      ∧ watched.pipeline.active.map (·.direction) = some .forward ∧ max (-20000) (min (-32768) 20000) < (0 : Int)
      ∧ ¬(max (-20000) (min 32767 20000) < (0 : Int)) := by unfold Ready; decide +kernel

theorem witness_ReferencesCoalesce :
    fullDown.guard.queue = [{ frame := partDemand, source := none }] ++ waitingReference
        :: List.replicate 6 { frame := plain, source := none }
      ∧ waitingReference.isReference = true
      ∧ (∀ h ∈ [{ frame := partDemand, source := none }] ++ List.replicate 6 ({ frame := plain, source := none } : DownFrame),
          h.isReference = false)
      ∧ (∀ h ∈ armed.guard.queue, h.isReference = false) := by decide +kernel

theorem witness_CommandsMeetTheirGates :
    Ready .c armed ∧ ¬(armed.protection.state = .noTables ∨ armed.protection.state = .tripped)
      ∧ armed.pipeline.active = none ∧ armed.drums.skip.atRest = true ∧ armed.drums.cage.atRest = true
      ∧ Ready .c tripped ∧ (tripped.protection.state = .noTables ∨ tripped.protection.state = .tripped)
      ∧ (carrying .waiting armed).pipeline.active ≠ none ∧ coming.drums.skip.atRest = false := by
  unfold Ready; decide +kernel

theorem witness_BrakeDemandsGoAhead :
    Ready .c fullDown ∧ fullDown.guard.queue.any DownFrame.isDemand = true
      ∧ Ready .c armed ∧ armed.guard.queue.any DownFrame.isDemand = false ∧ armed.guard.queue.length < 8
      ∧ 8 ≤ (List.replicate 8 ({ frame := plain, source := none } : DownFrame)).length
      ∧ (List.replicate 8 ({ frame := plain, source := none } : DownFrame)).any DownFrame.isDemand = false := by
  unfold Ready; decide +kernel

/-- A gated clutch command at the head. -/
def clutchAhead (s : State) : State :=
  { s with guard.queue := [{ frame := makeFrame 0x12 1 20 [1], source := none }] }

theorem witness_DownstreamStartsPassTheGates :
    armed.guard.transmitter = .idle ∧ armed.guard.queue = []
      ∧ blockedNow (makeFrame 0x12 1 20 [1]) (clutchAhead coming) = true
      ∧ blockedNow (makeFrame 0x12 1 20 [1]) (clutchAhead armed) = false
      ∧ (after .dTransmitStart (clutchAhead armed)).guard.transmitter = .sending (makeFrame 0x12 1 20 [1])
      ∧ classOf (makeFrame 0x12 1 20 [1]).cls = .clutchCommand
      ∧ (after .dTransmitStart
          { armed with guard.queue := [{ frame := makeFrame 0x11 1 20 [2], source := none }] }).guard.transmitter
        = .sending (makeFrame 0x11 1 20 [2])
      ∧ classOf (makeFrame 0x11 1 20 [2]).cls = .brakeCommand ∧ field (makeFrame 0x11 1 20 [2]).body 0 1 ≠ 1 := by
  decide +kernel

theorem witness_NoReferenceLeavesAboveP :
    let s := { carrying .running (setTracker .cage (datumedAt 2180000) armed) with guard.queue := [waitingReference] }
    ReferencesMarked s ∧ s.guard.transmitter = .idle
      ∧ (after .dTransmitStart s).guard.transmitter = .sending (makeFrame 0x10 1 20 (speedBody 7 7797 1))
      ∧ classOf (makeFrame 0x10 1 20 (speedBody 7 7797 1)).cls = .speedReference := by
  unfold ReferencesMarked; decide +kernel

theorem witness_WatchDeadlineAndEchoExpire :
    armed.guard.watch = none ∧ (startWatch armed).guard.watch ≠ none ∧ watchRuns (startWatch armed) = false
      ∧ watched.guard.watch ≠ none ∧ watched.pipeline.active.map (·.state) = some .running
      ∧ watched.pipeline.active.map (fun t => movingDrumsAtRest t watched) = some false
      ∧ watched.pipeline.active.map (fun t => (regimeRow t.regime watched).isSome) = some true
      ∧ armed.guard.stop = none ∧ stopping.guard.stop ≠ none ∧ TakesCauses stopping ∧ WaitingHasActive stopping
      ∧ armed.protection.echo = none ∧ tripped.protection.echo ≠ none := by
  unfold TakesCauses WaitingHasActive; decide +kernel

/-! Tables and commitment -/

theorem witness_RowsReadBackAsLoaded :
    judgeRow .drum 1 [] (rowBytes (.layers layers)) = .ok (.layers layers)
      ∧ judgeRow .shaft 4 (shaftRows.take 4) (rowBytes (.marker marker1207)) = .ok (.marker marker1207)
      ∧ (∀ r, Row.marker marker1207 ≠ .layers r) := by
  refine ⟨by decide +kernel, by decide +kernel, fun r h => by cases h⟩

/-- Row 3 of PROFILE is next in `loading`; row 6 is at its capacity. -/
def loading : State :=
  { quiet with tables.profile := { active := [], shadow := profileRows.take 3, state := .loading } }

theorem witness_RowLoadFillsTheShadow :
    Ready .c loading ∧ TableId.ofByte 1 = some .profile ∧ (List.replicate 52 (0 : Byte)).length ≤ 52
      ∧ (bank .profile committing).state ≠ .loading ∧ (bank .profile loading).state = .loading
      ∧ capacity .profile ≤ (6 : Byte).toNat ∧ (5 : Byte).toNat < capacity .profile
      ∧ (5 : Byte).toNat ≠ (bank .profile loading).shadow.length ∧ (3 : Byte).toNat = (bank .profile loading).shadow.length
      ∧ judgeRow .profile 3 (profileRows.take 3) [0, 99, 0, 100, 0, 100, 0, 0, 0, 50, 0, 0, 100] = .error 1
      ∧ judgeRow .profile 3 (profileRows.take 3) [0, 100, 0, 100, 0, 100, 0, 0, 0, 50, 0, 0, 100]
          = .ok (.regime { vMax := 100, decel := 100, vCreep := 100, dCreep := 0, marginAbs := 50, marginPct := 0,
                           stopDecel := 100 })
      ∧ judgeRow .profile 0 (profileRows.take 3) [0, 50, 0, 5, 0, 100]
          = .ok (.timing { refWatch := 50, restSpeed := 5, restTime := 100 }) := by unfold Ready; decide +kernel

theorem witness_RowReadReturnsTheRow :
    Ready .c armed ∧ TableId.ofByte 3 = none ∧ TableId.ofByte 0 = some .shaft ∧ 2 ≤ (2 : Byte).toNat
      ∧ (195 : Byte).toNat < capacity .shaft ∧ (bank .shaft armed).active.length ≤ (195 : Byte).toNat
      ∧ (bank .shaft armed).active[(5 : Byte).toNat]? = some (.marker marker1207)
      ∧ (bank .profile armed).active[(5 : Byte).toNat]?.isSome = true := by unfold Ready; decide +kernel

theorem witness_PrepareStartsValidation :
    let loaded : State :=
      { quiet with
        key := .unlocked
        tables.shaft.shadow := shaftRows
        tables.profile.shadow := profileRows
        tables.drum.shadow := drumRows }
    Ready .c loaded ∧ armed.key = .locked ∧ loaded.key = .unlocked ∧ committing.key = .unlocked
      ∧ (bank .shaft committing).state ≠ .loading ∧ loaded.protection.state = .noTables
      ∧ ({ tripped with key := .unlocked }).protection.state = .tripped
      ∧ ({ coming with key := .unlocked }).protection.state ≠ .noTables ∧ winderAtRest coming = false
      ∧ (7 : Byte) ≠ 0 ∧ (7 : Byte).toNat < 8 ∧ 8 ≤ (8 : Byte).toNat ∧ (6 : Byte) ≠ 7
      ∧ minimumRows .shaft ≤ loaded.tables.shaft.shadow.length ∧ minimumRows .profile ≤ loaded.tables.profile.shadow.length
      ∧ minimumRows .drum ≤ loaded.tables.drum.shadow.length
      ∧ loading.tables.profile.shadow.length < minimumRows .profile := by unfold Ready; decide +kernel

theorem witness_PrepareStartsValidation_loading (t : TableId) :
    (bank t armed).state = .loading ∧ (bank t tripped).state = .loading ∧ (bank t coming).state = .loading := by
  cases t <;> decide +kernel

theorem witness_ValidationRules :
    BanksTogether armed ∧ anyValidating armed = false ∧ BanksTogether committing ∧ anyValidating committing = true
      ∧ validationFailure (openSet committing) committing = some (.shaft, 1, .zoneCover)
      ∧ anyValidating { committing with tables.shaft.state := .loading } = true
      ∧ validationFailure (openSet { committing with tables.shaft.state := .loading })
          { committing with tables.shaft.state := .loading } = none := by unfold BanksTogether; decide +kernel

/-- The same validated tables in a part that has tables already. -/
def recommitting : State :=
  { armed with
    key := .unlocked
    tables.drum := { active := drumRows, shadow := drumRows, state := .validated } }

theorem witness_ConfirmSwapsTheBanks :
    Ready .c validated ∧ validated.key = .unlocked ∧ anyValidating validated = false ∧ anyValidated validated = true
      ∧ validated.protection.state = .noTables ∧ validated.tables.shaft.state = .validated
      ∧ Ready .c recommitting ∧ anyValidating recommitting = false ∧ anyValidated recommitting = true
      ∧ winderAtRest recommitting = true ∧ pipelineEmpty recommitting = true
      ∧ ¬recommitting.tables.shaft.state = .validated ∧ recommitting.tables.drum.state = .validated := by
  unfold Ready; decide +kernel

theorem witness_CancelReturnsTheBanks :
    Ready .c committing ∧ (2 : Byte) ≠ 1 ∧ (bank .shaft committing).state ≠ .loading ∧ Ready .c armed := by
  unfold Ready; decide +kernel

theorem witness_KeyLockAbandons :
    armed.key = .locked ∧ recommitting.key = .unlocked ∧ commitmentOpen recommitting = true
      ∧ ({ armed with key := .unlocked }).key = .unlocked
      ∧ commitmentOpen { armed with key := .unlocked } = false := by decide +kernel

/-! Requests -/

/-- An undefined kind; panel station 15 on ZONE HOLD and station 16; a wrong length. -/
theorem witness_RequestsArePassedFirst :
    Ready .c armed ∧ RequestKind.ofByte 0 = none ∧ RequestKind.ofByte 0x10 = none
      ∧ (2 ≤ (15 : Byte).toNat ∧ (15 : Byte).toNat ≤ 15 ∧ RequestKind.zoneHold.paramLength = some 1)
      ∧ ¬((16 : Byte) = 1 ∨ (16 : Byte).toNat ≤ 15)
      ∧ ([] : List Byte).length ≠ 1 := by unfold Ready; decide +kernel

/-- The parameters of TRIP REQUEST 21. -/
def params21 : List Byte := [21, 0, 1, 2, 1, 0, 0, 0, 0, 0]

theorem witness_AcceptedTripsArePlaced :
    Ready .c armed ∧ params21.length = 10 ∧ TakesCauses armed ∧ stopRuns armed = false ∧ commitmentOpen armed = false
      ∧ armed.pipeline.waiting = none ∧ tagRefused (params21.getD 0 0) armed = false
      ∧ readTrip params21 armed = .ok trip21 ∧ armed.protection.state ≠ .undatumed
      ∧ armed.protection.image.clutch ≠ .moving ∧ armed.protection.image.clutch = .engaged
      ∧ notReady (candidate trip21 armed).movesAll armed = none ∧ startsWithinWindow (candidate trip21 armed) armed = false
      ∧ heldAgainst (candidate trip21 armed) armed = [] ∧ armed.pipeline.active = none := by
  unfold Ready TakesCauses; decide +kernel

/-- The same behind an active trip: a ROCK trip of the skip, from the skip's planned end. -/
theorem witness_AcceptedTripsArePlaced_waiting :
    let s := carrying .waiting armed
    let p : List Byte := [22, 0, 0, 0, 0, 0, 0, 0, 0, 0]
    let a : TripAsked := { tag := 22, kind := .station 0, lead := .skip, regime := .rock, direction := .forward }
    Ready .c s ∧ TakesCauses s ∧ stopRuns s = false ∧ commitmentOpen s = false ∧ s.pipeline.waiting = none
      ∧ tagRefused (p.getD 0 0) s = false ∧ readTrip p s = .ok a ∧ notReady (candidate a s).movesAll s = none
      ∧ startsWithinWindow (candidate a s) s = false ∧ heldAgainst (candidate a s) s = [] ∧ s.pipeline.active ≠ none := by
  unfold Ready TakesCauses; decide +kernel

theorem witness_TripsAreRefusedInOrder :
    Ready .c armed ∧ params21.length = 10 ∧ quiet.protection.state = .noTables ∧ tripped.protection.state = .tripped
      ∧ stopRuns stopping = true ∧ commitmentOpen recommitting = true
      ∧ (queueing (carrying .waiting armed)).pipeline.waiting ≠ none ∧ tagRefused 0 armed = true
      ∧ tagRefused 21 (carrying .waiting armed) = true ∧ readTrip params21 (undatumed .cage) = .ok trip21
      ∧ (undatumed .cage).protection.state = .undatumed ∧ trip21.regime ≠ .recovery
      ∧ readTrip params21 { armed with protection.image.clutch := .disengaged } = .ok trip21
      ∧ notReady true { armed with protection.image.readiness := 0xFFFFFD#32 } = some [0, 1]
      ∧ notReady true (channelIn .unlocked) = some [1, 0]
      ∧ heldAgainst (candidate trip21 (setHolder 8 (some 7) (setHolder 7 (some 7) armed)))
          (setHolder 8 (some 7) (setHolder 7 (some 7) armed)) = [7, 8] := by unfold Ready; decide +kernel

theorem witness_AbortsFollowTheTable :
    Ready .c (queueing (carrying .waiting armed))
      ∧ (queueing (carrying .waiting armed)).pipeline.waiting.map (·.tag) = some 22
      ∧ (queueing (carrying .waiting armed)).pipeline.active.map (fun t => (t.tag, t.state)) = some (21, .waiting)
      ∧ (carrying .running armed).pipeline.waiting = none
      ∧ stopping.pipeline.active.map (·.state) = some .stopping
      ∧ watched.pipeline.active.map (fun t => movingDrumsAtRest t watched) = some false
      ∧ armed.pipeline.active = none ∧ armed.pipeline.waiting = none := by unfold Ready; decide +kernel

/-- Each condition unmet in its turn, and all met with and without a cause that un-datums. -/
theorem witness_TripResetClosesChain :
    let heard := { tripped with protection.driveHeard := true }
    Ready .c armed ∧ armed.protection.state ≠ .tripped
      ∧ (tripped.protection.state = .tripped ∧ tripped.protection.driveHeard ≠ true)
      ∧ (heard.protection.driveHeard = true ∧ winderAtRest { heard with drums.skip.atRest := false } ≠ true)
      ∧ winderAtRest heard = true ∧ ({ heard with protection.image.brakeApplied := false }).protection.image.brakeApplied = false
      ∧ heard.protection.image.brakeApplied = true ∧ allDatumed heard = true
      ∧ causePresent .position (addCause .position heard) = true
      ∧ causePresent .position heard = false ∧ causePresent .sample heard = false
      ∧ causePresent .unplanned heard = false ∧ causePresent .disagree heard = false
      ∧ causePresent .creep heard = false ∧ causePresent .pair heard = false := by unfold Ready; decide +kernel

theorem witness_RestartBeginsAFreshShift :
    Ready .c armed ∧ TakesCauses armed ∧ winderAtRest armed = true ∧ pipelineEmpty armed = true
      ∧ armed.line.queue.length < 16 ∧ ¬TakesCauses tripped ∧ winderAtRest coming = false
      ∧ pipelineEmpty (carrying .waiting armed) = false := by unfold Ready TakesCauses; decide +kernel

/-- Zone 8 is the last; each summary stands somewhere; the watch list has one place left, then none. -/
theorem witness_InquiriesLookWithdrawOrWatch :
    let s := queueing (carrying .waiting armed)
    let four := { watching with zones.watchList := List.replicate 4 { zone := 4, station := 2 } }
    Ready .c s ∧ 1 ≤ (15 : Byte).toNat ∧ (15 : Byte).toNat ≤ 15 ∧ (zoneList s).length = 9 ∧ (9 : Byte).toNat = 9
      ∧ (8 : Byte).toNat < (zoneList s).length ∧ 2 ≤ (2 : Byte).toNat
      ∧ summaryOf 3 (undatumed .cage) = .unknown ∧ summaryOf 5 watching = .held ∧ summaryOf 0 armed = .clear
      ∧ summaryOf 6 s = .plannedWaiting ∧ summaryOf 4 s = .plannedActive ∧ s.zones.activeState = some .waiting
      ∧ summaryOf 4 (carrying .running armed) = .plannedActive
      ∧ (carrying .running armed).zones.activeState ≠ some .waiting
      ∧ summaryOf 3 watching = .occupied ∧ ({ zone := 3, station := 7 } : WatchEntry) ∈ watching.zones.watchList
      ∧ ({ zone := 3, station := 8 } : WatchEntry) ∉ watching.zones.watchList
      ∧ watching.zones.watchList.length < 4 ∧ 4 ≤ four.zones.watchList.length
      ∧ ({ zone := 3, station := 8 } : WatchEntry) ∉ four.zones.watchList := by unfold Ready; decide +kernel

theorem witness_HoldsNeedAClearZone :
    let s := queueing (carrying .waiting armed)
    Ready .c s ∧ (zoneList s).length ≤ (9 : Byte).toNat ∧ (8 : Byte).toNat < (zoneList s).length
      ∧ summaryOf 0 armed = .clear ∧ summaryOf 3 armed = .occupied ∧ summaryOf 3 (undatumed .cage) = .unknown
      ∧ summaryOf 4 s = .plannedActive ∧ summaryOf 6 s = .plannedWaiting
      ∧ (summaryOf 5 watching = .held ∧ holderOf 5 watching = some 7) := by unfold Ready; decide +kernel

theorem witness_ReleasesFreeTheZone :
    Ready .c watching ∧ (zoneList watching).length ≤ (9 : Byte).toNat ∧ (8 : Byte).toNat < (zoneList watching).length
      ∧ holderOf 8 watching = none ∧ holderOf 5 watching = some 7 ∧ (8 : Byte) ≠ 7 ∧ (8 : Byte) ≠ 1 := by
  unfold Ready; decide +kernel

theorem witness_StatusReadClearsTheFlags :
    Ready .c armed ∧ 1 ≤ (1 : Byte).toNat ∧ (15 : Byte).toNat ≤ 15 := by unfold Ready; decide +kernel

theorem witness_PositionReadShowsTheTracker :
    Ready .c (carrying .waiting armed) ∧ Conveyance.ofCode (3 : Byte).toNat = none
      ∧ Conveyance.ofCode (2 : Byte).toNat = some .counterweight ∧ (carrying .waiting armed).envelope.permitted < 65536
      ∧ -(2 ^ 31) ≤ (tracker .counterweight armed).reported ∧ (tracker .counterweight armed).reported < 2 ^ 31 := by
  unfold Ready; decide +kernel

theorem witness_CounterReadCounts :
    Ready .c armed ∧ 2 ≤ (2 : Byte).toNat ∧ (1 : Byte).toNat < 2
      ∧ CountersBounded { armed with requests.counters.syncs := 65535 } := by
  unfold Ready CountersBounded; decide +kernel

/-! The clauses of the movement, at their boundaries -/

/-- The cage's next good sample, of `n` counts at a stamp. -/
def cageSample (n : BitVec 32) (stamp : BitVec 16) : Instr := .drumSample 20 0 (sampleBody 1 1 n stamp)

/-- The ARMED part with the cage at a depth, moving down, expecting marker 1207. -/
def cageAt (depth : Int) : State :=
  setTracker .cage { datumedAt depth with direction := .down, expected := some 1 } armed

/-- Lengths one off on either side, and each first value that a layout does not define. -/
theorem witness_OtherFramesPass_malformed :
    (List.replicate 7 (0 : Byte)).length ≠ 8 ∧ (List.replicate 9 (0 : Byte)).length ≠ 8
      ∧ 2 ≤ field [2, 0, 0, 0, 0, 0, 0, 0] 0 1 ∧ 3 ≤ field [3, 0, 1, 1] 0 1
      ∧ (field [0, 0, 1, 3] 3 1 ≠ 1 ∧ field [0, 0, 1, 3] 3 1 ≠ 2) ∧ (field [0, 0, 1, 0] 3 1 ≠ 1 ∧ field [0, 0, 1, 0] 3 1 ≠ 2)
      ∧ 3 ≤ field [3, 0, 1] 0 1 ∧ field [0, 0, 0, 0, 0, 1] 4 1 = 0 ∧ 4 ≤ field [0, 0, 0, 0, 4, 1] 4 1
      ∧ (field [0, 0, 0, 0, 1, 3] 5 1 ≠ 1 ∧ field [0, 0, 0, 0, 1, 3] 5 1 ≠ 2) ∧ ([1] : List Byte).length ≠ 2 := by
  decide +kernel

/-- The third good sample of a LOCKING channel moves the position alone. -/
theorem witness_LockMovesByTheTable_unapplied :
    (channel .skip (channelIn (.locking 2))).lock = .locking 2 ∧ 2 < 3
      ∧ (channel .skip (channelIn (.locking 2))).countRef.isSome = true := by decide +kernel

/-- A relock of zero change raises nothing, though its own 65 counts give a rope speed and the rope is slack. -/
theorem test_relock_of_no_change :
    let s := setChannel .cage { channel .cage (cageAt 2140000) with lock := .locking 3, applied := 65 } (cageAt 2140000)
    let t := after (cageSample 65 2000) s
    (channel .cage t).speed = 9971 ∧ (channel .cage t).lock = .locked ∧ t.trackers = s.trackers
      ∧ t.protection.state = .armed := by decide +kernel

/-- A rope speed of 76 mm/s is rest under a `rest_speed` of 76, and not under one of 75. -/
theorem witness_MovementReachesThePayout_rest :
    let s (rest : Nat) : State := { armed with
      tables.profile.active := .timing { refWatch := 300, restSpeed := rest, restTime := 1500 } :: profileRows.tail }
    (timingRow (s 76)).map (·.restSpeed) = some 76 ∧ (channel .cage (after (cageSample 1 4000) (s 76))).speed = 76
      ∧ (channel .cage (after (cageSample 1 4000) (s 76))).atRest = true
      ∧ (channel .cage (after (cageSample 1 4000) (s 75))).atRest = false
      ∧ (channel .cage (s 76)).restTimer ≠ none := by decide +kernel

/-- 19 mm down from 2,151,982 is beyond marker 1207 by 2,001 mm, from 2,151,981 by 2,000; the bottom limit is 3,162,000;
the threshold of slack is 4,000; an upward tracker turns. -/
theorem witness_MovementReachesThePayout_trackers :
    let t (depth : Int) := after (cageSample 65 2000) (cageAt depth)
    (tracker .cage (t 2151982)).reported = 2152001 ∧ (tracker .cage (t 2151982)).missFlag = true
      ∧ (tracker .cage (t 2151981)).reported = 2152000 ∧ (tracker .cage (t 2151981)).missFlag = false
      ∧ (tracker .cage (t 3161982)).reported = 3162001 ∧ causePresent .overwind (t 3161982) = true
      ∧ (tracker .cage (t 3161981)).reported = 3162000 ∧ causePresent .overwind (t 3161981) = false
      ∧ (tracker .cage (cageAt 2151982)).load < cageRow.slackThreshold ∧ causePresent .slack (t 2151982) = true
      ∧ (tracker .cage armed).direction ≠ (tracker .cage (after (cageSample 65 2000) armed)).direction := by
  decide +kernel

/-- Each accumulator at its limit, and one beyond it. -/
theorem witness_MovementReachesThePayout_accumulators :
    let loaded : State := { armed with trackers.cage.load := 12000, trackers.counterweight.load := 12000 }
    let apart (n : Int) := after (cageSample 65 2000) { loaded with drums.disagree := n }
    let held (n : Nat) := after (cageSample 1 2000) { loaded with
      protection.image.clutch := .disengaged, drums.hold := n }
    let adrift (n : Nat) := after (cageSample 65 2000) { loaded with drums.drift := n }
    let relocked (n : BitVec 32) := after (cageSample n 4000)
      (setChannel .cage { lockedChannel with lock := .locking 3 } { loaded with drums.drift := 0 })
    (apart (-2935)).protection.state = .armed ∧ (apart (-2936)).protection.firstCause = some .disagree
      ∧ (held 49).protection.state = .armed ∧ (held 50).protection.firstCause = some .creep
      ∧ (adrift 135).drums.drift = 200 ∧ (adrift 135).protection.state = .armed
      ∧ (adrift 136).protection.firstCause = some .unplanned
      ∧ (relocked 200).protection.state = .armed ∧ (relocked 201).protection.firstCause = some .unplanned := by
  decide +kernel

/-- Each state of trip 21 under a slow and a fast sample. -/
theorem witness_MovementReachesThePayout_trip :
    let s (st : TripState) := carrying st { armed with trackers.cage.load := 12000, trackers.counterweight.load := 12000,
                                                        drums.cage.atRest := false, drums.cage.restTimer := none }
    let t (st : TripState) (n : BitVec 32) := after (cageSample n 2000) (s st)
    let states (n : BitVec 32) := [TripState.waiting, .running, .creeping, .settling, .stopping].map fun st =>
      ((t st n).pipeline.active.map (·.state), (t st n).protection.state)
    states 0 = [(some .waiting, .armed), (some .settling, .armed), (some .settling, .armed), (some .settling, .armed),
                (some .stopping, .armed)]
      ∧ states 65 = [(some .running, .armed), (some .running, .armed), (some .creeping, .armed), (some .creeping, .armed),
                     (some .stopping, .armed)]
      ∧ (channel .cage (t .running 0)).atRest = false ∧ (s .waiting).pipeline.active.map (·.direction) = some .forward := by
  decide +kernel

/-- A STOPPING trip whose ramp has fallen to 0: the second sample above it, and the third. -/
theorem witness_MovementReachesThePayout_ramp :
    let s (run : Nat) := { stopping with
      trackers.cage.load := 12000, trackers.counterweight.load := 12000,
      guard.stop := stopping.guard.stop.map fun r => { r with overRun := run } }
    let t (run : Nat) := after (cageSample 65 2000) (s run)
    (t 1).guard.stop.map (·.overRun) = some 2 ∧ (t 1).protection.state = .armed
      ∧ (t 1).guard.queue.map (·.source) = [some .substitute]
      ∧ (t 2).protection.firstCause = some .stopFail := by decide +kernel

/-- A movement that abandons an open commitment. -/
theorem witness_MovementReachesThePayout_motion :
    recommitting.protection.state ≠ .noTables ∧ commitmentOpen recommitting = true
      ∧ (after (cageSample 1 2000) recommitting).tables.result = .abandoned (openSet recommitting) .motion := by
  decide +kernel

/-- A loss in TRIPPED with a drum not at rest, and under a WAITING trip with the drum at rest. -/
theorem witness_DrumTimersExpire_trip :
    let lost := after (.sampleWatchExpiry .skip) (queueing (carrying .waiting armed))
    ({ tripped with drums.skip.atRest := false }).protection.state = .tripped
      ∧ (channel .skip { tripped with drums.skip.atRest := false }).atRest = false
      ∧ (queueing (carrying .waiting armed)).pipeline.active.map (·.state) = some .waiting
      ∧ (channel .skip (queueing (carrying .waiting armed))).atRest = true
      ∧ lost.pipeline.history.map (fun r => (r.tag, r.outcome, r.cause))
        = [(22, .discarded, none), (21, .aborted, some .notReady)] := by decide +kernel

/-- The skip drum last to rest with trip 22 behind: promoted, DISCARDED for a hold in its way, LANDED where it stands,
and DISCARDED behind an OFF-STATION and an ABORTED finish. -/
theorem witness_RestFinishesTheTrip_behind :
    let s (st : TripState) (depth : Int) := queueing (finishing st depth)
    let outcomes (s : State) := (after (.restTimerExpiry .skip) s).pipeline.history.map fun r => (r.tag, r.outcome)
    let standing (s : State) := (after (.restTimerExpiry .skip) s).pipeline.active.map fun t => (t.tag, t.state)
    let held : State := { s .settling 2310150 with zones.holders := (s .settling 2310150).zones.holders.set 1 (some 7) }
    let there := setTracker .skip (datumedAt 2440300) (s .settling 2310150)
    outcomes (s .settling 2310150) = [(21, .landed)] ∧ standing (s .settling 2310150) = some (22, .waiting)
      ∧ outcomes held = [(22, .discarded), (21, .landed)] ∧ outcomes there = [(22, .landed), (21, .landed)]
      ∧ outcomes (s .settling 2310151) = [(22, .discarded), (21, .offStation)]
      ∧ outcomes (s .stopping 2310151) = [(22, .discarded), (21, .aborted)] := by decide +kernel

/-- A load that stretches the rope to 2,000 and to 2,001 mm beyond marker 1207, and to the bottom limit and beyond. -/
theorem witness_LoadsStretchTheRope_checks :
    let t (depth : Int) (load : BitVec 16) := after (.ropeLoad 31 0 (loadBody 1 load)) (cageAt depth)
    (tracker .cage (cageAt 2151990)).datumed = true ∧ (tracker .cage (cageAt 2151990)).expected = some 1
      ∧ (tracker .cage (t 2151990 70)).reported = 2152000 ∧ (tracker .cage (t 2151990 70)).missFlag = false
      ∧ (tracker .cage (t 2151990 77)).reported = 2152001 ∧ (tracker .cage (t 2151990 77)).missFlag = true
      ∧ (tracker .cage (t 3161990 48)).reported = 3162000 ∧ causePresent .overwind (t 3161990 48) = false
      ∧ (tracker .cage (t 3161990 53)).reported = 3162001 ∧ causePresent .overwind (t 3161990 53) = true := by
  decide +kernel

/-- A SUSPECT marker; a marker beyond a limit; the third datum, and one that leaves another conveyance UNDATUMED. -/
theorem witness_DatumMeetsTheMarker_clauses :
    let suspect := setRecord 1 { missCount := 3, suspect := true } (undatumed .cage)
    let narrow := { undatumed .cage with
      tables.shaft.active := shaftRows.set 2 (.compartment { cageRow with bottomLimit := 2149999 }) }
    let two := setTracker .skip { tracker .skip (undatumed .cage) with datumed := false } (undatumed .cage)
    let datum := after (.markerEvent 30 0 (markerBody 1 1207 1))
    (recordOf 1 suspect).suspect = true ∧ (recordOf 1 narrow).suspect = false
      ∧ (datum narrow).protection.firstCause = some .overwind
      ∧ allDatumed (datum two) = false ∧ (datum two).protection.state = .undatumed
      ∧ allDatumed (datum (undatumed .cage)) = true ∧ (datum (undatumed .cage)).protection.state = .armed := by
  decide +kernel

/-- A read of the expected marker and of another; the pair off its sum by 801 and by 800 after a sync of the cage. -/
theorem witness_SyncsCorrectTheOffset_clauses :
    let read := after (.markerEvent 30 0 (markerBody 1 1207 1))
    let pair (depth : Int) := read (setTracker .counterweight (datumedAt depth) (cageAt 2150000))
    (tracker .cage (cageAt 2150000)).expected = some 1 ∧ (tracker .cage armed).expected ≠ some 1
      ∧ (tracker .cage (read (cageAt 2150000))).expected = some 3
      ∧ causePresent .pair (pair 1032801) = true ∧ (pair 1032800).protection.state = .armed
      ∧ (tracker .cage (after (.markerEvent 30 0 (markerBody 1 1207 2)) (cageAt 2150000))).expected = some 3 := by
  decide +kernel

/-- The model's order (assumption 31): 10 mm short of 1208, the cage still expects 1207, far beyond `miss_distance`; the
sync of 1208 finds 1209 afresh first, and takes no miss. -/
theorem test_sync_of_another_takes_no_miss :
    let t := after (.markerEvent 30 0 (markerBody 1 1208 1)) (cageAt 2299990)
    (missedMarker .cage (cageAt 2299990)).isSome = true ∧ (tracker .cage t).reported = 2300000
      ∧ (tracker .cage t).expected = some 3 ∧ (tracker .cage t).missFlag = false
      ∧ t.requests.counters.syncs = 1 ∧ t.requests.counters.misses = 0 := by decide +kernel

/-- Beyond the expected marker by 2,000 and by 2,001 mm. -/
theorem witness_MissesAreTaken_check :
    (tracker .cage (cageAt 2152000)).datumed = true ∧ (markers (cageAt 2152000))[1]? = some marker1207
      ∧ missedMarker .cage (cageAt 2152000) = none ∧ (missedMarker .cage (cageAt 2152001)).isSome = true := by
  decide +kernel

theorem witness_ProtectiveTripOpensChain_clauses :
    TakesCauses recommitting ∧ commitmentOpen recommitting = true ∧ commitmentOpen armed = false
      ∧ (queueing (carrying .running armed)).pipeline.active.isSome = true := by unfold TakesCauses; decide +kernel

/-- 11,729 mm/s is the cage's threshold at the start of trip 21. -/
theorem witness_PermittedSpeedIsBounded_overspeed :
    let s (speed : Nat) := { carrying .waiting armed with drums.cage.speed := speed }
    (s 11729).envelope.thresholds.get .cage = some 11729
      ∧ (judgeOverspeed .cage (s 11729)).protection.state = .armed
      ∧ (judgeOverspeed .cage (s 11730)).protection.firstCause = some .overspeed := by decide +kernel

theorem witness_ReferencesAreGuarded_lengths :
    ([1, 2, 3] : List Byte).length ≠ 4 ∧ ([1, 2, 3, 4, 5] : List Byte).length ≠ 4 ∧ watchRuns watched = true
      ∧ (timingRow watched).isSome = true := by decide +kernel

theorem witness_CommandsMeetTheirGates_lengths :
    ([] : List Byte).length ≠ 1 ∧ ([1, 2] : List Byte).length ≠ 1 := by decide +kernel

/-- A REGIME row with every field at its lowest, and a MARKER row as the 96th of its kind. -/
theorem witness_RowsReadBackAsLoaded_ranges :
    FieldsInRange (.regime { vMax := 100, decel := 100, vCreep := 100, dCreep := 0, marginAbs := 50, marginPct := 0,
                             stopDecel := 100 })
      ∧ StandsAt .profile 1 [] (.regime { vMax := 100, decel := 100, vCreep := 100, dCreep := 0, marginAbs := 50,
                                          marginPct := 0, stopDecel := 100 })
      ∧ FieldsInRange (.marker marker1207)
      ∧ StandsAt .shaft 99 (List.replicate 95 (.marker marker1207)) (.marker marker1207) := by
  unfold FieldsInRange StandsAt IsDepth; decide +kernel

theorem witness_RowLoadFillsTheShadow_table : Ready .c loading ∧ TableId.ofByte 3 = none
    ∧ (List.replicate 52 (0 : Byte)).length ≤ 52 := by unfold Ready; decide +kernel

/-- A shadow MARKER row reads with two bytes of 0 behind it (R11). -/
theorem witness_RowReadReturnsTheRow_shadow :
    let s : State := { armed with tables.shaft.shadow := shaftRows }
    TableId.ofByte 0 = some .shaft ∧ (1 : Byte).toNat < 2
      ∧ (bank .shaft s).shadow[(5 : Byte).toNat]? = some (.marker marker1207)
      ∧ capacity .profile ≤ (6 : Byte).toNat
      ∧ (takeRowRead [0, 1, 5] s).2.data = rowBytes (.marker marker1207) ++ [0, 0] := by decide +kernel

/-- The skip's row of the manual's shadow is named: the last of its zones ends above its `bottom_limit`. -/
theorem witness_ValidationRules_names :
    (openSet committing).has .shaft = true ∧ Names .zoneCover .shaft (bank .shaft committing).shadow 1 := by
  refine ⟨by decide +kernel, rfl, Or.inl ⟨_, rfl, Or.inr ⟨11, _, ⟨by decide, ⟨rfl, rfl⟩, ?_⟩, by decide⟩⟩⟩
  intro j z above below zone
  have others : ∀ j < shaftRows.length, 11 < j →
      (match shaftRows[j]? with | some (.zone z) => decide (z.compartment ≠ .skip) | _ => true) = true := by
    decide +kernel
  have at_j : shaftRows[j]? = some (.zone z) := zone.1
  have apart := others j below above
  rw [at_j] at apart
  exact of_decide_eq_true apart zone.2

theorem witness_ConfirmSwapsTheBanks_refused :
    let turning : State := { recommitting with drums.skip.atRest := false }
    armed.key = .locked ∧ committing.key = .unlocked ∧ (bank .shaft committing).state = .validating
      ∧ ({ armed with key := .unlocked }).key = .unlocked
      ∧ turning.key = .unlocked ∧ (bank .drum turning).state = .validated ∧ turning.protection.state ≠ .noTables
      ∧ winderAtRest turning = false := by decide +kernel

/-- The least TRAVEL trip of the skip, behind none and behind trip 21. -/
theorem witness_AcceptedTripsArePlaced_travel :
    let p : List Byte := [23, 1, 0, 3, 0, 1, 0, 0, 0, 100]
    let a : TripAsked := { tag := 23, kind := .travel 100, lead := .skip, regime := .inspection, direction := .reverse }
    readTrip p armed = .ok a ∧ startsWithinWindow (candidate a armed) armed = false
      ∧ heldAgainst (candidate a armed) armed = [] ∧ (candidate a armed).direction = .reverse
      ∧ (carrying .waiting armed).pipeline.active.isSome = true := by decide +kernel

/-- Kind 2 asks for no trip; and a start at the edge of the `window` of the station asked for. -/
theorem witness_TripsAreRefusedInOrder_range :
    (¬∃ a, AsksFor [21, 2, 1, 2, 1, 0, 0, 0, 0, 0] a armed) ∧ tagRefused 21 armed = false
      ∧ (∃ a, AsksFor params21 a armed)
      ∧ let s := setTracker .cage (datumedAt 2310150) armed
        readTrip params21 s = .ok trip21 ∧ trip21.kind = .station 1
          ∧ (candidate trip21 s).starts.get .cage = some 2310150
          ∧ (stations s)[1]?.map (fun st => (st.stopDepth, st.window)) = some (2310000, 150) := by
  refine ⟨?_, by decide +kernel, ⟨trip21, rfl, rfl, rfl, Or.inl ⟨rfl, rfl, rfl, ⟨_, rfl, rfl, by decide⟩,
    Or.inr (Or.inr (Or.inl ⟨rfl, rfl⟩))⟩⟩, by decide +kernel⟩
  rintro ⟨a, -, -, -, ⟨kind, -⟩ | ⟨kind, -⟩⟩ <;> exact absurd kind (by decide +kernel)

/-- The active trip's tag while another waits behind it, under way and with its drums at rest already. -/
theorem witness_AbortsFollowTheTable_active :
    let moving := { queueing (carrying .running armed) with drums.cage.atRest := false }
    let still := queueing (carrying .running armed)
    let aborted (s : State) := (after (.tripAbort 1 4 [21]) s).pipeline
    (21 : Byte) ≠ 22 ∧ still.pipeline.waiting.map (·.tag) = some 22
      ∧ moving.pipeline.active.map (fun t => (t.state, movingDrumsAtRest t moving)) = some (.running, false)
      ∧ still.pipeline.active.map (fun t => (t.state, movingDrumsAtRest t still)) = some (.running, true)
      ∧ (aborted moving).active.map (·.state) = some .stopping
      ∧ (aborted moving).history.map (fun r => (r.tag, r.outcome)) = [(22, .discarded)]
      ∧ (aborted still).active = none
      ∧ (aborted still).history.map (fun r => (r.tag, r.outcome)) = [(22, .discarded), (21, .aborted)] := by
  decide +kernel

/-! The upstream queue, the flags, the counters and the watch list -/

/-- The part with this many frames in the upstream queue. -/
def upWith (n : Nat) (s : State) : State := { s with line.queue := List.replicate n { frame := plain, mark := .part } }

/-- The last place of each mark and the first frame without one; a flag clear and set; a counter at its end (R169, R185,
R186). -/
theorem witness_OtherFramesPass_upstream :
    (offerUp .field plain (upWith 11 armed)).line.queue.length = 12
      ∧ (offerUp .field plain (upWith 12 armed)).line.queue.map (·.frame.body.take 2) = List.replicate 12 [3] ++ [[1, 8]]
      ∧ (offerUp .part plain (upWith 15 armed)).line.queue.length = 16
      ∧ (offerUp .part plain (upWith 16 armed)).line.queue.length = 16
      ∧ (offerUp .part plain (upWith 16 armed)).requests.counters.droppedUp = 2
      ∧ (setFlag .silent { armed with requests.flags := 1 }).line.queue.map (·.frame) = [makeFrame 0x42 240 1 [1, 11, 8, 1]]
      ∧ flagSet .silent { armed with requests.flags := 0x800 } = true
      ∧ (count .foreign { armed with requests.counters.foreign := 65534 }).requests.counters.foreign = 65535
      ∧ (count .foreign { armed with requests.counters.foreign := 65535 }).requests.counters.foreign = 65535 := by
  decide +kernel

/-- Trip 21 lands: of stations 7, 8 and 9, which watch zones 1, 3 and 4 of its swept set, station 9's zone still holds the
cage; the two others are told CLEAR, behind FINISH's notice, while the queue has room. -/
theorem witness_ZoneMapStaysCurrent_watch :
    let s (n : Nat) : State := upWith n { handOn (setTracker .cage (datumedAt 2310000) (carrying .settling coming)) with
      zones.watchList := [{ zone := 1, station := 7 }, { zone := 3, station := 8 }, { zone := 4, station := 9 }] }
    let t (n : Nat) := after (.restTimerExpiry .skip) (s n)
    WatchedZonesBusy (s 0) ∧ Ready .c (s 0) ∧ Ready .d (s 0)
      ∧ (summaryOf 1 (t 0), summaryOf 3 (t 0), summaryOf 4 (t 0)) = (.clear, .clear, .occupied)
      ∧ (t 0).zones.watchList = [{ zone := 4, station := 9 }]
      ∧ (t 0).line.queue.map (·.frame) = [makeFrame 0x42 240 1 [1, 2, 0, 5], makeFrame 0x42 240 7 [2, 1, 5, 0],
                                          makeFrame 0x42 240 8 [2, 3, 5, 0]]
      ∧ (t 14).line.queue.length = 16 ∧ (t 14).zones.watchList = [{ zone := 4, station := 9 }] := by
  unfold WatchedZonesBusy Ready; decide +kernel

theorem witness_ZoneMapStaysCurrent_commands (s : State) :
    (Instr.restTimerExpiry .skip).wellFormed = true ∧ Instr.restTimerExpiry .skip ≠ .cTransmitStart
      ∧ ¬EmptiesWatchList (.restTimerExpiry .skip) s
      ∧ Completes (.restTimerExpiry .skip) s (after (.restTimerExpiry .skip) s) := by
  refine ⟨rfl, by simp, ?_, rfl⟩
  rintro (h | ⟨_, _, _, h⟩ | ⟨_, _, _, h, _⟩) <;> cases h

/-! The clauses of lock, rest, datum and interlock -/

/-- A run of 3 whose sample is not good, and a LOCKING channel that holds no baseline. -/
theorem witness_LockMovesByTheTable_notGood :
    let t := after (.drumSample 20 0 (sampleBody 0 2 65 2000)) (channelIn (.locking 3))
    (channel .skip (channelIn (.locking 3))).baseline = some { seq := 0, stamp := 0 } ∧ (2 : Byte) ≠ 0 + 1
      ∧ (channel .skip t).lock = .unlocked ∧ (channel .skip t).payout = (channel .skip (channelIn (.locking 3))).payout
      ∧ t.tables = (channelIn (.locking 3)).tables
      ∧ (channel .cage (setChannel .cage { lockedChannel with lock := .locking 3, baseline := none } armed)).baseline = none
      := by decide +kernel

/-- The skip's rest finishes a trip that moves the skip alone while the cage drum turns, and no trip that moves both. -/
theorem witness_RestFinishesTheTrip_alone :
    let s (all : Bool) := setActive (some { travelling with movesAll := all }) { coming with drums.cage.atRest := false }
    let t (all : Bool) := after (.restTimerExpiry .skip) (s all)
    (channel .skip (s false)).restTimer ≠ none ∧ (channel .skip (s false)).atRest = false
      ∧ (channel .cage (s false)).atRest = false
      ∧ (t false).pipeline.history.map (·.outcome) = [.completed] ∧ (t false).pipeline.active = none
      ∧ (t true).pipeline = (s true).pipeline := by decide +kernel

/-- A RECOVERY trip of the skip, FORWARD over 100 mm, that meets the cage UNDATUMED: its datum at 2,150,000 plans the cage
to 2,150,100, and adds zones 3 and 4 to zone 2 (R92). -/
theorem witness_DatumMeetsTheMarker_plan :
    let recovery : TripAsked :=
      { tag := 5, kind := .travel 100, lead := .skip, regime := .recovery, direction := .forward }
    let s := undatumed .cage
    let s := setActive (some { candidate recovery s with state := .waiting, payoutOrigin := some 0 }) s
    let t := after (.markerEvent 30 0 (markerBody 1 1207 1)) s
    s.pipeline.active.map (fun p => (p.movesAll, p.starts.cage, p.swept)) = some (true, none, [2, 8])
      ∧ findMarker (1207#16).toNat s = some (1, marker1207) ∧ (tracker .cage s).datumed = false
      ∧ (recordOf 1 s).suspect = false ∧ compartmentRow .cage s = some cageRow
      ∧ (tracker .cage t).reported ≤ cageRow.bottomLimit
      ∧ t.pipeline.active.map (fun p => (p.starts.cage, p.ends.cage, p.swept))
        = some (some 2150000, some 2150100, [2, 3, 8]) := by decide +kernel

/-- Trip 22 behind trip 21: a clutch change and an unready cage landing, in WAITING and under way. -/
theorem witness_InterlockReplacesTheImage_records :
    let finish (st : TripState) (readiness : BitVec 32) (clutch : Byte) :=
      (after (.interlockState 32 0 (interlockBody readiness clutch 1)) (queueing (carrying st armed))).pipeline.history.map
        fun r => (r.tag, r.outcome, r.cause)
    finish .waiting 0xFFFFFD#32 3 = [(22, .discarded, none), (21, .aborted, some (.protective .clutch))]
      ∧ finish .waiting 0xFFFFFD#32 1 = [(22, .discarded, none), (21, .aborted, some .notReady)]
      ∧ finish .running 0xFFFFFD#32 3 = [(22, .discarded, none), (21, .tripped, some (.protective .clutch))]
      ∧ finish .running 0xFFFFFD#32 1 = [(22, .discarded, none), (21, .tripped, some (.protective .gate))] := by
  decide +kernel

/-! The clauses of P and of the references that leave -/

/-- At `d_creep` and 1 mm beyond it (R100); with no trip, and with one, each moved conveyance with its row. -/
theorem witness_PermittedSpeedIsBounded_envelopes :
    let s := carrying .running armed
    let at_ (depth : Int) := (carrying .running (setTracker .cage (datumedAt depth) armed)).envelope.envelopes.cage
    TakesCauses s ∧ (regimeRow .persons s).isSome = true ∧ s.pipeline.active.map (·.regime) = some .persons
      ∧ (compartmentRow .skip s).isSome = true ∧ (compartmentRow .counterweight s).isSome = true
      ∧ (computeEnvelope armed).permitted = 0 ∧ armed.pipeline.active = none
      ∧ at_ 2307000 = some 500 ∧ at_ 2306999 = some 501 ∧ at_ 2310000 = some 0
      ∧ s.pipeline.active.map (·.kind) = some (.station 1) ∧ travelling.payoutOrigin = some 0
      ∧ travelling.kind = .travel 100 ∧ travelling.direction = .reverse := by unfold TakesCauses; decide +kernel

/-- A reference at P leaves as it stands; one above P leaves at P; a substitute is not counted (R117). -/
theorem witness_DownstreamStartsPassTheGates_reference :
    let s (speed : Int) (source : RefSource) (mark : Byte) : State := { carrying .running armed with
      guard.queue := [{ frame := makeFrame 0x10 1 20 (speedBody 7 speed mark), source := some source }] }
    let t (speed : Int) (source : RefSource) (mark : Byte) := after .dTransmitStart (s speed source mark)
    (s 11171 .controller 0).envelope.permitted = 11171 ∧ (s 11171 .controller 0).guard.transmitter = .idle
      ∧ blockedNow (makeFrame 0x10 1 20 (speedBody 7 11171 0)) (s 11171 .controller 0) = false
      ∧ (readSpeed (speedBody 7 11172 0)).map (·.speed) = some 11172
      ∧ (t 11171 .controller 1).guard.transmitter = .sending (makeFrame 0x10 1 20 (speedBody 7 11171 1))
      ∧ (t 11172 .controller 0).guard.transmitter = .sending (makeFrame 0x10 1 20 (speedBody 7 11171 1))
      ∧ (t 11172 .controller 0).requests.counters.clamped = 1
      ∧ (t 11172 .substitute 2).guard.transmitter = .sending (makeFrame 0x10 1 20 (speedBody 7 11171 2))
      ∧ (t 11172 .substitute 2).requests.counters.clamped = 0
      ∧ (t (-1) .controller 0).guard.lastRef = { magnitude := 0, seq := 7, target := 20 } := by decide +kernel

/-! The records of aborts and withdrawals -/

/-- An abort under way takes the controller's reference out of the queue and begins the stop at the last speed sent. -/
theorem witness_AbortsFollowTheTable_stop :
    let s : State := { watched with
      guard.queue := [waitingReference], guard.lastRef := { magnitude := 7797, seq := 7, target := 20 } }
    let t := after (.tripAbort 1 4 [0]) s
    s.pipeline.active.map (fun p => (p.state, movingDrumsAtRest p s, (regimeRow p.regime s).isSome))
        = some (.running, false, true)
      ∧ t.guard.queue = [] ∧ t.guard.stop.map (fun r => (r.startSpeed, r.deadline.lengthMs, r.forward))
        = some (7797, 10663, true) := by decide +kernel

/-- The waiting trip withdrawn; and the active one, with the waiting one behind it. -/
theorem witness_InquiriesLookWithdrawOrWatch_records :
    let s := queueing (carrying .waiting armed)
    let records (z : Byte) := (after (.zoneInquiry 15 3 [z, 1]) s).pipeline.history.map fun r => (r.tag, r.outcome)
    s.pipeline.active.isSome = true ∧ s.pipeline.waiting.isSome = true
      ∧ records 6 = [(22, .withdrawn)] ∧ records 4 = [(22, .discarded), (21, .withdrawn)] := by decide +kernel

/-! The clauses of a loss of lock, of the sample watch, and of a rest that a sample brings -/

/-- The skip's next sample with the `seq` lost. -/
def lostSample : Instr := .drumSample 20 0 (sampleBody 0 2 0 2000)

/-- With no DRUM table a first sample sets the position and starts no watch; with one, a good sample and one that costs
the lock restart it at 20 ms, whatever it had run. -/
theorem witness_LockMovesByTheTable_watch :
    let late := setChannel .skip { lockedChannel with watchTimer := some { lengthMs := 7, runUs := 7000 } } armed
    let t := after (.drumSample 20 0 (sampleBody 0 2 5 2000)) quiet
    Ready .d quiet ∧ drumRow quiet = none ∧ (channel .skip t).position = 5 ∧ (channel .skip t).applied = 5
      ∧ (channel .skip t).lock = .unlocked ∧ (channel .skip t).baseline = none ∧ (channel .skip t).watchTimer = none
      ∧ drumRow late = some drumConstants
      ∧ (channel .skip (after (.drumSample 20 0 (sampleBody 0 1 0 2000)) late)).watchTimer
        = some { lengthMs := 20, runUs := 0 }
      ∧ (channel .skip (after lostSample late)).watchTimer = some { lengthMs := 20, runUs := 0 } := by
  unfold Ready; decide +kernel

/-- A lost `seq` under a moving trip, under a WAITING one at rest, in TRIPPED off rest, and at rest with no trip. -/
theorem witness_LockMovesByTheTable_loss :
    let records (s : State) := (after lostSample s).pipeline.history.map fun r => (r.tag, r.outcome, r.cause)
    let moving := queueing (carrying .running armed)
    let waiting := queueing (carrying .waiting armed)
    let turning : State := { tripped with drums.skip.atRest := false }
    (channel .skip moving).lock = .locked ∧ TakesCauses moving ∧ tripMoving moving = true
      ∧ (after lostSample moving).protection.firstCause = some .sample
      ∧ records moving = [(22, .discarded, none), (21, .tripped, some (.protective .sample))]
      ∧ (channel .skip waiting).atRest = true ∧ (after lostSample waiting).protection.state = .armed
      ∧ records waiting = [(22, .discarded, none), (21, .aborted, some .notReady)]
      ∧ turning.protection.state = .tripped ∧ (channel .skip turning).lock = .locked
      ∧ causePresent .sample (after lostSample turning) = true
      ∧ (after lostSample armed).protection = armed.protection ∧ (after lostSample armed).pipeline = armed.pipeline := by
  unfold TakesCauses; decide +kernel

/-- A WAITING trip and a drum not at rest: the abort and the protective trip arise from one loss. -/
theorem witness_LossFollows_both :
    let s := carrying .waiting coming
    TakesCauses s ∧ (∃ trip, s.pipeline.active = some trip ∧ trip.state = .waiting)
      ∧ (channel .skip s).atRest = false ∧ (channel .skip s).lock = .locked ∧ (channel .skip s).watchTimer ≠ none :=
  ⟨by unfold TakesCauses; decide +kernel, ⟨_, rfl, rfl⟩, by decide +kernel, by decide +kernel, by decide +kernel⟩

/-- A loss by a sample and one by the watch abandon an open commitment outside NO-TABLES, and not in it. -/
theorem witness_LossFollows_commitment :
    let early : State := { recommitting with protection.state := .noTables }
    let watch : Instr := .sampleWatchExpiry .skip
    recommitting.protection.state ≠ .noTables ∧ commitmentOpen recommitting = true
      ∧ recommitting.pipeline.active = none ∧ commitmentOpen armed = false
      ∧ (after lostSample recommitting).tables.result = .abandoned (openSet recommitting) .motion
      ∧ (after watch recommitting).tables.result = .abandoned (openSet recommitting) .motion
      ∧ (bank .drum (after watch recommitting)).state = .loading
      ∧ (channel .skip early).lock = .locked ∧ (after lostSample early).tables = early.tables
      ∧ (after watch early).tables = early.tables := by decide +kernel

/-- The first confirm starts both watches; a later DRUM confirm leaves them. -/
theorem witness_ConfirmSwapsTheBanks_watches :
    let t := after (.commitConfirm 1 4 []) validated
    let later := after (.commitConfirm 1 4 []) { recommitting with drums.cage.watchTimer := none }
    validated.protection.state = .noTables ∧ drumRow t = some drumConstants
      ∧ (channel .skip t).watchTimer = some { lengthMs := 20, runUs := 0 }
      ∧ (channel .cage t).watchTimer = some { lengthMs := 20, runUs := 0 }
      ∧ (channel .cage later).watchTimer = none := by decide +kernel

/-- A sample of no counts finishes the trip whose last drum it brings to rest, the timer having run 1,500 ms and not
1 µs less: LANDED at 150 mm from the stop with trip 22 promoted, OFF-STATION at 151, COMPLETED, and ABORTED. -/
theorem witness_MovementReachesThePayout_finish :
    let slow (s : State) (ran : Nat) := after (.drumSample 20 0 (sampleBody 0 1 0 2000))
      { s with
        trackers.skip.load := 12000
        drums.skip.restTimer := some { lengthMs := 1500, runUs := ran } }
    let outcomes (s : State) (ran : Nat) := (slow s ran).pipeline.history.map fun r => (r.tag, r.outcome)
    let behind (depth : Int) := queueing (finishing .settling depth)
    (channel .skip (behind 2310150)).atRest = false ∧ (channel .cage (behind 2310150)).atRest = true
      ∧ (channel .skip (slow (behind 2310150) 1500000)).atRest = true
      ∧ outcomes (behind 2310150) 1500000 = [(21, .landed)]
      ∧ (slow (behind 2310150) 1500000).pipeline.active.map (fun p => (p.tag, p.state)) = some (22, .waiting)
      ∧ outcomes (behind 2310151) 1500000 = [(22, .discarded), (21, .offStation)]
      ∧ outcomes (setActive (some travelling) coming) 1500000 = [(1, .completed)]
      ∧ outcomes (finishing .stopping 2310151) 1500000 = [(21, .aborted)]
      ∧ (channel .skip (slow (behind 2310150) 1499999)).atRest = false
      ∧ (slow (behind 2310150) 1499999).pipeline.active.map (fun p => (p.tag, p.state)) = some (21, .settling) := by
  decide +kernel

/-- A trip of the skip alone, and one of both drums whose cage still turns: only the first is finished. -/
theorem witness_LastToRest :
    let s (all : Bool) := setActive (some { travelling with movesAll := all })
      { coming with drums.cage.atRest := false, trackers.skip.load := 12000 }
    let t (all : Bool) := after (.drumSample 20 0 (sampleBody 0 1 0 2000)) (s all)
    LastToRest .skip false (s false) (t false) ∧ ¬LastToRest .skip true (s true) (t true)
      ∧ (t false).pipeline.history.map (·.outcome) = [.completed]
      ∧ (t true).pipeline.active.map (·.state) = some .settling := by
  refine ⟨⟨by decide +kernel, by decide +kernel, fun x moved => ?_⟩, fun last => ?_, by decide +kernel, by decide +kernel⟩
  · cases x
    · decide +kernel
    · exact absurd moved (by decide)
  · exact absurd (last.2.2 .cage rfl) (by decide +kernel)

end Sys2Proof.Tests
end

/-! PROOF. Requests as their frames arrive: a request's frame is judged whole and served, a kind not open to panels is
refused to every station but the controller, and what COMMIT CANCEL answers (R33, R163 to R166, R177). -/

namespace Sys2Proof.Machine

/-! ### A frame on its way in (R163 to R166) -/

@[simp] theorem frameHead_length (cls origin target : Byte) (body : List Byte) :
    (frameHead cls origin target body).length = body.length + 4 := by
  rw [frameHead, List.length_append, Nat.add_comm]; rfl

@[simp] theorem frameBytes_length (f : Frame) : (frameBytes f).length = f.body.length + 6 := by
  simp [frameBytes]

/-- A check word reads back from its two bytes (R165, R172). -/
theorem ofNat_be_beBytes_two (w : BitVec 16) : BitVec.ofNat 16 (be (beBytes 2 w.toNat)) = w := by
  rw [be_beBytes_of_lt (n := 2) w.isLt, BitVec.ofNat_toNat, BitVec.setWidth_eq]

/-- A frame made with its check word and received whole is judged whole, as it was sent (R164, R165). -/
theorem judgeFrame_frameBytes (cls origin target : Byte) {body : List Byte} (fits : body.length ≤ 56) :
    judgeFrame (frameBytes (makeFrame cls origin target body)) false = .whole (makeFrame cls origin target body) := by
  have lengthField : (BitVec.ofNat 8 body.length).toNat = body.length := by
    rw [BitVec.toNat_ofNat]; omega
  have covered (check : List Byte) : (frameHead cls origin target body ++ check).take (body.length + 4)
      = frameHead cls origin target body := List.take_left' (frameHead_length cls origin target body)
  have size : (frameBytes (makeFrame cls origin target body)).length = body.length + 6 := frameBytes_length _
  have sizeFits : ¬(body.length + 6 < 6 ∨ 62 < body.length + 6) := by omega
  unfold judgeFrame
  simp only [size, if_neg sizeFits]
  simp only [frameBytes, makeFrame, frameHead, List.cons_append, List.nil_append] at covered ⊢
  simp [lengthField, fits, covered, ofNat_be_beBytes_two]

/-- A frame of a body that fits, on a link whose receiver is in IDLE, is taken as it was made (R163, R164). -/
theorem deliverFrame_of_idle {l : Link} {s : State} (cls origin target : Byte) {body : List Byte}
    (idle : receiver l s = .idle) (fits : body.length ≤ 56) :
    deliverFrame l cls origin target body s = takeFrame l (makeFrame cls origin target body) s := by
  let sent := (frameBytes (makeFrame cls origin target body)).map goodByte
  have size : sent.length = body.length + 6 := by simp [sent, makeFrame]
  have values : sent.map LineByte.value = frameBytes (makeFrame cls origin target body) := by
    simp [sent, Function.comp_def, goodByte]
  have stopBits : (sent.any fun b => !b.stopBit) = false := by
    simp [sent, goodByte]
  have some : sent ≠ [] := List.ne_nil_of_length_pos (by omega)
  rw [deliverFrame, deliver_of_idle sent idle some (by omega), values, stopBits, judgeFrame_frameBytes _ _ _ fits]
  rfl

/-- A request to station 240 reaches the Request Handler with its kind, tag and parameters as sent (R166). -/
theorem deliverRequest_of_ready {s : State} (origin kind tag : Byte) {params : List Byte} (ready : Ready .c s)
    (fits : params.length ≤ 54) :
    deliverRequest origin kind tag params s = serveRequest origin kind tag params s := by
  rw [deliverRequest, deliverFrame_of_idle _ _ _ ready (by simp only [List.length_cons]; omega)]
  rfl

/-! ### What every request passes (R177) -/

@[simp] theorem RequestKind.ofByte_code (k : RequestKind) : RequestKind.ofByte k.code = some k := by
  cases k <;> rfl

/-- The controller may use every kind (R177). -/
@[simp] theorem originMayUse_controller (k : RequestKind) : originMayUse 1 k = true := rfl

/-- A kind not open to panels is for the controller alone (R177). -/
theorem originMayUse_of_not_openToPanels {origin : Byte} {k : RequestKind} (closed : k.openToPanels = false)
    (other : origin ≠ 1) : originMayUse origin k = false := by
  have : origin.toNat ≠ 1 := fun h => other (BitVec.eq_of_toNat_eq h)
  simp [originMayUse, closed, this]

/-- A station that may not use the kind is refused with no change of state (R177). -/
theorem answerRequest_of_origin {origin : Byte} {k : RequestKind} (params : List Byte) (s : State)
    (may : originMayUse origin k = false) : answerRequest origin k.code params s = (s, .bare .origin) := by
  simp [answerRequest, may]

/-- A request that passes the judgement of origin and length is answered by its own rule (R177). -/
theorem answerRequest_of_passed {origin : Byte} {k : RequestKind} {params : List Byte} (s : State)
    (may : originMayUse origin k = true) (fits : lengthFits k params = true) :
    answerRequest origin k.code params s = ownRule k origin params s := by
  simp [answerRequest, may, fits]

/-! ### COMMIT CANCEL (R33) -/

/-- A commitment is open exactly when some shadow bank is not in LOADING (R20). -/
theorem commitmentOpen_iff (s : State) : commitmentOpen s = true ↔ ∃ b, (bank b s).state ≠ .loading := by
  have left (b : BankState) : (b = .validating ∨ b = .validated) ↔ b ≠ .loading := by cases b <;> simp
  have isOpen : commitmentOpen s = true ↔ (bank .shaft s).state ≠ .loading ∨ (bank .profile s).state ≠ .loading
      ∨ (bank .drum s).state ≠ .loading := by
    simp only [commitmentOpen, anyValidating, anyValidated, Bool.or_eq_true, decide_eq_true_eq, ← left, bank]
    tauto
  rw [isOpen]
  constructor
  · rintro (shaft | profile | drum)
    exacts [⟨_, shaft⟩, ⟨_, profile⟩, ⟨_, drum⟩]
  · rintro ⟨b, h⟩
    cases b <;> simp [h]

/-- With no commitment open, COMMIT CANCEL is EMPTY and changes no state (R33). -/
theorem takeCommitCancel_closed {s : State} (closed : commitmentOpen s = false) :
    takeCommitCancel s = (s, .bare .empty) := by
  simp [takeCommitCancel, closed]

/-- An open commitment is closed and recorded CANCELLED with the set it named; no flag is set (R33). -/
theorem takeCommitCancel_open {s : State} (isOpen : commitmentOpen s = true) :
    takeCommitCancel s = (setResult (.cancelled (openSet s)) (closeCommitment s), .ok) := by
  simp [takeCommitCancel, isOpen]

/-- COMMIT CANCEL completes with its one reply, as the Request Handler answers it. -/
theorem answers_commitCancel {s after : State} {origin : Byte} (tag : Byte) {r : Reply} (ready : Ready .c s)
    (answered : answerRequest origin (RequestKind.code .commitCancel) [] s = (after, r)) :
    Answers (.commitCancel origin tag []) origin 0x05 tag s after r := by
  have run : exec (.commitCancel origin tag []) s
      = .next (deliverRequest origin (RequestKind.code .commitCancel) tag [] s) := rfl
  rw [Answers, run, deliverRequest_of_ready _ _ _ ready (Nat.zero_le _), serveRequest, answered]
  rfl

/-- COMMIT CANCEL of the controller is answered by its own rule. -/
theorem answerRequest_commitCancel_controller (s : State) :
    answerRequest 1 (RequestKind.code .commitCancel) [] s = takeCommitCancel s :=
  answerRequest_of_passed s (originMayUse_controller _) rfl

/-- Settles O47: a station other than 1 stops at the judgement of origin; for station 1 the answer turns on whether a
commitment is open, which is whether some bank has left LOADING (R33). -/
theorem cancelReturnsTheBanks : Obligations.CancelReturnsTheBanks := by
  intro s origin tag ready
  refine ⟨fun other => ?_, fun controller allLoading => ?_, fun controller someOpen => ?_⟩
  case refine_1 =>
    exact answers_commitCancel tag ready
      (answerRequest_of_origin [] s (originMayUse_of_not_openToPanels rfl other))
  case refine_2 =>
    subst controller
    have closed : commitmentOpen s = false := by
      simpa [allLoading] using (commitmentOpen_iff s).not
    exact answers_commitCancel tag ready
      ((answerRequest_commitCancel_controller s).trans (takeCommitCancel_closed closed))
  case refine_3 =>
    subst controller
    have isOpen : commitmentOpen s = true := (commitmentOpen_iff s).mpr someOpen
    exact answers_commitCancel tag ready
      ((answerRequest_commitCancel_controller s).trans (takeCommitCancel_open isOpen))

end Sys2Proof.Machine

/-! PROOF. The downstream queue's coalescing rule: a waiting reference is replaced where it stands, and with none waiting
the reference joins the tail (R113, R114). -/

namespace Sys2Proof.Machine

/-! ### A reference replaced in its place (R113) -/

theorem replaceReference_append (f : DownFrame) (front back : List DownFrame) :
    replaceReference f (front ++ back) = replaceReference f front ++ replaceReference f back := List.map_append

/-- The waiting reference itself gives way to the arriving one. -/
theorem replaceReference_cons_of_isReference {g : DownFrame} (f : DownFrame) (behind : List DownFrame)
    (waiting : g.isReference = true) : replaceReference f (g :: behind) = f :: replaceReference f behind := by
  simp [replaceReference, waiting]

/-- Frames that are no references stay as they are. -/
theorem replaceReference_of_noReference {q : List DownFrame} (f : DownFrame) (others : ∀ h ∈ q, h.isReference = false) :
    replaceReference f q = q := by
  have keeps : ∀ h ∈ q, (if h.isReference then f else h) = id h := fun h mem => by simp [others h mem]
  rw [replaceReference, List.map_congr_left keeps, List.map_id]

/-- The only reference of a queue is replaced where it stands; the frames before and behind it stay (R113). -/
theorem replaceReference_only {before behind : List DownFrame} {g : DownFrame} (f : DownFrame)
    (waiting : g.isReference = true) (others : ∀ h ∈ before ++ behind, h.isReference = false) :
    replaceReference f (before ++ g :: behind) = before ++ f :: behind := by
  obtain ⟨noneBefore, noneBehind⟩ := List.forall_mem_append.mp others
  rw [replaceReference_append, replaceReference_cons_of_isReference f behind waiting,
    replaceReference_of_noReference f noneBefore, replaceReference_of_noReference f noneBehind]

/-! ### The cases of the coalescing rule (R113) -/

/-- A frame appended downstream joins the tail, or is dropped at a full queue (R114). -/
theorem appendDown_eq_joinsTail (f : DownFrame) (s : State) : appendDown f s = joinsTail f s := rfl

/-- With a reference waiting, the queue is rewritten in place and one more frame is superseded (R113). -/
theorem coalesce_of_waiting {s : State} {g : DownFrame} (f : DownFrame) (mem : g ∈ s.guard.queue)
    (waiting : g.isReference = true) :
    coalesce f s = count .superseded { s with guard.queue := replaceReference f s.guard.queue } :=
  if_pos (List.any_eq_true.mpr ⟨g, mem, waiting⟩)

/-- With no reference waiting, the arriving one is appended as any other frame (R113). -/
theorem coalesce_of_noneWaiting {s : State} (f : DownFrame) (others : ∀ h ∈ s.guard.queue, h.isReference = false) :
    coalesce f s = appendDown f s := by
  have noneWaits : s.guard.queue.any DownFrame.isReference = false :=
    List.any_eq_false.mpr fun h mem => by simp [others h mem]
  simp [coalesce, noneWaits]

/-- Settles O35: the rule turns on whether a reference waits; the one that does lies between frames that are no
references, so that the rewritten queue differs in its place only (R113). -/
theorem referencesCoalesce : Obligations.ReferencesCoalesce := by
  intro f s
  refine ⟨fun before g behind queue waiting others => ?_, fun others => ?_⟩
  case refine_1 =>
    have mem : g ∈ s.guard.queue := queue ▸ List.mem_append_cons_self
    rw [coalesce_of_waiting f mem waiting, queue, replaceReference_only f waiting others]
  case refine_2 =>
    rw [coalesce_of_noneWaiting f others, appendDown_eq_joinsTail]

end Sys2Proof.Machine

/-! PROOF. After a protective trip: every drive answer is heard (R139), and TRIP RESET closes CHAIN once its four
conditions hold (R141 to R143). -/

namespace Sys2Proof.Machine

/-! ### The drive's answers (R139, R167) -/

/-- A D-link frame of two bytes of class DRIVE ANSWER is observed and then offered upstream (R139, R167). -/
theorem takeFromD_driveAnswer (origin target : Byte) {body : List Byte} (size : body.length = 2) (s : State) :
    takeFromD (makeFrame (classCode .driveAnswer) origin target body) s
      = offerField (makeFrame (classCode .driveAnswer) origin target body) (observeAnswer s) := by
  have observed : observe (makeFrame (classCode .driveAnswer) origin target body) s = observeAnswer s := if_pos size
  rw [← observed]
  rfl

/-- Settles O31: the frame of an answer arrives whole, and its observation looks at the body's length alone (R139). -/
theorem driveAnswersAreHeard : Obligations.DriveAnswersAreHeard := by
  intro s origin target kind driveState ready
  have run : exec (.driveAnswer origin target [kind, driveState]) s
      = .next (deliverFrame .d (classCode .driveAnswer) origin target [kind, driveState] s) := rfl
  have fits : [kind, driveState].length ≤ 56 := by simp
  rw [Forwards, run, deliverFrame_of_idle _ _ _ ready fits, takeFrame, takeFromD_driveAnswer _ _ rfl]
  rfl

/-! ### Flags at a hand-on (R155, R169) -/

/-- Frames offered one after another clear no flag. -/
theorem flagSet_offerAll_of_set {α : Type} (notice : α → State → Frame) (g : Flag) (due : List α) (s : State)
    (h : flagSet g s = true) : flagSet g (due.foldl (fun s e => offerUp .part (notice e s) s) s) = true := by
  induction due generalizing s with
  | nil => exact h
  | cons e rest ih => exact ih _ (by simp [flagSet_offerUp, h])

/-- A hand-on clears no flag: the judgement of the watch list only offers notices. -/
theorem flagSet_handOn_of_set {g : Flag} {s : State} (h : flagSet g s = true) : flagSet g (handOn s) = true :=
  flagSet_offerAll_of_set zoneClearNotice g _ _ h

/-! ### Trackers that lose datum (R69) -/

theorem tracker_undatumAll (c : Conveyance) (s : State) : tracker c (undatumAll s) = (tracker c s).undatumed := by
  cases c <;> rfl

/-! ### The effect of an accepted TRIP RESET (R142, R143) -/

/-- The trackers are un-datumed exactly on one of the six causes of R143. -/
theorem resetUndatums_iff (s : State) : resetUndatums s = true ↔
    causePresent .position s = true ∨ causePresent .sample s = true ∨ causePresent .unplanned s = true
      ∨ causePresent .disagree s = true ∨ causePresent .creep s = true ∨ causePresent .pair s = true := by
  simp [resetUndatums, allCauses, Cause.undatums]

/-- The cause set emptied and the supervisor state entered, with CHAIN still as it was (R142). -/
def clearedTo (n : Supervisor) (s : State) : State :=
  { s with protection.causes := 0, protection.firstCause := none, protection.state := n }

/-- CHAIN closed. -/
def chainClosedOf (s : State) : State := { s with protection.chainClosed := true }

/-- What an accepted TRIP RESET does: a cause of R143 costs the trackers their datum and leads to UNDATUMED; without one
the trackers stand as they are, and their datum decides between UNDATUMED and ARMED (R142, R143). -/
theorem resetTrip_cases (s : State) :
    (resetUndatums s = true ∧ resetTrip s = chainClosedOf (clearedTo .undatumed (undatumAll s)))
      ∨ (resetUndatums s = false ∧ allDatumed s = false ∧ resetTrip s = chainClosedOf (clearedTo .undatumed s))
      ∨ (resetUndatums s = false ∧ allDatumed s = true
          ∧ resetTrip s = chainClosedOf (setFlag .datum (clearedTo .armed s))) := by
  have byDatum (u : State) (same : (if resetUndatums s then undatumAll s else s) = u) :
      resetTrip s = chainClosedOf
        (if allDatumed u then setFlag .datum (clearedTo .armed u) else clearedTo .undatumed u) := same ▸ rfl
  cases undatums : resetUndatums s
  case true => exact .inl ⟨rfl, byDatum _ (if_pos undatums)⟩
  case false =>
    have kept := byDatum s (if_neg (by simp [undatums]))
    cases datumed : allDatumed s
    case false => exact .inr (.inl ⟨rfl, rfl, by rw [kept, datumed]; rfl⟩)
    case true => exact .inr (.inr ⟨rfl, rfl, by rw [kept, datumed]; rfl⟩)

/-- The reset leaves the pipeline, the zones, the tables and the drums as they are, and of the protection writes the
supervisor state, CHAIN and the causes (R142). -/
theorem resetTrip_frame (s : State) :
    (resetTrip s).pipeline = s.pipeline ∧ (resetTrip s).zones = s.zones ∧ (resetTrip s).tables = s.tables
      ∧ (resetTrip s).drums = s.drums
      ∧ (resetTrip s).protection = { s.protection with
          state := (resetTrip s).protection.state, chainClosed := true, firstCause := none, causes := 0 } := by
  obtain ⟨-, reset⟩ | ⟨-, -, reset⟩ | ⟨-, -, reset⟩ := resetTrip_cases s <;>
    simp [reset, chainClosedOf, clearedTo]

/-- ARMED is entered, with DATUM set, when no cause un-datums the trackers and all three stand DATUMED (R142). -/
theorem resetTrip_armed {s : State} (undatums : resetUndatums s = false) (datumed : allDatumed s = true) :
    (resetTrip s).protection.state = .armed ∧ flagSet .datum (resetTrip s) = true := by
  obtain ⟨other, -⟩ | ⟨-, other, -⟩ | ⟨-, -, reset⟩ := resetTrip_cases s
  · simp [undatums] at other
  · simp [datumed] at other
  · rw [reset]
    exact ⟨by simp [chainClosedOf, clearedTo], flagSet_setFlag .datum (clearedTo .armed s)⟩

/-- UNDATUMED is entered in every other case (R142). -/
theorem resetTrip_undatumed {s : State} (lacks : ¬(resetUndatums s = false ∧ allDatumed s = true)) :
    (resetTrip s).protection.state = .undatumed := by
  obtain ⟨-, reset⟩ | ⟨-, -, reset⟩ | ⟨kept, datumed, -⟩ := resetTrip_cases s
  · rw [reset]; rfl
  · rw [reset]; rfl
  · exact absurd ⟨kept, datumed⟩ lacks

/-- On a cause of R143 every tracker loses its datum and keeps its offset (R69, R143). -/
theorem tracker_resetTrip_of_undatums {s : State} (undatums : resetUndatums s = true) (c : Conveyance) :
    tracker c (resetTrip s) = (tracker c s).undatumed := by
  obtain ⟨-, reset⟩ | ⟨other, -⟩ | ⟨other, -⟩ := resetTrip_cases s
  · rw [reset, ← tracker_undatumAll]; rfl
  all_goals simp [undatums] at other

/-- Without one the trackers stay as they are (R143). -/
theorem resetTrip_trackers_of_kept {s : State} (kept : resetUndatums s = false) :
    (resetTrip s).trackers = s.trackers := by
  obtain ⟨other, -⟩ | ⟨-, -, reset⟩ | ⟨-, -, reset⟩ := resetTrip_cases s
  · simp [kept] at other
  all_goals simp [reset, chainClosedOf, clearedTo]

/-! ### The answers of TRIP RESET (R141, R142) -/

/-- A request of the controller completes with the reply of its kind's own rule, given parameters of the length that the
kind requires (R177). -/
theorem answers_of_ownRule {i : Instr} {k : RequestKind} {tag : Byte} {params : List Byte} {s after : State} {r : Reply}
    (run : exec i s = .next (deliverRequest 1 k.code tag params s)) (ready : Ready .c s) (size : params.length ≤ 54)
    (fits : lengthFits k params = true) (ruled : ownRule k 1 params s = (after, r)) :
    Answers i 1 k.code tag s after r := by
  have answered : answerRequest 1 k.code params s = (after, r) :=
    (answerRequest_of_passed s (originMayUse_controller k) fits).trans ruled
  rw [Answers, run, deliverRequest_of_ready _ _ _ ready size, serveRequest, answered]

/-- TRIP RESET of the controller completes as its own rule answers it. -/
theorem answers_tripReset {s after : State} (tag : Byte) {r : Reply} (ready : Ready .c s)
    (ruled : takeTripReset s = (after, r)) : Answers (.tripReset 1 tag []) 1 0x08 tag s after r :=
  answers_of_ownRule (k := .tripReset) rfl ready (Nat.zero_le _) rfl ruled

/-- The first condition: the part is TRIPPED (R141). -/
theorem takeTripReset_notTripped {s : State} (state : s.protection.state ≠ .tripped) :
    takeTripReset s = (s, resetRefused 0) := if_pos state

/-- The second condition: the drive has been heard (R141). -/
theorem takeTripReset_unheard {s : State} (tripped : s.protection.state = .tripped)
    (unheard : s.protection.driveHeard ≠ true) : takeTripReset s = (s, resetRefused 1) := by
  simp [takeTripReset, tripped, unheard]

/-- The third condition: the winder is at rest (R141). -/
theorem takeTripReset_moving {s : State} (tripped : s.protection.state = .tripped)
    (heard : s.protection.driveHeard = true) (moving : winderAtRest s ≠ true) :
    takeTripReset s = (s, resetRefused 2) := by
  simp [takeTripReset, tripped, heard, moving]

/-- The fourth condition: the brake is applied (R141). -/
theorem takeTripReset_released {s : State} (tripped : s.protection.state = .tripped)
    (heard : s.protection.driveHeard = true) (rest : winderAtRest s = true)
    (released : s.protection.image.brakeApplied = false) : takeTripReset s = (s, resetRefused 3) := by
  simp [takeTripReset, tripped, heard, rest, released]

/-- With the four conditions met, the reset is made and handed on, and the reply carries the state entered (R142). -/
theorem takeTripReset_accepted {s : State} (tripped : s.protection.state = .tripped)
    (heard : s.protection.driveHeard = true) (rest : winderAtRest s = true)
    (applied : s.protection.image.brakeApplied = true) :
    takeTripReset s = (handOn (resetTrip s),
      { result := .done, data := [byteOf (resetTrip s).protection.state.code] }) := by
  simp [takeTripReset, tripped, heard, rest, applied]

/-- Settles O53: each refusal names the first of R141's conditions that fails. Accepted, the reset takes one of its
three cases; the hand-on behind it writes nothing that the statement names and clears no flag (R141 to R143). -/
theorem tripResetClosesChain : Obligations.TripResetClosesChain := by
  intro s tag ready reset refused tripped heard rest doubt keeps
  have doubt_iff : resetUndatums s = true ↔ doubt := resetUndatums_iff s
  have kept_iff : resetUndatums s = false ↔ ¬doubt := by rw [← doubt_iff, Bool.not_eq_true]
  have keeps_iff : resetUndatums s = false ∧ allDatumed s = true ↔ keeps := and_congr_left' kept_iff
  have armed (h : keeps) : (resetTrip s).protection.state = .armed ∧ flagSet .datum (resetTrip s) = true :=
    let ⟨kept, datumed⟩ := keeps_iff.mpr h
    resetTrip_armed kept datumed
  have undatumed (h : ¬keeps) : (resetTrip s).protection.state = .undatumed :=
    resetTrip_undatumed (keeps_iff.not.mpr h)
  refine ⟨fun state => answers_tripReset tag ready (takeTripReset_notTripped state),
    fun state drive => answers_tripReset tag ready (takeTripReset_unheard state drive),
    fun state drive moving => answers_tripReset tag ready (takeTripReset_moving state drive moving),
    fun state drive still brake => answers_tripReset tag ready (takeTripReset_released state drive still brake),
    fun state drive still brake => ⟨handOn (resetTrip s), ?reply, ?effects⟩⟩
  case reply =>
    have code : byteOf (resetTrip s).protection.state.code = if keeps then 2 else 1 := by
      split
      case isTrue h => rw [(armed h).1]; rfl
      case isFalse h => rw [undatumed h]; rfl
    exact answers_tripReset tag ready (code ▸ takeTripReset_accepted state drive still brake)
  case effects =>
    obtain ⟨pipeline, zones, tables, drums, protection⟩ := resetTrip_frame s
    have trackers (c : Conveyance) : tracker c (handOn (resetTrip s)) = tracker c (resetTrip s) :=
      tracker_congr c (handOn_trackers _)
    rw [handOn_protection, handOn_pipeline, handOn_tables, handOn_drums, handOn_holders, handOn_trackers]
    refine ⟨by rw [protection], by rw [protection], by rw [protection],
      fun h => ⟨(armed h).1, flagSet_handOn_of_set (armed h).2⟩, undatumed, fun h c => ?_,
      fun h => resetTrip_trackers_of_kept (kept_iff.mpr h), by rw [protection]; exact drive, by rw [protection],
      pipeline, congrArg _ zones, tables, drums⟩
    rw [trackers, tracker_resetTrip_of_undatums (doubt_iff.mpr h)]
    exact ⟨rfl, rfl⟩

end Sys2Proof.Machine

/-! PROOF. What every request passes before its own rule (R177), and the counters read back from the reply of COUNTER READ
(R187). -/

namespace Sys2Proof.Machine

/-! ### Kind, origin and length (R177) -/

/-- A kind that a signal panel may use is one of the five that R177 lists. -/
theorem openToPanels_iff (k : RequestKind) : k.openToPanels = true ↔
    k = .statusRead ∨ k = .positionRead ∨ k = .zoneInquiry ∨ k = .zoneHold ∨ k = .zoneRelease := by
  cases k <;> simp [RequestKind.openToPanels]

theorem originMayUse_iff (origin : Byte) (k : RequestKind) : originMayUse origin k = true ↔
    origin = 1 ∨ (2 ≤ origin.toNat ∧ origin.toNat ≤ 15 ∧ k.openToPanels = true) := by
  have controller : origin.toNat = 1 ↔ origin = 1 := BitVec.toNat_inj (y := 1)
  simp [originMayUse, controller, and_assoc]

/-- An undefined kind is refused with no change of state (R177). -/
theorem answerRequest_of_undefined {kind : Byte} (origin : Byte) (params : List Byte) (s : State)
    (undefined : RequestKind.ofByte kind = none) :
    answerRequest origin kind params s = (s, .bare .unknownRequest) := by
  simp [answerRequest, undefined]

/-- From a station that may use the kind, a parameter length that the kind does not have is refused with no change of
state (R177). -/
theorem answerRequest_of_length {origin : Byte} {k : RequestKind} {params : List Byte} (s : State)
    (may : originMayUse origin k = true) (misfits : lengthFits k params = false) :
    answerRequest origin k.code params s = (s, .outOfRange 0) := by
  simp [answerRequest, may, misfits]

theorem lengthFits_of_ne {k : RequestKind} {n : Nat} {params : List Byte} (required : k.paramLength = some n)
    (other : params.length ≠ n) : lengthFits k params = false := by
  simp [lengthFits, required, other]

/-- A request answered without a change of state has no effect but its reply (R171). -/
theorem serveRequest_of_unchanged {origin kind : Byte} (tag : Byte) {params : List Byte} {s : State} {r : Reply}
    (answered : answerRequest origin kind params s = (s, r)) :
    serveRequest origin kind tag params s = offerUp .part (replyFrame origin kind tag r) s := by
  rw [serveRequest, answered]

/-- Settles O49: each refusal is the branch of the judgement at which the request stops, with the stations that may use a
kind read off R177's list. -/
theorem requestsArePassedFirst : Obligations.RequestsArePassedFirst := by
  intro s origin tag params
  refine ⟨fun kind ready fits undefined => ?undefinedKind, ?definedKind⟩
  case undefinedKind =>
    have run : exec (.unknownRequest origin kind tag params) s = .next (deliverRequest origin kind tag params s) := rfl
    rw [Answers, run, deliverRequest_of_ready _ _ _ ready fits,
      serveRequest_of_unchanged tag (answerRequest_of_undefined origin params s undefined)]
    rfl
  case definedKind =>
    intro k panels may
    have may_iff : originMayUse origin k = true ↔ may := by rw [originMayUse_iff, openToPanels_iff]
    refine ⟨fun mayNot => ?_, fun n mayUse required other => ?_⟩
    · have refused : originMayUse origin k = false := Bool.eq_false_iff.mpr (may_iff.not.mpr mayNot)
      exact serveRequest_of_unchanged tag (answerRequest_of_origin params s refused)
    · exact serveRequest_of_unchanged tag
        (answerRequest_of_length s (may_iff.mpr mayUse) (lengthFits_of_ne required other))

/-! ### Numbers written one after another (R172) -/

/-- A field behind a first one of the same size stands where it stands in the bytes that follow the first. -/
theorem field_append_succ {first : List Byte} {n : Nat} (size : first.length = n) (rest : List Byte) (i : Nat) :
    field (first ++ rest) (n * (i + 1)) n = field rest (n * i) n := by
  have offset : n * (i + 1) = first.length + n * i := by rw [size, Nat.mul_succ, Nat.add_comm]
  rw [field, fieldBytes, offset, List.drop_length_add_append]
  rfl

/-- The first field of bytes that begin with a number written in its size is that number. -/
theorem field_beBytes_append {n v : Nat} (fits : v < 256 ^ n) (rest : List Byte) :
    field (beBytes n v ++ rest) 0 n = v := by
  rw [field, fieldBytes, List.drop_zero, List.take_left' (beBytes_length n v), be_beBytes_of_lt fits]

/-- Numbers that fit their fields, written one after another, read back in their order. -/
theorem map_field_flatMap_beBytes {n : Nat} {values : List Nat} (fit : ∀ v ∈ values, v < 256 ^ n) :
    (List.range values.length).map (fun i => field (values.flatMap (beBytes n)) (n * i) n) = values := by
  induction values with
  | nil => rfl
  | cons v rest ih =>
    obtain ⟨vFits, restFit⟩ := List.forall_mem_cons.mp fit
    rw [List.length_cons, List.range_succ_eq_map, List.map_cons, List.map_map, List.flatMap_cons]
    congr 1
    · exact field_beBytes_append vFits _
    · simpa only [Function.comp_def, field_append_succ (beBytes_length n v)] using ih restFit

/-! ### COUNTER READ (R187) -/

/-- Eleven counters of two bytes each. -/
theorem counterBytes_length (s : State) : (counterBytes s).length = 22 := by
  simp [counterBytes, Counters.values]

/-- The counters within their bounds read back from the reply in index order (R186, R187). -/
theorem map_field_counterBytes {s : State} (bounded : CountersBounded s) :
    (List.range 11).map (fun i => field (counterBytes s) (2 * i) 2) = s.requests.counters.values :=
  map_field_flatMap_beBytes fun v mem => Nat.lt_succ_of_le (bounded v mem)

theorem field_singleton (b : Byte) : field [b] 0 1 = b.toNat := by
  simp [field, fieldBytes, be]

/-- An option above 1 is refused and changes no state (R187). -/
theorem takeCounterRead_outOfRange {option : Byte} (s : State) (above : 2 ≤ option.toNat) :
    takeCounterRead [option] s = (s, .outOfRange 1) := by
  unfold takeCounterRead
  rw [field_singleton]
  split
  case h_1 => omega
  case h_2 => omega
  case h_3 => rfl

/-- With an option of 0 or 1 the reply carries the counters as they stand; with 1 they are then cleared (R187). -/
theorem takeCounterRead_done {option : Byte} (s : State) (inRange : option.toNat < 2) :
    takeCounterRead [option] s
      = (if option = 1 then clearCounters s else s, { result := .done, data := counterBytes s }) := by
  have either : option = 0 ∨ option = 1 := by bv_omega
  obtain rfl | rfl := either <;> rfl

/-- COUNTER READ of the controller completes as its own rule answers it. -/
theorem answers_counterRead {s after : State} (tag : Byte) {option : Byte} {r : Reply} (ready : Ready .c s)
    (ruled : takeCounterRead [option] s = (after, r)) :
    Answers (.counterRead 1 tag [option]) 1 0x0F tag s after r :=
  answers_of_ownRule (k := .counterRead) rfl ready (by simp) rfl ruled

/-- Settles O60: the option decides between the refusal and the reply, and the reply's fields are the counters, since
each counter within its bound fits two bytes (R186, R187). -/
theorem counterReadCounts : Obligations.CounterReadCounts := by
  intro s tag option ready read
  refine ⟨fun above => ?_, fun inRange => ⟨counterBytes s, ?_, counterBytes_length s, map_field_counterBytes⟩⟩
  · exact answers_counterRead tag ready (takeCounterRead_outOfRange s above)
  · exact answers_counterRead tag ready (takeCounterRead_done s inRange)

end Sys2Proof.Machine

/-! PROOF. What a step can do. `Reaches k s t` says that a state is reached from another by the shared operations of a level,
each with the condition under which the machine uses it, and `exec_reaches` that every command is made of them. An
invariant is then proved once, operation by operation. -/

namespace Sys2Proof.Machine

/-! ### The operations -/

/-- A downstream frame that is a speed reference with its source and a body that reads (R110). -/
def IsReferenceFrame (f : DownFrame) : Prop :=
  classOf f.frame.cls = .speedReference ∧ f.source.isSome ∧ (readSpeed f.frame.body).isSome

/-- A downstream frame that is neither a speed reference nor a brake demand (R114, R118, R119). -/
def IsPlainFrame (f : DownFrame) : Prop :=
  f.source = none ∧ classOf f.frame.cls ≠ .speedReference ∧ classOf f.frame.cls ≠ .brakeDemand

/-- The confirm of the validated banks before its hand-on (R31, R32, R160). -/
def confirmWrites (s : State) : State :=
  let swapped := swapBanks s
  let opened := if s.protection.state = .noTables then firstConfirm swapped else swapped
  let undatumed :=
    if s.tables.shaft.state = .validated ∨ s.tables.drum.state = .validated then confirmUndatums opened else opened
  if s.tables.shaft.state = .validated then confirmShaft undatumed else undatumed

/-- The restart before its hand-on (R188). -/
def restarted (s : State) : State :=
  let s := setFlag .start (restartWrites s)
  { s with protection.state := .undatumed, protection.chainClosed := true }

/-- A state reached from another by the operations of a level: at 0 the trackers' checks, at 1 what field frames and the
drum timers bring before their hand-on, at 2 also what the other commands do before theirs, but for those that write the
watch list, at 3 these, the hand-on and the frames offered. Level 3 is told from those above it by a Zone Map that is
current when a hold is taken. -/
inductive Reaches (k : Nat) : State → State → Prop
  | refl (s : State) : Reaches k s s
  | trans {s t u : State} (first : Reaches k s t) (second : Reaches k t u) : Reaches k s u
  | count (c : Counter) (s : State) : Reaches k s (count c s)
  | setFlag (f : Flag) (s : State) : Reaches k s (setFlag f s)
  | reportCause (c : Cause) (s : State) : Reaches k s (reportCause c s)
  | setRecord (i : Nat) (r : MarkerRecord) (s : State) : Reaches k s (setRecord i r s)
  | setTracker (c : Conveyance) (t : Tracker) (s : State)
      (keeps : (tracker c s).datumed = true → t.datumed = true) : Reaches k s (setTracker c t s)
  | setChannel (d : Drum) (ch : Channel) (s : State) (level : 1 ≤ k) : Reaches k s (setChannel d ch s)
  | clearDrift (s : State) (level : 1 ≤ k) : Reaches k s (clearDrift s)
  | addDrift (n : Nat) (s : State) (level : 1 ≤ k) (takes : TakesCauses s) (still : tripMoving s = false) :
      Reaches k s { s with drums.drift := n }
  | addDisagreement (v : Int) (s : State) (level : 1 ≤ k) (clutch : s.protection.image.clutch = .engaged) :
      Reaches k s { s with drums.disagree := v }
  | addHold (n : Nat) (s : State) (level : 1 ≤ k) (clutch : s.protection.image.clutch = .disengaged) :
      Reaches k s { s with drums.hold := n }
  | replaceImage (new : Interlock) (s : State) (level : 1 ≤ k) :
      Reaches k s (accumulatorsOn s.protection.image.clutch new.clutch { s with protection.image := new })
  | start {trip : Trip} (s : State) (level : 1 ≤ k) (active : s.pipeline.active = some trip)
      (state : trip.state = .waiting) : Reaches k s (clearDrift (enterState .running s))
  | creep {trip : Trip} (s : State) (level : 1 ≤ k) (active : s.pipeline.active = some trip)
      (state : trip.state = .running ∨ trip.state = .settling) : Reaches k s (enterState .creeping s)
  | settle {trip : Trip} (s : State) (level : 1 ≤ k) (active : s.pipeline.active = some trip)
      (state : trip.state = .running ∨ trip.state = .creeping) : Reaches k s (enterState .settling s)
  | enterStopping {trip : Trip} (cause : TripCause) (s : State) (level : 1 ≤ k) (active : s.pipeline.active = some trip)
      (state : trip.state ≠ .waiting ∧ trip.state ≠ .stopping) : Reaches k s (enterStopping cause s)
  | finishBoth (o : TripOutcome) (c : Option TripCause) (s : State) (level : 1 ≤ k) : Reaches k s (finishBoth o c s)
  | promote (o : TripOutcome) (c : Option TripCause) (s : State) (level : 1 ≤ k) :
      Reaches k s (promote (finishActive o c s))
  | completePlan (c : Conveyance) {s u : State} (level : 1 ≤ k) (undatumed : (tracker c s).datumed = false)
      (before : Reaches k s u) (holders : u.zones.holders = s.zones.holders)
      (rows : u.tables.shaft.active = s.tables.shaft.active)
      (active : ∀ trip, u.pipeline.active = some trip → s.pipeline.active = some trip) :
      Reaches k s (datumMidTrip c u)
  | armIfDatumed (s : State) (level : 1 ≤ k) : Reaches k s (armIfDatumed s)
  | abandon (reason : AbandonReason) (s : State) (level : 1 ≤ k) : Reaches k s (abandon reason s)
  | hearDrive (s : State) (level : 1 ≤ k) : Reaches k s (observeAnswer s)
  | driveSilent (s : State) (level : 1 ≤ k) :
      Reaches k s { s with protection.driveSilent := true, protection.echo := none }
  | stopWatch (s : State) (level : 1 ≤ k) : Reaches k s (stopWatch s)
  | stepRamp (r : StopRecord) (s : State) (level : 1 ≤ k) (runs : s.guard.stop.isSome = true) :
      Reaches k s { s with guard.stop := some r }
  | coalesce (f : DownFrame) (s : State) (level : 1 ≤ k) (reference : IsReferenceFrame f) : Reaches k s (coalesce f s)
  | chooseFreely (s : State) (level : 1 ≤ k) : Reaches k s { s with freeCount := s.freeCount + 1 }
  | recomputeSpeed (s : State) (level : 1 ≤ k) : Reaches k s (recomputeSpeed s)
  | setReceiver (l : Link) (r : Receiver) (s : State) (level : 2 ≤ k) : Reaches k s (setReceiver l r s)
  | turnKey (p : KeyPosition) (s : State) (level : 2 ≤ k) : Reaches k s { s with key := p }
  | noteReference (origin : Byte) (s : State) (level : 2 ≤ k) : Reaches k s (noteReference origin s)
  | appendDown (f : DownFrame) (s : State) (level : 2 ≤ k) (plain : IsPlainFrame f) : Reaches k s (appendDown f s)
  | placeDemand (f : Frame) (s : State) (level : 2 ≤ k) (demand : classOf f.cls = .brakeDemand) :
      Reaches k s (placeDemand f s)
  | transmitDown (queue : List DownFrame) (transmitter : Transmitter) (last : LastReference) (s : State) (level : 2 ≤ k)
      (rest : queue.Sublist s.guard.queue) :
      Reaches k s { s with guard := { s.guard with queue := queue, transmitter := transmitter, lastRef := last } }
  | endUp (s : State) (level : 2 ≤ k) : Reaches k s (endUp s)
  | clearFlags (s : State) (level : 2 ≤ k) : Reaches k s (clearFlags s)
  | clearCounters (s : State) (level : 2 ≤ k) : Reaches k s (clearCounters s)
  | storeRow (t : TableId) (n : Nat) (r : Row) (s : State) (level : 2 ≤ k) :
      Reaches k s (setBank t ((bank t s).stored n r) s)
  | startValidation (named : TableSet) (s : State) (level : 2 ≤ k) (closed : commitmentOpen s = false) :
      Reaches k s (startValidation named s)
  | completeValidation (s : State) (level : 2 ≤ k) : Reaches k s (completeValidation s)
  | cancel (r : ValidationResult) (s : State) (level : 2 ≤ k) : Reaches k s (setResult r (closeCommitment s))
  | finishWaiting (o : TripOutcome) (c : Option TripCause) (s : State) (level : 2 ≤ k) :
      Reaches k s (finishWaiting o c s)
  | placeActive (trip : Trip) (s : State) (level : 2 ≤ k) (takes : TakesCauses s) (empty : s.pipeline.active = none)
      (state : trip.state = .waiting) (clear : heldAgainst trip s = []) : Reaches k s (setActive (some trip) s)
  | placeWaiting (trip : Trip) (s : State) (level : 2 ≤ k) (takes : TakesCauses s)
      (behind : s.pipeline.active.isSome = true) (state : trip.state = .queued) (clear : heldAgainst trip s = []) :
      Reaches k s (setWaiting (some trip) s)
  | resetTrip (s : State) (level : 2 ≤ k) (tripped : s.protection.state = .tripped) : Reaches k s (resetTrip s)
  | releaseZone (z : Nat) (s : State) (level : 2 ≤ k) : Reaches k s (setHolder z none s)
  | handOnZones (s : State) (level : 3 ≤ k) : Reaches k s (handOnZones s)
  | offerUp (m : UpMark) (f : Frame) (s : State) (level : 3 ≤ k) : Reaches k s (offerUp m f s)
  | startUp (s : State) (level : 3 ≤ k) : Reaches k s (startUp s)
  | watchZone (e : WatchEntry) (s : State) (level : 3 ≤ k) : Reaches k s (addWatch e s).1
  | restart (s : State) (level : 3 ≤ k) (takes : TakesCauses s) (empty : pipelineEmpty s = true) :
      Reaches k s (restarted s)
  | confirm (s : State) (level : 2 ≤ k) (allows : s.protection.state = .noTables ∨ pipelineEmpty s = true)
      (ruled : anyValidating s = false) (lists : k = 2 → s.tables.shaft.state ≠ .validated) : Reaches k s (confirmWrites s)
  | nrst (s : State) (level : 3 ≤ k) : Reaches k s (resetPart s)
  | passMicrosecond (s : State) (level : 3 ≤ k) : Reaches k s (passMicrosecond s)
  | holdZone (z : Nat) (origin : Byte) (s : State) (level : 2 ≤ k) (clear : summaryOf z s = .clear)
      (current : k = 3 → ZoneMapCurrent s) : Reaches k s (setHolder z (some origin) s)

theorem confirm_eq_handOn (s : State) : confirm s = handOn (confirmWrites s) := by
  unfold confirm confirmWrites
  simp only [Bool.or_eq_true, decide_eq_true_eq]

theorem restartPart_eq_handOn (s : State) : restartPart s = handOn (restarted s) := rfl

end Sys2Proof.Machine

/-! PROOF. Each operation of the trackers, the trips and the channels is made of the operations of `Reaches`. -/

namespace Sys2Proof.Machine

variable {k : Nat}

/-! ### Level 0: the trackers' checks -/

theorem reaches_reportIf (condition : Bool) (c : Cause) (s : State) : Reaches k s (reportIf condition c s) := by
  unfold reportIf; split
  · exact .reportCause c s
  · exact .refl s

theorem reaches_setExpected (c : Conveyance) (e : Option Nat) (s : State) : Reaches k s (setExpected c e s) :=
  .setTracker c _ s id

theorem reaches_searchAfresh (c : Conveyance) (s : State) : Reaches k s (searchAfresh c s) := reaches_setExpected _ _ _

theorem reaches_advanceBeyond (c : Conveyance) (depth : Int) (s : State) : Reaches k s (advanceBeyond c depth s) :=
  reaches_setExpected _ _ _

theorem reaches_takeMiss (c : Conveyance) (i : Nat) (s : State) : Reaches k s (takeMiss c i s) := by
  have suspected (b : Bool) (u : State) : Reaches k u (if b then setFlag .suspect u else u) := by
    split
    · exact .setFlag _ _
    · exact .refl u
  have flagged (u : State) : Reaches k u (if (tracker c u).missFlag then reportCause .position u
      else setTracker c { tracker c u with missFlag := true } u) := by
    split
    · exact .reportCause _ _
    · exact .setTracker c _ u id
  exact (((Reaches.setRecord i _ s).trans (suspected _ _)).trans ((Reaches.count .misses _).trans (.setFlag .miss _))).trans
    (flagged _)

theorem reaches_missCheck (c : Conveyance) (n : Nat) (s : State) : Reaches k s (missCheck c n s) := by
  induction n generalizing s with
  | zero => exact .refl s
  | succ n ih =>
    unfold missCheck; split
    · exact .refl s
    · exact ((reaches_takeMiss c _ s).trans (reaches_advanceBeyond c _ _)).trans (ih _)

theorem reaches_checkMisses (c : Conveyance) (s : State) : Reaches k s (checkMisses c s) := reaches_missCheck c _ s

theorem reaches_depthChecks (c : Conveyance) (s : State) : Reaches k s (depthChecks c s) := by
  unfold depthChecks; split
  · exact (reaches_checkMisses c s).trans (reaches_reportIf _ _ _)
  · exact .refl s

theorem reaches_followOn (c : Conveyance) (before : Int) (s : State) : Reaches k s (followOn c before s) := by
  unfold followOn; split
  · exact reaches_reportIf _ _ _
  · exact (reaches_depthChecks c s).trans (reaches_reportIf _ _ _)

theorem reaches_recomputeTracker (c : Conveyance) (s : State) : Reaches k s (recomputeTracker c s) :=
  .setTracker c _ s id

theorem reaches_takeDirection (c : Conveyance) (s : State) : Reaches k s (takeDirection c s) := by
  have turned (direction : Direction) : Reaches k s (setTracker c { tracker c s with direction } s) := .setTracker c _ s id
  unfold takeDirection; dsimp only; split
  · exact .refl s
  · split
    · exact (turned _).trans (reaches_searchAfresh c _)
    · exact turned _

theorem reaches_trackMovement (c : Conveyance) (s : State) : Reaches k s (trackMovement c s) :=
  ((reaches_recomputeTracker c s).trans (reaches_takeDirection c _)).trans (reaches_followOn c _ _)

theorem reaches_trackDrum (d : Drum) (s : State) : Reaches k s (trackDrum d s) := by
  cases d with
  | skip => exact reaches_trackMovement .skip s
  | cage => exact (reaches_trackMovement .cage s).trans (reaches_trackMovement .counterweight _)

theorem reaches_takeDatum (c : Conveyance) (depth : Int) (s : State) : Reaches k s (takeDatum c depth s) := by
  have shifted (offset : Int) : Reaches k s (setTracker c { tracker c s with offset } s) := .setTracker c _ s id
  have datumed (u : State) :
      Reaches k u (setTracker c { tracker c u with datumed := true, missFlag := false } u) := .setTracker c _ u fun _ => rfl
  unfold takeDatum; split
  · exact .refl s
  · exact (((shifted _).trans (reaches_recomputeTracker c _)).trans (datumed _)).trans
      ((reaches_searchAfresh c _).trans (reaches_depthChecks c _))

theorem reaches_satisfy (c : Conveyance) (i : Nat) (depth : Int) (s : State) : Reaches k s (satisfy c i depth s) := by
  unfold satisfy; split
  · exact (reaches_advanceBeyond c depth s).trans (reaches_checkMisses c _)
  · exact .refl s

theorem reaches_makeSync (c : Conveyance) (deviation : Int) (s : State) : Reaches k s (makeSync c deviation s) := by
  have shifted (offset : Int) : Reaches k s (setTracker c { tracker c s with offset } s) := .setTracker c _ s id
  have cleared (u : State) : Reaches k u (setTracker c { tracker c u with missFlag := false } u) := .setTracker c _ u id
  exact ((shifted _).trans ((reaches_recomputeTracker c _).trans (.count .syncs _))).trans (cleared _)

theorem reaches_expectAfterSync (c : Conveyance) (i : Nat) (depth : Int) (s : State) :
    Reaches k s (expectAfterSync c i depth s) := by
  unfold expectAfterSync; split
  · exact reaches_advanceBeyond c depth s
  · exact reaches_searchAfresh c s

theorem reaches_afterRead (c : Conveyance) (before : Int) (s : State) : Reaches k s (afterRead c before s) := by
  unfold afterRead; split
  · exact reaches_checkMisses c s
  · exact reaches_depthChecks c s

theorem reaches_judgeSync (c : Conveyance) (i : Nat) (m : MarkerRow) (s : State) : Reaches k s (judgeSync c i m s) := by
  unfold judgeSync; split
  · exact .refl s
  · dsimp only; split
    · exact ((reaches_makeSync c _ s).trans (reaches_expectAfterSync c i _ _)).trans
        ((reaches_afterRead c _ _).trans (reaches_reportIf _ _ _))
    · exact (Reaches.reportCause .position s).trans (reaches_satisfy c i _ _)

/-! ### What the checks leave of the pipeline -/

/-- Between two states the pipeline stayed as it was, or a protective trip emptied it; holders and active rows stayed. -/
def PipelineStaysOrStops (s t : State) : Prop :=
  (t.pipeline = s.pipeline ∨ t.pipeline.active = none ∧ t.pipeline.waiting = none)
    ∧ t.zones = s.zones ∧ t.tables.shaft.active = s.tables.shaft.active

theorem reportCause_pipeline (c : Cause) (s : State) : PipelineStaysOrStops s (reportCause c s) := by
  refine ⟨?_, by simp, (reportCause_rows c .shaft s).1⟩
  unfold reportCause
  split
  · exact .inl rfl
  · exact .inr (by simp [protectiveTrip])
  · exact .inr (by simp [protectiveTrip])
  · exact .inl rfl

theorem Reaches.pipelineStaysOrStops {s t : State} (h : Reaches 0 s t) : PipelineStaysOrStops s t := by
  induction h with
  | refl => exact ⟨.inl rfl, rfl, rfl⟩
  | trans _ _ first second =>
    obtain ⟨pipeline, zones, rows⟩ := first
    obtain ⟨pipeline', zones', rows'⟩ := second
    refine ⟨?_, zones'.trans zones, rows'.trans rows⟩
    obtain same | stopped := pipeline'
    · rw [same]; exact pipeline
    · exact .inr stopped
  | reportCause c s => exact reportCause_pipeline c s
  | count | setFlag | setTracker => exact ⟨.inl (by simp), by simp, by simp⟩
  | setRecord => exact ⟨.inl rfl, rfl, rfl⟩
  | _ => omega

/-! ### Level 1: field frames and timers before their hand-on -/

/-- The body that the guard writes reads as a speed reference of its `seq` (R172). -/
theorem readSpeed_speedBody_isSome (seq mark : Byte) (speed : Int) : (readSpeed (speedBody seq speed mark)).isSome :=
  rfl

theorem substitute_isReferenceFrame (r : StopRecord) (s : State) :
    IsReferenceFrame { frame := substituteFrame r s, source := some .substitute } := ⟨rfl, rfl, rfl⟩

/-- A movement that counts as drift is taken in UNDATUMED or ARMED with no trip moving (R49). -/
theorem takesCauses_of_drifts {delta : Int} {s : State} (h : drifts delta s = true) :
    TakesCauses s ∧ tripMoving s = false := by
  obtain ⟨state, still⟩ := Bool.and_eq_true_iff.mp h
  refine ⟨by simpa [TakesCauses] using state, ?_⟩
  unfold tripMoving
  split at still
  · next none => simp [none]
  · next trip active =>
    have waiting : trip.state = .waiting := by simp at still; exact still.1.1
    simp [active, waiting, TripState.isMoving]

section
variable (level : 1 ≤ k)
include level

theorem reaches_judgeStart (d : Drum) (delta : Int) (s : State) : Reaches k s (judgeStart d delta s) := by
  unfold judgeStart; split
  · exact .refl s
  · next trip active =>
    split
    · next starts => exact .start s level active starts.1
    · exact .refl s

theorem reaches_judgeCreeping (s : State) : Reaches k s (judgeCreeping s) := by
  unfold judgeCreeping; split
  · exact .refl s
  · next trip active =>
    split
    · next creeps => exact .creep s level active (.inl creeps.1)
    · exact .refl s

theorem reaches_judgeSettling (d : Drum) (s : State) : Reaches k s (judgeSettling d s) := by
  unfold judgeSettling; split
  · exact .refl s
  · next trip active =>
    split
    · split
      · next running =>
        split
        · exact .settle s level active (.inl running)
        · exact .refl s
      · next creeping =>
        split
        · exact .settle s level active (.inr creeping)
        · exact .refl s
      · next settling =>
        split
        · exact .refl s
        · exact .creep s level active (.inr settling)
      · exact .refl s
    · exact .refl s

theorem reaches_pipelineMovement (d : Drum) (delta : Int) (s : State) : Reaches k s (pipelineMovement d delta s) :=
  ((reaches_judgeStart level d delta s).trans (reaches_judgeCreeping level _)).trans (reaches_judgeSettling level d _)

theorem reaches_finishAtRest (s : State) : Reaches k s (finishAtRest s) := by
  unfold finishAtRest; split
  · exact .refl s
  · split
    · split
      · split
        · exact .finishBoth _ _ s level
        · exact .promote _ _ s level
      · exact .finishBoth _ _ s level
      · exact .refl s
    · exact .refl s

theorem reaches_pipelineLoss (s : State) : Reaches k s (pipelineLoss s) := by
  unfold pipelineLoss; split
  · exact .refl s
  · split
    · exact .finishBoth _ _ s level
    · exact .refl s

theorem reaches_abandonByMotion (s : State) : Reaches k s (abandonByMotion s) := by
  unfold abandonByMotion; split
  · exact .refl s
  · exact .abandon _ s level

theorem reaches_noteRest (before : Bool) (s : State) : Reaches k s (noteRest before s) := by
  unfold noteRest; split
  · exact .clearDrift s level
  · exact .refl s

theorem reaches_judgeDisagreement (d : Drum) (delta : Int) (s : State) : Reaches k s (judgeDisagreement d delta s) := by
  have added : Reaches k s (addDisagreement d delta s) := by
    unfold addDisagreement; split
    · next engaged => cases d <;> exact .addDisagreement _ s level engaged
    · exact .refl s
  exact added.trans (reaches_reportIf _ _ _)

theorem reaches_judgeHold (d : Drum) (delta : Int) (s : State) : Reaches k s (judgeHold d delta s) := by
  have added : Reaches k s (addHold d delta s) := by
    unfold addHold; split
    · next disengaged => exact .addHold _ s level disengaged.1
    · exact .refl s
  exact added.trans (reaches_reportIf _ _ _)

theorem reaches_judgeDrift (delta : Int) (s : State) : Reaches k s (judgeDrift delta s) := by
  unfold judgeDrift; split
  · next drift =>
    obtain ⟨takes, still⟩ := takesCauses_of_drifts drift
    exact (Reaches.addDrift _ s level takes still).trans (reaches_reportIf _ _ _)
  · exact .refl s

theorem reaches_accumulate (d : Drum) (relock : Bool) (delta : Int) (s : State) :
    Reaches k s (accumulate d relock delta s) :=
  ((reaches_reportIf _ _ s).trans (reaches_judgeDisagreement level d delta _)).trans
    ((reaches_judgeHold level d delta _).trans (reaches_judgeDrift level delta _))

theorem reaches_takeMovement (d : Drum) (relock : Bool) (delta : Int) (s : State) :
    Reaches k s (takeMovement d relock delta s) := by
  have noted : Reaches k s (noteMotion delta s) := by
    unfold noteMotion; split
    · exact .refl s
    · exact reaches_abandonByMotion level s
  exact (noted.trans (reaches_accumulate level d relock delta _)).trans
    ((reaches_trackDrum d _).trans (reaches_pipelineMovement level d delta _))

theorem reaches_takeRest (d : Drum) (restBefore drumBefore : Bool) (s : State) :
    Reaches k s (takeRest d restBefore drumBefore s) := by
  unfold takeRest; dsimp only; split
  · exact (reaches_noteRest level restBefore s).trans (reaches_finishAtRest level _)
  · exact reaches_noteRest level restBefore s

theorem reaches_rampStep (d : Drum) (dt : Nat) (s : State) : Reaches k s (rampStep d dt s) := by
  unfold rampStep; split
  · next r trip stop active =>
    split
    · exact .refl s
    · split
      · have stepped (r' : StopRecord) : Reaches k s { s with guard.stop := some r' } :=
          .stepRamp r' s level (by simp [stop])
        dsimp only; split
        · exact (stepped _).trans ((Reaches.reportCause .stopFail _).trans (.recomputeSpeed _ level))
        · exact (stepped _).trans (.coalesce _ _ level (substitute_isReferenceFrame _ _))
      · exact .refl s
  · exact .refl s

theorem reaches_judgeSpeed (d : Drum) (dt : Nat) (s : State) : Reaches k s (judgeSpeed d dt s) := by
  have judged (u : State) : Reaches k u (judgeOverspeed d u) := by
    unfold judgeOverspeed; split
    · exact (Reaches.reportCause .overspeed u).trans (.recomputeSpeed _ level)
    · exact .refl u
  exact ((Reaches.recomputeSpeed s level).trans (judged _)).trans (reaches_rampStep level d dt _)

theorem reaches_takeLoss (raises : Bool) (s : State) : Reaches k s (takeLoss raises s) := by
  unfold takeLoss; dsimp only; split
  · split
    · exact ((Reaches.chooseFreely s level).trans (reaches_pipelineLoss level _)).trans
        ((reaches_abandonByMotion level _).trans (.reportCause _ _))
    · exact ((Reaches.chooseFreely s level).trans (.reportCause _ _)).trans
        ((reaches_abandonByMotion level _).trans (reaches_pipelineLoss level _))
  · exact ((reaches_pipelineLoss level s).trans (reaches_abandonByMotion level _)).trans (reaches_reportIf _ _ _)

theorem reaches_setLock (d : Drum) (lock : Lock) (baseline : Option Baseline) (s : State) :
    Reaches k s (setLock d lock baseline s) := .setChannel d _ s level

theorem reaches_restartSampleWatch (d : Drum) (s : State) : Reaches k s (restartSampleWatch d s) := by
  unfold restartSampleWatch; split
  · exact .setChannel d _ s level
  · exact .refl s

/-- A datum and the plan that it completes (R58, R92, R131). -/
theorem reaches_gainDatum {c : Conveyance} {s : State} (undatumed : (tracker c s).datumed = false) (depth : Int) :
    Reaches k s (datumMidTrip c (armIfDatumed (takeDatum c depth s))) := by
  obtain ⟨pipeline, zones, rows⟩ := (reaches_takeDatum (k := 0) c depth s).pipelineStaysOrStops
  refine .completePlan c level undatumed ((reaches_takeDatum c depth s).trans (.armIfDatumed _ level)) (by simp)
    (by simpa using rows) fun trip active => ?_
  rw [armIfDatumed_pipeline] at active
  obtain same | ⟨stopped, -⟩ := pipeline
  · rwa [same] at active
  · rw [stopped] at active; exact absurd active (by simp)

theorem reaches_enterStopping (cause : TripCause) {s : State}
    (state : ∀ trip, s.pipeline.active = some trip → trip.state ≠ .waiting ∧ trip.state ≠ .stopping) :
    Reaches k s (enterStopping cause s) := by
  cases active : s.pipeline.active with
  | none => simpa [enterStopping, active] using Reaches.refl s
  | some trip => exact .enterStopping cause s level active (state trip active)

theorem reaches_pipelineImage (old new : Interlock) (s : State) : Reaches k s (pipelineImage old new s) := by
  have reported (a b : Bool) : Reaches k s (reportIf b .gate (reportIf a .clutch s)) :=
    (reaches_reportIf _ _ s).trans (reaches_reportIf _ _ _)
  unfold pipelineImage; split
  · exact .refl s
  · dsimp only; split
    · split
      · exact .finishBoth _ _ s level
      · split
        · exact .finishBoth _ _ s level
        · exact .refl s
    · exact .refl s
    · exact reported _ _

end

end Sys2Proof.Machine

/-! PROOF. What stands between two hand-ons: `Quiet` says that nothing a hand-on would tell has changed. -/

namespace Sys2Proof.Machine

/-! ### Between two hand-ons -/

/-- Nothing that the Envelope Unit or the Zone Map is handed changed, nor what they made of it; and a zone newly watched is
OCCUPIED or planned. -/
structure Quiet (s t : State) : Prop where
  state : t.protection.state = s.protection.state
  active : t.pipeline.active = s.pipeline.active
  waiting : t.pipeline.waiting = s.pipeline.waiting
  shaftRows : t.tables.shaft.active = s.tables.shaft.active
  profileRows : t.tables.profile.active = s.tables.profile.active
  depths : ∀ c, (tracker c t).datumed = (tracker c s).datumed ∧ (tracker c t).reported = (tracker c s).reported
  payouts : ∀ d, (channel d t).payout = (channel d s).payout
  envelope : t.envelope = s.envelope
  occupancy : t.zones.occupancy = s.zones.occupancy
  activeSwept : t.zones.activeSwept = s.zones.activeSwept
  waitingSwept : t.zones.waitingSwept = s.zones.waitingSwept
  activeState : t.zones.activeState = s.zones.activeState
  watched : ∀ e ∈ t.zones.watchList, e ∈ s.zones.watchList ∨ (summaryOf e.zone s).staysWatched = true

/-- A change that leaves the pipeline, the active rows, the trackers, the drums, the envelope and the zones. -/
theorem Quiet.of_same {s t : State} (state : t.protection.state = s.protection.state) (pipeline : t.pipeline = s.pipeline)
    (shaftRows : t.tables.shaft.active = s.tables.shaft.active)
    (profileRows : t.tables.profile.active = s.tables.profile.active) (trackers : t.trackers = s.trackers)
    (payouts : ∀ d, (channel d t).payout = (channel d s).payout) (envelope : t.envelope = s.envelope)
    (zones : t.zones = s.zones) : Quiet s t where
  state := state
  active := by rw [pipeline]
  waiting := by rw [pipeline]
  shaftRows := shaftRows
  profileRows := profileRows
  depths c := by rw [tracker_congr c trackers]; exact ⟨rfl, rfl⟩
  payouts := payouts
  envelope := envelope
  occupancy := by rw [zones]
  activeSwept := by rw [zones]
  waitingSwept := by rw [zones]
  activeState := by rw [zones]
  watched e mem := .inl (zones ▸ mem)

theorem Quiet.refl (s : State) : Quiet s s := .of_same rfl rfl rfl rfl rfl (fun _ => rfl) rfl rfl

/-- Whether a zone stays watched is not a matter of its holder (R149, R155). -/
theorem staysWatched_of_map {s t : State} (z : Nat) (rows : t.tables.shaft.active = s.tables.shaft.active)
    (occupancy : t.zones.occupancy = s.zones.occupancy) (active : t.zones.activeSwept = s.zones.activeSwept)
    (waiting : t.zones.waitingSwept = s.zones.waitingSwept) :
    (summaryOf z t).staysWatched = (summaryOf z s).staysWatched := by
  have place : zoneOccupancy z t = zoneOccupancy z s := by
    simp only [zoneOccupancy, zoneList, rows, occupancy]
  unfold summaryOf
  rw [place, active, waiting]
  dsimp only
  (repeat' split) <;> rfl

theorem Quiet.staysWatched {s t : State} (h : Quiet s t) (z : Nat) :
    (summaryOf z t).staysWatched = (summaryOf z s).staysWatched :=
  staysWatched_of_map z h.shaftRows h.occupancy h.activeSwept h.waitingSwept

theorem Quiet.trans {s t u : State} (h : Quiet s t) (k : Quiet t u) : Quiet s u where
  state := k.state.trans h.state
  active := k.active.trans h.active
  waiting := k.waiting.trans h.waiting
  shaftRows := k.shaftRows.trans h.shaftRows
  profileRows := k.profileRows.trans h.profileRows
  depths c := ⟨(k.depths c).1.trans (h.depths c).1, (k.depths c).2.trans (h.depths c).2⟩
  payouts d := (k.payouts d).trans (h.payouts d)
  envelope := k.envelope.trans h.envelope
  occupancy := k.occupancy.trans h.occupancy
  activeSwept := k.activeSwept.trans h.activeSwept
  waitingSwept := k.waitingSwept.trans h.waitingSwept
  activeState := k.activeState.trans h.activeState
  watched e mem := by
    obtain old | new := k.watched e mem
    · exact h.watched e old
    · exact .inr (h.staysWatched e.zone ▸ new)

/-! ### Quiet operations -/

theorem quiet_count (c : Counter) (s : State) : Quiet s (count c s) := by
  apply Quiet.of_same <;> simp [channel]

theorem quiet_setFlag (f : Flag) (s : State) : Quiet s (setFlag f s) := by
  apply Quiet.of_same <;> simp [channel]

theorem quiet_offerUp (m : UpMark) (f : Frame) (s : State) : Quiet s (offerUp m f s) := by
  apply Quiet.of_same <;> simp [channel]

theorem quiet_setReceiver (l : Link) (r : Receiver) (s : State) : Quiet s (setReceiver l r s) := by
  apply Quiet.of_same <;> simp [channel]

theorem quiet_noteReference (origin : Byte) (s : State) : Quiet s (noteReference origin s) := by
  apply Quiet.of_same <;> simp [channel]

theorem quiet_coalesce (f : DownFrame) (s : State) : Quiet s (coalesce f s) := by
  apply Quiet.of_same <;> simp [channel]

theorem quiet_appendDown (f : DownFrame) (s : State) : Quiet s (appendDown f s) := by
  apply Quiet.of_same <;> simp [channel]

theorem quiet_placeDemand (f : Frame) (s : State) : Quiet s (placeDemand f s) := by
  apply Quiet.of_same <;> simp [channel]

theorem quiet_noteClamped (clamped : Bool) (s : State) : Quiet s (noteClamped clamped s) := by
  apply Quiet.of_same <;> simp [channel]

theorem quiet_blockCommand (s : State) : Quiet s (blockCommand s) := (quiet_count _ _).trans (quiet_setFlag _ _)

theorem quiet_setGuard (g : Guard) (s : State) : Quiet s { s with guard := g } :=
  .of_same rfl rfl rfl rfl rfl (fun _ => rfl) rfl rfl

theorem quiet_setChannel (d : Drum) (ch : Channel) (s : State) (payout : ch.payout = (channel d s).payout) :
    Quiet s (setChannel d ch s) := by
  refine .of_same (by simp) (by simp) (by simp) (by simp) (by simp) (fun e => ?_) (by simp) (by simp)
  by_cases same : e = d
  · subst same; simpa using payout
  · rw [channel_setChannel_other ch s same]

theorem quiet_abandon (reason : AbandonReason) (s : State) : Quiet s (abandon reason s) :=
  .of_same (by simp) (by simp) (abandon_active reason .shaft s).1 (abandon_active reason .profile s).1 (by simp)
    (fun d => by rw [channel_congr d (abandon_drums s reason)]) (by simp) (by simp)

theorem quiet_setHolder (z : Nat) (h : Option Byte) (s : State) : Quiet s (setHolder z h s) where
  state := rfl
  active := rfl
  waiting := rfl
  shaftRows := rfl
  profileRows := rfl
  depths _ := ⟨rfl, rfl⟩
  payouts _ := rfl
  envelope := rfl
  occupancy := rfl
  activeSwept := rfl
  waitingSwept := rfl
  activeState := rfl
  watched _ mem := .inl mem

theorem quiet_addWatch (e : WatchEntry) (s : State) (busy : (summaryOf e.zone s).staysWatched = true) :
    Quiet s (addWatch e s).1 := by
  unfold addWatch; split
  · exact .refl s
  · split
    · refine ⟨rfl, rfl, rfl, rfl, rfl, fun _ => ⟨rfl, rfl⟩, fun _ => rfl, rfl, rfl, rfl, rfl, rfl, fun e' mem => ?_⟩
      obtain old | new := List.mem_append.mp mem
      · exact .inl old
      · obtain rfl := List.mem_singleton.mp new
        exact .inr busy
    · exact .refl s

theorem quiet_startValidation (named : TableSet) (s : State) : Quiet s (startValidation named s) :=
  .of_same rfl rfl (by cases h : named.shaft <;> simp [startValidation, Bank.startedIf, setResult, h])
    (by cases h : named.profile <;> simp [startValidation, Bank.startedIf, setResult, h]) rfl (fun _ => rfl) rfl rfl

theorem quiet_completeValidation (s : State) : Quiet s (completeValidation s) := by
  have kept (b : Bank) : b.toValidated.active = b.active := by unfold Bank.toValidated; split <;> rfl
  unfold completeValidation; split
  · dsimp only; split
    · refine Quiet.trans ?_ (quiet_setFlag _ _)
      exact .of_same rfl rfl (kept _) (kept _) rfl (fun _ => rfl) rfl rfl
    · refine Quiet.trans ?_ (quiet_setFlag _ _)
      exact .of_same rfl rfl rfl rfl rfl (fun _ => rfl) rfl rfl
  · exact .refl s

theorem quiet_storeRow (t : TableId) (n : Nat) (r : Row) (s : State) : Quiet s (setBank t ((bank t s).stored n r) s) := by
  have kept (b : Bank) : (b.stored n r).active = b.active := by unfold Bank.stored; split <;> rfl
  cases t
  · exact .of_same rfl rfl (kept _) rfl rfl (fun _ => rfl) rfl rfl
  · exact .of_same rfl rfl rfl (kept _) rfl (fun _ => rfl) rfl rfl
  · exact .of_same rfl rfl rfl rfl rfl (fun _ => rfl) rfl rfl

theorem quiet_setLastMarker (c : Conveyance) (id : Nat) (s : State) : Quiet s (setLastMarker c id s) := by
  have depths (e : Conveyance) : (tracker e (setLastMarker c id s)).datumed = (tracker e s).datumed
      ∧ (tracker e (setLastMarker c id s)).reported = (tracker e s).reported := by
    by_cases same : e = c
    · subst same; simp [setLastMarker]
    · rw [setLastMarker, tracker_setTracker_other _ _ same]; exact ⟨rfl, rfl⟩
  exact ⟨rfl, rfl, rfl, rfl, rfl, depths, fun _ => rfl, rfl, rfl, rfl, rfl, rfl, fun _ mem => .inl mem⟩

theorem quiet_passMicrosecond (s : State) : Quiet s (passMicrosecond s) :=
  .of_same rfl rfl rfl rfl rfl (fun d => by cases d <;> rfl) rfl rfl

end Sys2Proof.Machine

/-! PROOF. How a command ends: with a hand-on, or with nothing that a hand-on would tell. The field frames and the timers. -/

namespace Sys2Proof.Machine

variable {k : Nat}

/-! ### How a command ends -/

/-- The operations of a level, with a hand-on behind them or with nothing that a hand-on would tell. -/
def Ends (k : Nat) (s t : State) : Prop :=
  (∃ u, Reaches k s u ∧ t = handOn u) ∨ (Reaches k s t ∧ Quiet s t)

theorem Ends.handOn {s u : State} (h : Reaches k s u) : Ends k s (handOn u) := .inl ⟨u, h, rfl⟩

theorem Ends.quiet {s t : State} (h : Reaches k s t) (quiet : Quiet s t) : Ends k s t := .inr ⟨h, quiet⟩

theorem Ends.refl (s : State) : Ends k s s := .quiet (.refl s) (.refl s)

/-- Quiet operations before the others leave the end as it is. -/
theorem Ends.after {s u t : State} (h : Reaches k s u) (quiet : Quiet s u) (ends : Ends k u t) : Ends k s t := by
  obtain ⟨v, reached, rfl⟩ | ⟨reached, still⟩ := ends
  · exact .handOn (h.trans reached)
  · exact .quiet (h.trans reached) (quiet.trans still)

/-- A state from which the Envelope Unit has computed already hands on as any other. -/
theorem handOnZones_eq_handOn {s : State} (current : EnvelopeCurrent s) : handOnZones s = handOn s := by
  have same : recomputeSpeed s = s := by unfold recomputeSpeed; rw [← current]
  rw [handOn, same]

/-! ### The D-link's frames -/

theorem recomputeSpeed_current (s : State) : EnvelopeCurrent (recomputeSpeed s) := by
  rw [EnvelopeCurrent, recomputeSpeed_envelope]
  exact (computeEnvelope_congr (by simp) (by simp) (by simp) (by simp) fun d => by cases d <;> rfl).symm

/-- Operations outside the Envelope Unit's inputs leave P the present one. -/
theorem EnvelopeCurrent.of_same {s t : State} (current : EnvelopeCurrent s) (envelope : t.envelope = s.envelope)
    (state : t.protection.state = s.protection.state) (tables : t.tables = s.tables) (trackers : t.trackers = s.trackers)
    (pipeline : t.pipeline = s.pipeline) (drums : t.drums = s.drums) : EnvelopeCurrent t := by
  rw [EnvelopeCurrent, envelope, current]
  exact (computeEnvelope_congr state (by rw [tables]; exact ⟨rfl, rfl⟩) trackers (by rw [pipeline])
    fun d => by rw [channel_congr d drums]).symm

/-- P is current when a movement's speed has been judged: each trip that the judgement takes is followed by a computation
(R106, R107). -/
theorem judgeSpeed_current (d : Drum) (dt : Nat) (s : State) : EnvelopeCurrent (judgeSpeed d dt s) := by
  have judged : EnvelopeCurrent (judgeOverspeed d (recomputeSpeed s)) := by
    unfold judgeOverspeed; split
    · exact recomputeSpeed_current _
    · exact recomputeSpeed_current s
  unfold judgeSpeed
  generalize judgeOverspeed d (recomputeSpeed s) = u at judged
  unfold rampStep; split
  · split
    · exact judged
    · split
      · dsimp only; split
        · exact recomputeSpeed_current _
        · exact judged.of_same (by simp) (by simp) (by simp) (by simp) (by simp) (by simp)
      · exact judged
  · exact judged

theorem ends_handOnMovement (level : 1 ≤ k) (d : Drum) (relock : Bool) (delta : Int) (dt : Nat)
    (restBefore drumBefore : Bool) (s : State) :
    ∃ u, Reaches k s u ∧ handOnMovement d relock delta dt restBefore drumBefore s = handOn u := by
  unfold handOnMovement; split
  · exact ⟨_, reaches_takeRest level d restBefore drumBefore s, rfl⟩
  · exact ⟨_, ((reaches_takeMovement level d relock delta s).trans (reaches_takeRest level d restBefore drumBefore _)).trans
      (reaches_judgeSpeed level d dt _), handOnZones_eq_handOn (judgeSpeed_current d dt _)⟩

theorem ends_applyMovement (level : 1 ≤ k) (d : Drum) (relock : Bool) (own : Int) (dt : Nat) (s : State) :
    Ends k s (applyMovement d relock own dt s) := by
  unfold applyMovement; split
  · exact .refl s
  · dsimp only
    generalize hmoved : Channel.restOn _ (timingRow s) = moved
    obtain ⟨u, reached, ends⟩ := ends_handOnMovement level d relock
      ((channel d s).position - (channel d s).applied) dt (winderAtRest s) (channel d s).atRest (setChannel d moved s)
    rw [ends]
    exact .handOn ((Reaches.setChannel d moved s level).trans reached)

theorem ends_setLock (level : 1 ≤ k) (d : Drum) (lock : Lock) (baseline : Option Baseline) (s : State) :
    Ends k s (setLock d lock baseline s) :=
  .quiet (reaches_setLock level d lock baseline s) (quiet_setChannel d _ s rfl)

theorem ends_loseLock (level : 1 ≤ k) (d : Drum) (s : State) : Ends k s (loseLock d s) :=
  .handOn ((Reaches.setChannel d _ s level).trans (reaches_takeLoss level _ _))

theorem ends_judgeSample (level : 1 ≤ k) (d : Drum) (r : DrumRow) (x : Sample) (own : Int) (s : State) :
    Ends k s (judgeSample d r x own s) := by
  have applied (relock : Bool) (lock : Lock) (b : Option Baseline) (dt : Nat) :
      Ends k s (applyMovement d relock own dt (setLock d lock b s)) :=
    .after (reaches_setLock level d lock b s) (quiet_setChannel d _ s rfl) (ends_applyMovement level d relock own dt _)
  unfold judgeSample; dsimp only; split
  · split
    · split
      · exact ends_setLock level _ _ _ _
      · exact applied _ _ _ _
    · exact ends_setLock level _ _ _ _
  · split
    · exact applied _ _ _ _
    · exact ends_loseLock level d s
  · exact ends_setLock level _ _ _ _

theorem bringForward_payout (ch : Channel) (n : BitVec 32) : (ch.bringForward n).1.payout = ch.payout := by
  unfold Channel.bringForward; split <;> rfl

theorem quiet_restartSampleWatch (d : Drum) (s : State) : Quiet s (restartSampleWatch d s) := by
  unfold restartSampleWatch; split
  · exact quiet_setChannel d _ s rfl
  · exact .refl s

theorem ends_observeSample (level : 1 ≤ k) (x : Sample) (s : State) : Ends k s (observeSample x s) := by
  have forward := quiet_setChannel x.drum ((channel x.drum s).bringForward x.count).1 s (bringForward_payout _ _)
  have reached := (Reaches.setChannel x.drum ((channel x.drum s).bringForward x.count).1 s level).trans
    (reaches_restartSampleWatch level x.drum _)
  refine .after reached (forward.trans (quiet_restartSampleWatch x.drum _)) ?_
  unfold observeSample; dsimp only; split
  · exact .refl _
  · exact ends_judgeSample level _ _ _ _ _

theorem ends_takeOwnRead (level : 1 ≤ k) (c : Conveyance) (i : Nat) (m : MarkerRow) (good : Bool) (s : State) :
    Ends k s (takeOwnRead c i m good s) := by
  unfold takeOwnRead; split
  · refine .handOn (.trans ?_ (reaches_judgeCreeping level _))
    split
    · exact reaches_judgeSync c i m s
    · exact reaches_satisfy c i m.depth s
  · next undatumed =>
    split
    · exact .handOn ((reaches_gainDatum level (Bool.eq_false_iff.mpr undatumed) m.depth).trans
        (reaches_judgeCreeping level _))
    · exact .refl s

theorem ends_observeMarker (level : 1 ≤ k) (r : MarkerRead) (s : State) : Ends k s (observeMarker r s) := by
  have foreign : Ends k s (count .foreign s) := .quiet (.count _ s) (quiet_count _ s)
  unfold observeMarker; split
  · exact foreign
  · split
    · have noted : Reaches k s (setLastMarker r.conveyance r.markerId s) := .setTracker r.conveyance _ s id
      exact .after noted (quiet_setLastMarker _ _ s) (ends_takeOwnRead level _ _ _ _ _)
    · exact foreign

theorem ends_observeLoad (level : 1 ≤ k) (r : LoadReport) (s : State) : Ends k s (observeLoad r s) := by
  have loaded : Reaches k s (setTracker r.conveyance { tracker r.conveyance s with load := r.load } s) :=
    .setTracker r.conveyance _ s id
  exact .handOn (((loaded.trans (reaches_recomputeTracker _ _)).trans (reaches_followOn _ _ _)).trans
    (reaches_judgeCreeping level _))

theorem ends_observeInterlock (level : 1 ≤ k) (new : Interlock) (s : State) : Ends k s (observeInterlock new s) :=
  .handOn ((Reaches.replaceImage new s level).trans (reaches_pipelineImage level _ _ _))

theorem ends_observeAnswer (level : 1 ≤ k) (s : State) : Ends k s (observeAnswer s) :=
  .quiet (.hearDrive s level) (.of_same rfl rfl rfl rfl rfl (fun _ => rfl) rfl rfl)

theorem ends_observe (level : 1 ≤ k) (f : Frame) (s : State) : Ends k s (observe f s) := by
  unfold observe; split
  · split
    · exact ends_observeSample level _ s
    · exact .refl s
  · split
    · exact ends_observeMarker level _ s
    · exact .refl s
  · split
    · exact ends_observeLoad level _ s
    · exact .refl s
  · split
    · exact ends_observeInterlock level _ s
    · exact .refl s
  · split
    · exact ends_observeAnswer level s
    · exact .refl s
  · exact .refl s

/-! ### The timers -/

theorem ends_expireSampleWatch (level : 1 ≤ k) (d : Drum) (s : State) : Ends k s (expireSampleWatch d s) := by
  unfold expireSampleWatch; split
  · exact .refl s
  · refine .after (u := setChannel d { channel d s with watchTimer := none } s) (.setChannel d _ s level)
      (quiet_setChannel d _ s rfl) ?_
    dsimp only; split
    · exact ends_loseLock level d _
    · exact ends_setLock level d _ _ _

theorem ends_expireRestTimer (level : 1 ≤ k) (d : Drum) (s : State) : Ends k s (expireRestTimer d s) := by
  unfold expireRestTimer; split
  · exact .handOn (((Reaches.setChannel d _ s level).trans (reaches_noteRest level _ _)).trans
      (reaches_finishAtRest level _))
  · exact .refl s

theorem ends_expireWatch (level : 1 ≤ k) (s : State) : Ends k s (expireWatch s) := by
  unfold expireWatch; split
  · exact .refl s
  · refine .handOn ((Reaches.stopWatch s level).trans ?_)
    split
    · next runs =>
      refine reaches_enterStopping level .watch fun trip active => ?_
      simp only [watchRuns, active, Option.map_some, Option.some.injEq, decide_eq_true_eq] at runs
      obtain running | creeping := runs
      · simp [running]
      · simp [creeping]
    · exact .refl _

theorem ends_expireDeadline (s : State) : Ends k s (expireDeadline s) := by
  unfold expireDeadline; split
  · exact .refl s
  · exact .handOn (.reportCause .stopFail s)

theorem ends_expireEcho (level : 1 ≤ k) (s : State) : Ends k s (expireEcho s) := by
  unfold expireEcho; split
  · exact .refl s
  · refine .quiet ((Reaches.driveSilent s level).trans (.setFlag _ _)) (Quiet.trans ?_ (quiet_setFlag _ _))
    exact .of_same rfl rfl rfl rfl rfl (fun _ => rfl) rfl rfl

/-! ### The C-link's commands and the transmitters -/

theorem reaches_blockCommand (s : State) : Reaches k s (blockCommand s) := (Reaches.count _ s).trans (.setFlag _ _)

section
variable (level : 2 ≤ k)
include level

theorem ends_turnKey (position : KeyPosition) (s : State) : Ends k s (turnKey position s) := by
  have turned : Quiet s { s with key := position } := .of_same rfl rfl rfl rfl rfl (fun _ => rfl) rfl rfl
  unfold turnKey; split
  · exact .refl s
  · refine .after (.turnKey position s level) turned ?_
    cases position
    · exact .quiet (.abandon _ _ (by omega)) (quiet_abandon _ _)
    · exact .refl _

theorem ends_guardReference (f : Frame) (ref : SpeedReference) (s : State)
    (cls : classOf f.cls = .speedReference) : Ends k s (guardReference f ref s) := by
  have clamped (b : Bool) (u : State) : Reaches k u (noteClamped b u) := by
    unfold noteClamped; split
    · exact (Reaches.count _ u).trans (.setFlag _ _)
    · exact .refl u
  refine .after (.noteReference f.origin s level) (quiet_noteReference _ s) ?_
  unfold guardReference; dsimp only; split
  · exact .quiet (.count _ _) (quiet_count _ _)
  · exact .quiet ((clamped _ _).trans (.coalesce _ _ (by omega) ⟨cls, rfl, readSpeed_speedBody_isSome _ _ _⟩))
      ((quiet_noteClamped _ _).trans (quiet_coalesce _ _))

theorem ends_appendDown (f : DownFrame) (s : State) (plain : IsPlainFrame f) : Ends k s (appendDown f s) :=
  .quiet (.appendDown f s level plain) (quiet_appendDown f s)

theorem ends_takeCommand (f : Frame) (s : State) (plain : IsPlainFrame { frame := f, source := none }) :
    Ends k s (takeCommand f s) := by
  unfold takeCommand; split
  · unfold gateCommand; split
    · exact .quiet (reaches_blockCommand s) (quiet_blockCommand s)
    · exact ends_appendDown level _ s plain
  · exact .quiet (.count _ s) (quiet_count _ s)

/-- A start takes frames off the downstream queue, and writes the transmitter and the last forwarded reference (R116,
R117). -/
theorem ends_takeNext (queue : List DownFrame) (s : State) (rest : queue.Sublist s.guard.queue) :
    Ends k s (takeNext queue s) := by
  induction queue generalizing s with
  | nil => exact .quiet (.transmitDown [] .idle s.guard.lastRef s level rest) (quiet_setGuard _ s)
  | cons f behind ih =>
    have fewer : behind.Sublist s.guard.queue := (List.sublist_cons_self f behind).trans rest
    unfold takeNext; split
    · exact .after (reaches_blockCommand s) (quiet_blockCommand s) (ih _ (by simpa using fewer))
    · have checked : Reaches k s (recheckReference f s).2 ∧ Quiet s (recheckReference f s).2
          ∧ (recheckReference f s).2.guard = s.guard := by
        unfold recheckReference; split
        · dsimp only; split
          · exact ⟨.refl s, .refl s, rfl⟩
          · split
            · exact ⟨(Reaches.count .clamped s).trans (.setFlag .clamp _), quiet_noteClamped true s, by simp⟩
            · exact ⟨.refl s, .refl s, rfl⟩
        · exact ⟨.refl s, .refl s, rfl⟩
      obtain ⟨reached, quiet, guard⟩ := checked
      unfold beginTransmission
      refine .after reached quiet ?_
      have left : behind.Sublist (recheckReference f s).2.guard.queue := guard ▸ fewer
      have sent (last : LastReference) : Ends k (recheckReference f s).2 { (recheckReference f s).2 with
          guard := { (recheckReference f s).2.guard with
            queue := behind, transmitter := .sending (recheckReference f s).1, lastRef := last } } :=
        .quiet (.transmitDown _ _ _ _ level left) (quiet_setGuard _ _)
      dsimp only; split
      · unfold recordForwarded; split
        · exact sent _
        · exact sent _
      · exact sent _

theorem ends_startDown (s : State) : Ends k s (startDown s) := by
  unfold startDown; split
  · exact .refl s
  · exact ends_takeNext level _ s (List.Sublist.refl _)

theorem ends_endDown (s : State) : Ends k s (endDown s) := by
  unfold endDown; split
  · exact .quiet (.transmitDown s.guard.queue .gap s.guard.lastRef s level (List.Sublist.refl _)) (quiet_setGuard _ s)
  · exact .refl s

theorem ends_endUp (s : State) : Ends k s (endUp s) := by
  refine .quiet (.endUp s level) ?_
  unfold endUp; split
  · exact .of_same rfl rfl rfl rfl rfl (fun _ => rfl) rfl rfl
  · exact .refl s

end

theorem quiet_startUp (s : State) : Quiet s (startUp s) := by
  unfold startUp; split
  · exact .refl s
  · split
    · exact .of_same rfl rfl rfl rfl rfl (fun _ => rfl) rfl rfl
    · exact .of_same rfl rfl rfl rfl rfl (fun _ => rfl) rfl rfl

end Sys2Proof.Machine

/-! PROOF. The requests, the frames of both links and the commands end so too; from there an invariant of the operations is one of the step. -/

namespace Sys2Proof.Machine

variable {k : Nat}

/-! ### The requests -/

/-- ROW READ changes no state (R22). -/
theorem takeRowRead_unchanged (params : List Byte) (s : State) : (takeRowRead params s).1 = s := by
  unfold takeRowRead; (repeat' split) <;> rfl

/-- POSITION READ changes no state (R183). -/
theorem takePositionRead_unchanged (params : List Byte) (s : State) : (takePositionRead params s).1 = s := by
  unfold takePositionRead; split <;> rfl

theorem ends_count (c : Counter) (s : State) : Ends k s (count c s) := .quiet (.count c s) (quiet_count c s)

theorem ends_setFlag (f : Flag) (s : State) : Ends k s (setFlag f s) := .quiet (.setFlag f s) (quiet_setFlag f s)

theorem ends_of_unchanged {s t : State} (same : t = s) : Ends k s t := by
  subst same; exact .refl t

section
variable (level : 2 ≤ k)
include level

theorem ends_takeRowLoad (params : List Byte) (s : State) : Ends k s (takeRowLoad params s).1 := by
  unfold takeRowLoad; split
  · split
    · unfold loadRow; dsimp only
      (repeat' split) <;> first
        | exact .refl s
        | exact .quiet (.storeRow _ _ _ s level) (quiet_storeRow _ _ _ s)
    · exact .refl s
  · exact .refl s
  · exact .refl s

theorem ends_takeCommitPrepare (params : List Byte) (s : State) : Ends k s (takeCommitPrepare params s).1 := by
  unfold takeCommitPrepare
  split
  · exact .refl s
  · split
    · exact .refl s
    · next closed =>
      (repeat' split) <;> first
        | exact .refl s
        | exact .quiet (.startValidation _ s level (Bool.eq_false_iff.mpr closed)) (quiet_startValidation _ s)

theorem ends_takeCommitCancel (s : State) : Ends k s (takeCommitCancel s).1 := by
  unfold takeCommitCancel; split
  · exact .quiet (.cancel _ s level) (.of_same rfl rfl rfl rfl rfl (fun _ => rfl) rfl rfl)
  · exact .refl s

/-- A trip placed in a slot that is free for it, in a state that takes causes and against no hold (R75, R76). -/
theorem ends_placeTrip (trip : Trip) (s : State) (takes : TakesCauses s) (state : trip.state = .queued)
    (clear : heldAgainst trip s = []) : Ends k s (placeTrip trip s).1 := by
  unfold placeTrip; split
  · next empty => exact .handOn (.placeActive _ s level takes empty rfl clear)
  · next ahead active => exact .handOn (.placeWaiting trip s level takes (by simp [active]) state clear)

theorem ends_takeTripRequest (params : List Byte) (s : State) : Ends k s (takeTripRequest params s).1 := by
  unfold takeTripRequest; split
  · exact .refl s
  · next going =>
    have takes : TakesCauses s := by
      simp only [not_or] at going
      cases state : s.protection.state <;> simp_all [TakesCauses]
    (repeat' split) <;> try exact .refl s
    unfold judgeTrip; dsimp only
    (repeat' split) <;> try exact .refl s
    next clear => exact ends_placeTrip level _ s takes rfl clear

theorem ends_takeTripAbort (params : List Byte) (s : State) : Ends k s (takeTripAbort params s).1 := by
  have one : 1 ≤ k := by omega
  unfold takeTripAbort; dsimp only; split
  · exact .handOn (.finishWaiting _ _ s level)
  · split
    · next trip active =>
      split
      · refine .handOn ?_
        unfold abortActive; split
        · exact .finishBoth _ _ s one
        · exact .refl s
        · next notWaiting notStopping => exact .enterStopping .abort s one active ⟨notWaiting, notStopping⟩
      · exact .refl s
    · exact .refl s

theorem ends_takeTripReset (s : State) : Ends k s (takeTripReset s).1 := by
  unfold takeTripReset
  split
  · exact .refl s
  · next tripped =>
    (repeat' split) <;> first
      | exact .refl s
      | exact .handOn (.resetTrip s level (not_not.mp tripped))

theorem ends_takeZoneRelease (origin : Byte) (params : List Byte) (s : State) :
    Ends k s (takeZoneRelease origin params s).1 := by
  unfold takeZoneRelease; dsimp only
  (repeat' split) <;> first
    | exact .refl s
    | exact .quiet (.releaseZone _ s level) (quiet_setHolder _ _ s)

theorem ends_takeStatusRead (origin : Byte) (s : State) : Ends k s (takeStatusRead origin s).1 := by
  unfold takeStatusRead; dsimp only; split
  · exact .quiet (.clearFlags s level) (.of_same rfl rfl rfl rfl rfl (fun _ => rfl) rfl rfl)
  · exact .refl s

theorem ends_takeCounterRead (params : List Byte) (s : State) : Ends k s (takeCounterRead params s).1 := by
  unfold takeCounterRead; split
  · exact .refl s
  · exact .quiet (.clearCounters s level) (.of_same rfl rfl rfl rfl rfl (fun _ => rfl) rfl rfl)
  · exact .refl s

theorem ends_takeCommitConfirm (s : State) (lists : k = 2 → s.tables.shaft.state ≠ .validated) :
    Ends k s (takeCommitConfirm s).1 := by
  unfold takeCommitConfirm
  split
  · exact .refl s
  · split
    · exact .refl s
    · next ruled =>
      split
      · exact .refl s
      · split
        · exact .refl s
        · next allowed =>
          have allows : s.protection.state = .noTables ∨ pipelineEmpty s = true := by
            simp [restAllows] at allowed
            tauto
          show Ends k s (confirm s)
          rw [confirm_eq_handOn]
          exact .handOn (.confirm s level allows (Bool.eq_false_iff.mpr ruled) lists)

theorem ends_takeZoneHold (origin : Byte) (params : List Byte) (s : State) (current : k = 3 → ZoneMapCurrent s) :
    Ends k s (takeZoneHold origin params s).1 := by
  unfold takeZoneHold; dsimp only; split
  · exact .refl s
  · split
    · exact .refl s
    · next refusal =>
      have clear : summaryOf (field params 0 1) s = .clear := by
        unfold holdRefusal at refusal
        split at refusal <;> first | assumption | simp at refusal
      exact .quiet (.holdZone _ origin s level clear current) (quiet_setHolder _ _ s)

end

/-- An inquiry with the option set takes trips out of the pipeline, watches a busy zone, or does nothing (R152). -/
theorem withdraw_cases (level : 2 ≤ k) (z : Nat) (station : Byte) (s : State) :
    Ends k s (withdraw z station s).1
      ∨ ∃ e : WatchEntry, e.zone = z ∧ (summaryOf e.zone s).staysWatched = true ∧ (withdraw z station s).1 = (addWatch e s).1 := by
  have watched (busy : (summaryOf z s).staysWatched = true) :
      ∃ e : WatchEntry, e.zone = z ∧ (summaryOf e.zone s).staysWatched = true
        ∧ (watchZone z station s).1 = (addWatch e s).1 := ⟨_, rfl, busy, rfl⟩
  unfold withdraw; split
  · exact .inl (.handOn (.finishWaiting _ _ s level))
  · next planned =>
    split
    · exact .inl (.handOn (.finishBoth _ _ s (by omega)))
    · exact .inr (watched (by rw [planned]; rfl))
  · next occupied => exact .inr (watched (by rw [occupied]; rfl))
  · exact .inl (.refl s)

section
variable (level : 3 ≤ k)
include level

theorem ends_takeRestart (s : State) : Ends k s (takeRestart s).1 := by
  unfold takeRestart
  split
  · exact .refl s
  · next state =>
    split
    · exact .refl s
    · split
      · exact .refl s
      · next empty =>
        have takes : TakesCauses s := by unfold TakesCauses; tauto
        exact .handOn (.restart s level takes (by simpa using empty))

theorem ends_withdraw (z : Nat) (station : Byte) (s : State) : Ends k s (withdraw z station s).1 := by
  obtain ends | ⟨e, -, busy, same⟩ := withdraw_cases (k := k) (by omega) z station s
  · exact ends
  · rw [same]; exact .quiet (.watchZone _ s level) (quiet_addWatch _ s busy)

theorem ends_takeZoneInquiry (origin : Byte) (params : List Byte) (s : State) :
    Ends k s (takeZoneInquiry origin params s).1 := by
  unfold takeZoneInquiry; dsimp only; split
  · exact .refl s
  · split
    · exact .refl s
    · exact ends_withdraw level _ _ s
    · exact .refl s

end

/-- The requests that write the watch list (R153, R155, R160, R188). -/
def WritesWatchList (rule : RequestKind) (s : State) : Prop :=
  rule = .restart ∨ rule = .zoneInquiry ∨ rule = .commitConfirm ∧ s.tables.shaft.state = .validated

section
variable (level : 2 ≤ k)
include level

theorem ends_ownRule (rule : RequestKind) (origin : Byte) (params : List Byte) (s : State)
    (lists : k = 2 → ¬WritesWatchList rule s) (current : k = 3 → ZoneMapCurrent s) :
    Ends k s (ownRule rule origin params s).1 := by
  have high (writes : WritesWatchList rule s) : 3 ≤ k := by
    by_contra low
    exact lists (by omega) writes
  cases rule
  case rowLoad => exact ends_takeRowLoad level params s
  case rowRead => exact ends_of_unchanged (takeRowRead_unchanged params s)
  case commitPrepare => exact ends_takeCommitPrepare level params s
  case commitConfirm => exact ends_takeCommitConfirm level s fun low shaft => lists low (.inr (.inr ⟨rfl, shaft⟩))
  case commitCancel => exact ends_takeCommitCancel level s
  case tripRequest => exact ends_takeTripRequest level params s
  case tripAbort => exact ends_takeTripAbort level params s
  case tripReset => exact ends_takeTripReset level s
  case restart => exact ends_takeRestart (high (.inl rfl)) s
  case zoneInquiry => exact ends_takeZoneInquiry (high (.inr (.inl rfl))) origin params s
  case zoneHold => exact ends_takeZoneHold level origin params s current
  case zoneRelease => exact ends_takeZoneRelease level origin params s
  case statusRead => exact ends_takeStatusRead level origin s
  case positionRead => exact ends_of_unchanged (takePositionRead_unchanged params s)
  case counterRead => exact ends_takeCounterRead level params s

theorem ends_answerRequest (origin kind : Byte) (params : List Byte) (s : State)
    (lists : k = 2 → ∀ rule, RequestKind.ofByte kind = some rule → ¬WritesWatchList rule s)
    (current : k = 3 → ZoneMapCurrent s) : Ends k s (answerRequest origin kind params s).1 := by
  unfold answerRequest; split
  · exact .refl s
  · next rule named =>
    split
    · exact .refl s
    · split
      · exact .refl s
      · exact ends_ownRule level rule origin params s (fun low => lists low rule named) current

/-! ### Commands whole -/

/-- A command's operations, its hand-on if it has one, and the one frame it may offer behind that: a field frame or its
reply. -/
def EndsOffering (k : Nat) (s t : State) : Prop :=
  ∃ v, Ends k s v ∧ (t = v ∨ ∃ m f, (m = .field ∨ classOf f.cls = .reply) ∧ t = offerUp m f v)

omit level in
theorem Ends.offering {s t : State} (h : Ends k s t) : EndsOffering k s t := ⟨t, h, .inl rfl⟩

omit level in
theorem endsOffering_takeFromD (level : 1 ≤ k) (f : Frame) (s : State) : EndsOffering k s (takeFromD f s) := by
  unfold takeFromD; split
  · exact (ends_count .malformed s).offering
  · exact ⟨_, ends_observe level f s, .inr ⟨.field, f, .inl rfl, rfl⟩⟩

theorem endsOffering_serveRequest (origin kind tag : Byte) (params : List Byte) (s : State)
    (lists : k = 2 → ∀ rule, RequestKind.ofByte kind = some rule → ¬WritesWatchList rule s)
    (current : k = 3 → ZoneMapCurrent s) : EndsOffering k s (serveRequest origin kind tag params s) :=
  ⟨_, ends_answerRequest level origin kind params s lists current, .inr ⟨.part, _, .inr rfl, rfl⟩⟩

/-- A C-link frame that is no request to the part. -/
theorem endsOffering_takeFromC_other (f : Frame) (s : State)
    (other : classOf f.cls = .request → f.target ≠ Config.partStation) : EndsOffering k s (takeFromC f s) := by
  have malformed : EndsOffering k s (count .malformed s) := (ends_count .malformed s).offering
  have passed (notReference : classOf f.cls ≠ .speedReference) (notDemand : classOf f.cls ≠ .brakeDemand) :
      IsPlainFrame { frame := f, source := none } := ⟨rfl, notReference, notDemand⟩
  unfold takeFromC; split
  · next cls =>
    rw [if_neg (other cls)]
    exact (ends_appendDown level _ s (passed (by simp [cls]) (by simp [cls]))).offering
  · next cls =>
    split
    · exact (ends_guardReference level f _ s cls).offering
    · exact malformed
  · next cls => exact (ends_takeCommand level f s (passed (by simp [cls]) (by simp [cls]))).offering
  · next cls => exact (ends_takeCommand level f s (passed (by simp [cls]) (by simp [cls]))).offering
  · next cls => exact Ends.offering (.quiet (.placeDemand f s level cls) (quiet_placeDemand f s))
  · next notReference _ _ notDemand =>
    exact (ends_appendDown level _ s (passed (fun h => notReference h) (fun h => notDemand h))).offering

end

section
variable (level : 3 ≤ k)
include level

theorem endsOffering_takeFromC (f : Frame) (s : State) (current : k = 3 → ZoneMapCurrent s) :
    EndsOffering k s (takeFromC f s) := by
  by_cases request : classOf f.cls = .request ∧ f.target = Config.partStation
  · have taken : takeFromC f s = takeRequest f s := by simp [takeFromC, request.1, request.2]
    rw [taken]; unfold takeRequest; split
    · exact endsOffering_serveRequest (by omega) _ _ _ _ s (fun low => by omega) current
    · exact (ends_count .malformed s).offering
  · exact endsOffering_takeFromC_other (by omega) f s fun cls target => request ⟨cls, target⟩

omit level in
theorem zoneMapCurrent_setReceiver (l : Link) (r : Receiver) {s : State} (h : ZoneMapCurrent s) :
    ZoneMapCurrent (setReceiver l r s) := by
  obtain ⟨occupancy, active, waiting, state⟩ := h
  refine ⟨?_, by simpa using active, by simpa using waiting, by simpa using state⟩
  simp only [setReceiver_zones, occupancy]
  congr 1; funext c
  simp [occupancyOf, tracker, compartmentRow, zoneList]

/-- Silence writes the receiver; then a frame that ended is taken (R163, R164). -/
theorem endsOffering_silence (l : Link) (s : State) (current : k = 3 → ZoneMapCurrent s) :
    EndsOffering k s (silence l s) := by
  have taken : EndsOffering k (setReceiver l .idle s) (silence l s) := by
    unfold silence; dsimp only; split
    · exact Ends.offering (.refl _)
    · next j _ =>
      cases j with
      | malformed => exact Ends.offering (ends_count .malformed _)
      | checkError =>
        exact Ends.offering (.after (.count _ _) (quiet_count _ _) (ends_setFlag .link _))
      | whole f =>
        cases l
        · exact endsOffering_takeFromC level f _ fun h => zoneMapCurrent_setReceiver _ _ (current h)
        · exact endsOffering_takeFromD (by omega) f _
  obtain ⟨v, ends, offered⟩ := taken
  exact ⟨v, ends.after (.setReceiver l _ s (by omega)) (quiet_setReceiver l _ s), offered⟩

theorem endsOffering_deliver (l : Link) (bytes : List LineByte) (s : State) (current : k = 3 → ZoneMapCurrent s) :
    EndsOffering k s (deliver l bytes s) := by
  obtain ⟨v, ends, offered⟩ := endsOffering_silence level l (setReceiver l (bytes.foldl takeByte (receiver l s)) s)
    fun h => zoneMapCurrent_setReceiver _ _ (current h)
  exact ⟨v, ends.after (.setReceiver l _ s (by omega)) (quiet_setReceiver l _ s), offered⟩

/-- Every command but NRST is made of the operations, with its hand-on behind them where it has one. -/
theorem exec_endsOffering {i : Instr} {s t : State} (notReset : i ≠ .nrst) (run : exec i s = .next t)
    (current : k = 3 → ZoneMapCurrent s) : EndsOffering k s t := by
  have one : 1 ≤ k := by omega
  have two : 2 ≤ k := by omega
  have delivered (l : Link) (bytes : List LineByte) (h : Host.Outcome.next (deliver l bytes s) = exec i s) :
      EndsOffering k s t := by
    rw [run, Host.Outcome.next.injEq] at h
    exact h ▸ endsOffering_deliver level l bytes s current
  have alone {u : State} (ends : Ends k s u) (h : Host.Outcome.next u = exec i s) : EndsOffering k s t := by
    rw [run, Host.Outcome.next.injEq] at h
    exact h ▸ ends.offering
  cases i
  case nrst => exact absurd rfl notReset
  case keyChange position => exact alone (ends_turnKey two position s) rfl
  case sampleWatchExpiry d => exact alone (ends_expireSampleWatch one d s) rfl
  case restTimerExpiry d => exact alone (ends_expireRestTimer one d s) rfl
  case dTransmitStart => exact alone (ends_startDown two s) rfl
  case dTransmitEnd => exact alone (ends_endDown two s) rfl
  case cTransmitStart => exact alone (.quiet (.startUp s level) (quiet_startUp s)) rfl
  case cTransmitEnd => exact alone (ends_endUp two s) rfl
  case validationComplete => exact alone (.quiet (.completeValidation s two) (quiet_completeValidation s)) rfl
  case refWatchExpiry => exact alone (ends_expireWatch one s) rfl
  case stopDeadlineExpiry => exact alone (ends_expireDeadline s) rfl
  case echoTimerExpiry => exact alone (ends_expireEcho one s) rfl
  case receiverIdle l =>
    obtain rfl : silence l s = t := by injection run
    exact endsOffering_silence level l s current
  all_goals exact delivered _ _ rfl

/-! ### Steps -/

theorem EndsOffering.reaches {s t : State} (h : EndsOffering k s t) : Reaches k s t := by
  obtain ⟨v, ends, offered⟩ := h
  have reached : Reaches k s v := by
    obtain ⟨u, reached, rfl⟩ | ⟨reached, -⟩ := ends
    · exact (reached.trans (.recomputeSpeed u (by omega))).trans (.handOnZones _ level)
    · exact reached
  obtain rfl | ⟨m, f, -, rfl⟩ := offered
  · exact reached
  · exact reached.trans (.offerUp m f v level)

theorem exec_reaches {i : Instr} {s t : State} (run : exec i s = .next t) (current : k = 3 → ZoneMapCurrent s) :
    Reaches k s t := by
  by_cases reset : i = .nrst
  · subst reset
    obtain rfl : resetPart s = t := by injection run
    exact .nrst s level
  · exact (exec_endsOffering level reset run current).reaches level

end

/-- An invariant that the operations keep, and that does not look at the waiting commands, is kept by every step. -/
theorem step_keeps {Inv : State → Prop} (ignoresPending : ∀ s rest, Inv s → Inv { s with pending := rest })
    (kept : ∀ s t, Reaches 4 s t → Inv s → Inv t) {s t : State} (inv : Inv s) (run : step s = .next t) : Inv t := by
  unfold step at run
  split at run
  · next c rest _ => exact kept _ _ (exec_reaches (by omega) run (by omega)) (ignoresPending s rest inv)
  · obtain rfl : passMicrosecond s = t := by injection run
    exact kept _ _ (.passMicrosecond s (by omega)) inv

end Sys2Proof.Machine

/-! PROOF. The supervisor state with CHAIN and the datums (R140), and with the causes (R138, R142). -/

namespace Sys2Proof.Machine

/-! ### What the remaining operations leave alone -/

@[simp] theorem startUp_frame (s : State) :
    (startUp s).key = s.key ∧ (startUp s).tables = s.tables ∧ (startUp s).drums = s.drums
      ∧ (startUp s).trackers = s.trackers ∧ (startUp s).pipeline = s.pipeline ∧ (startUp s).envelope = s.envelope
      ∧ (startUp s).guard = s.guard ∧ (startUp s).protection = s.protection ∧ (startUp s).zones = s.zones
      ∧ (startUp s).requests = s.requests := by
  unfold startUp; (repeat' split) <;> simp

@[simp] theorem endUp_frame (s : State) :
    (endUp s).key = s.key ∧ (endUp s).tables = s.tables ∧ (endUp s).drums = s.drums ∧ (endUp s).trackers = s.trackers
      ∧ (endUp s).pipeline = s.pipeline ∧ (endUp s).envelope = s.envelope ∧ (endUp s).guard = s.guard
      ∧ (endUp s).protection = s.protection ∧ (endUp s).zones = s.zones ∧ (endUp s).requests = s.requests
      ∧ (endUp s).line.queue = s.line.queue := by
  unfold endUp; split <;> simp

@[simp] theorem startValidation_frame (named : TableSet) (s : State) :
    (startValidation named s).key = s.key ∧ (startValidation named s).line = s.line
      ∧ (startValidation named s).drums = s.drums ∧ (startValidation named s).trackers = s.trackers
      ∧ (startValidation named s).pipeline = s.pipeline ∧ (startValidation named s).envelope = s.envelope
      ∧ (startValidation named s).guard = s.guard ∧ (startValidation named s).protection = s.protection
      ∧ (startValidation named s).zones = s.zones ∧ (startValidation named s).requests = s.requests := by
  simp [startValidation]

@[simp] theorem completeValidation_frame (s : State) :
    (completeValidation s).key = s.key ∧ (completeValidation s).drums = s.drums
      ∧ (completeValidation s).trackers = s.trackers ∧ (completeValidation s).pipeline = s.pipeline
      ∧ (completeValidation s).envelope = s.envelope ∧ (completeValidation s).guard = s.guard
      ∧ (completeValidation s).protection = s.protection ∧ (completeValidation s).zones = s.zones := by
  unfold completeValidation; split
  · dsimp only; split <;> simp
  · simp

@[simp] theorem observeAnswer_frame (s : State) :
    (observeAnswer s).key = s.key ∧ (observeAnswer s).line = s.line ∧ (observeAnswer s).tables = s.tables
      ∧ (observeAnswer s).drums = s.drums ∧ (observeAnswer s).trackers = s.trackers
      ∧ (observeAnswer s).pipeline = s.pipeline ∧ (observeAnswer s).envelope = s.envelope
      ∧ (observeAnswer s).guard = s.guard ∧ (observeAnswer s).zones = s.zones
      ∧ (observeAnswer s).requests = s.requests ∧ (observeAnswer s).protection.state = s.protection.state
      ∧ (observeAnswer s).protection.chainClosed = s.protection.chainClosed
      ∧ (observeAnswer s).protection.firstCause = s.protection.firstCause
      ∧ (observeAnswer s).protection.causes = s.protection.causes
      ∧ (observeAnswer s).protection.image = s.protection.image := by
  simp [observeAnswer]

@[simp] theorem accumulatorsOn_frame (old new : Clutch) (s : State) :
    (accumulatorsOn old new s).key = s.key ∧ (accumulatorsOn old new s).line = s.line
      ∧ (accumulatorsOn old new s).tables = s.tables ∧ (accumulatorsOn old new s).trackers = s.trackers
      ∧ (accumulatorsOn old new s).pipeline = s.pipeline ∧ (accumulatorsOn old new s).envelope = s.envelope
      ∧ (accumulatorsOn old new s).guard = s.guard ∧ (accumulatorsOn old new s).protection = s.protection
      ∧ (accumulatorsOn old new s).zones = s.zones ∧ (accumulatorsOn old new s).requests = s.requests
      ∧ (accumulatorsOn old new s).drums.drift = s.drums.drift := by
  simp [accumulatorsOn]

@[simp] theorem addWatch_frame (e : WatchEntry) (s : State) :
    (addWatch e s).1.key = s.key ∧ (addWatch e s).1.line = s.line ∧ (addWatch e s).1.tables = s.tables
      ∧ (addWatch e s).1.drums = s.drums ∧ (addWatch e s).1.trackers = s.trackers
      ∧ (addWatch e s).1.pipeline = s.pipeline ∧ (addWatch e s).1.envelope = s.envelope
      ∧ (addWatch e s).1.guard = s.guard ∧ (addWatch e s).1.protection = s.protection
      ∧ (addWatch e s).1.requests = s.requests ∧ (addWatch e s).1.zones.holders = s.zones.holders := by
  unfold addWatch; (repeat' split) <;> simp

@[simp] theorem passMicrosecond_frame (s : State) :
    (passMicrosecond s).key = s.key ∧ (passMicrosecond s).line = s.line ∧ (passMicrosecond s).tables = s.tables
      ∧ (passMicrosecond s).trackers = s.trackers ∧ (passMicrosecond s).pipeline = s.pipeline
      ∧ (passMicrosecond s).envelope = s.envelope ∧ (passMicrosecond s).zones = s.zones
      ∧ (passMicrosecond s).requests = s.requests ∧ (passMicrosecond s).protection.state = s.protection.state
      ∧ (passMicrosecond s).protection.chainClosed = s.protection.chainClosed
      ∧ (passMicrosecond s).protection.firstCause = s.protection.firstCause
      ∧ (passMicrosecond s).protection.causes = s.protection.causes
      ∧ (passMicrosecond s).protection.image = s.protection.image := by
  simp [passMicrosecond]

/-! ### The supervisor's part of each operation -/

/-- The Protection Controller after a protective trip (R136). -/
theorem protectiveTrip_protection (c : Cause) (s : State) :
    (protectiveTrip c s).protection
      = { s.protection with
          firstCause := some c, causes := causeBit c, state := .tripped, chainClosed := false, driveHeard := false,
          driveSilent := false, echo := startTimer Config.echoTimerMs } := by
  simp [protectiveTrip, openChain, beginEcho]

/-- A reported cause is left aside, taken as a protective trip, or joined to the set (R135). -/
theorem reportCause_cases (c : Cause) (s : State) :
    (s.protection.state = .noTables ∧ reportCause c s = s) ∨ (TakesCauses s ∧ reportCause c s = protectiveTrip c s)
      ∨ (s.protection.state = .tripped ∧ reportCause c s = addCause c s) := by
  cases state : s.protection.state
  case noTables => exact .inl ⟨rfl, reportCause_noTables c state⟩
  case undatumed => exact .inr (.inl ⟨.inl state, reportCause_takes c (.inl state)⟩)
  case armed => exact .inr (.inl ⟨.inr state, reportCause_takes c (.inr state)⟩)
  case tripped => exact .inr (.inr ⟨rfl, reportCause_tripped c state⟩)

/-- The entry into ARMED writes the supervisor state alone of the protection, and only with all three DATUMED (R131). -/
theorem armIfDatumed_protection (s : State) :
    (armIfDatumed s).protection = s.protection
      ∨ s.protection.state = .undatumed ∧ allDatumed s = true
        ∧ (armIfDatumed s).protection = { s.protection with state := .armed } := by
  unfold armIfDatumed; split
  · next armed => exact .inr ⟨armed.1, armed.2, by simp⟩
  · exact .inl rfl

/-- The confirm writes the supervisor state and CHAIN alone of the protection: UNDATUMED behind a SHAFT or DRUM table, and
with CHAIN closed at the first confirm (R32). -/
theorem confirmWrites_protection (s : State) :
    let tables := s.tables.shaft.state = .validated ∨ s.tables.drum.state = .validated
    (s.protection.state = .noTables → (confirmWrites s).protection
        = { s.protection with state := .undatumed, chainClosed := true })
      ∧ (s.protection.state ≠ .noTables → (confirmWrites s).protection
        = { s.protection with
            state := if tables ∧ s.protection.state = .armed then .undatumed else s.protection.state }) := by
  have shaft (u : State) : (confirmShaft u).protection = u.protection := rfl
  have undatums (u : State) : (confirmUndatums u).protection
      = { u.protection with state := if u.protection.state = .armed then .undatumed else u.protection.state } := by
    unfold confirmUndatums; dsimp only; split
    · next h => simp only [undatumAll_protection] at h; simp [h]
    · next h => simp only [undatumAll_protection] at h; simp [if_neg h]
  have first (u : State) : (firstConfirm u).protection = { u.protection with state := .undatumed, chainClosed := true } := rfl
  have swapped : (swapBanks s).protection = s.protection := rfl
  refine ⟨fun noTables => ?_, fun tables => ?_⟩
  · unfold confirmWrites
    simp only [if_pos noTables]
    (repeat' split) <;> simp [shaft, undatums, first, swapped]
  · unfold confirmWrites
    simp only [if_neg tables]
    by_cases named : s.tables.shaft.state = .validated ∨ s.tables.drum.state = .validated
    · simp only [named, if_true, true_and]
      split <;> simp [shaft, undatums, swapped]
    · have notShaft : ¬s.tables.shaft.state = .validated := fun h => named (.inl h)
      have notDrum : ¬s.tables.drum.state = .validated := fun h => named (.inr h)
      simp [notShaft, notDrum, swapped]

/-- A confirm of the PROFILE table alone swaps the banks, and at the first confirm opens the part (R31, R32). -/
theorem confirmWrites_of_neither {s : State} (neither : ¬(s.tables.shaft.state = .validated ∨ s.tables.drum.state = .validated)) :
    confirmWrites s = if s.protection.state = .noTables then firstConfirm (swapBanks s) else swapBanks s := by
  have notShaft : ¬s.tables.shaft.state = .validated := fun h => neither (.inl h)
  unfold confirmWrites
  dsimp only
  rw [if_neg notShaft, if_neg neither]

theorem restarted_protection (s : State) :
    (restarted s).protection
      = { s.protection with
          firstCause := none, causes := 0, echo := none, driveSilent := false, state := .undatumed, chainClosed := true } := by
  simp [restarted, restartWrites]

/-! ### CHAIN and ARMED (R129, R131) -/

theorem ChainFollowsState.of_protection {s t : State} (state : t.protection.state = s.protection.state)
    (chain : t.protection.chainClosed = s.protection.chainClosed) (h : ChainFollowsState s) : ChainFollowsState t := by
  rw [ChainFollowsState, state, chain]; exact h

theorem ChainFollowsState.reportCause {s : State} (c : Cause) (h : ChainFollowsState s) :
    ChainFollowsState (reportCause c s) := by
  obtain ⟨-, same⟩ | ⟨-, trips⟩ | ⟨-, added⟩ := reportCause_cases c s
  · rwa [same]
  · rw [trips, ChainFollowsState, protectiveTrip_protection]; simp
  · rw [added]; exact h

/-- The operations keep CHAIN to the state: those that enter or leave UNDATUMED and ARMED switch it with them. -/
theorem Reaches.chainFollowsState {s t : State} (h : Reaches 4 s t) (inv : ChainFollowsState s) : ChainFollowsState t := by
  induction h with
  | refl => exact inv
  | trans _ _ first second => exact second (first inv)
  | reportCause c s => exact inv.reportCause c
  | armIfDatumed s =>
    obtain same | ⟨state, -, armed⟩ := armIfDatumed_protection s
    · exact inv.of_protection (by rw [same]) (by rw [same])
    · rw [ChainFollowsState, armed]; simpa [ChainFollowsState, state] using inv
  | resetTrip s =>
    obtain ⟨-, reset⟩ | ⟨-, -, reset⟩ | ⟨-, -, reset⟩ := resetTrip_cases s <;>
      simp [ChainFollowsState, reset, chainClosedOf, clearedTo]
  | restart s => rw [ChainFollowsState, restarted_protection]; simp
  | confirm s =>
    obtain ⟨first, later⟩ := confirmWrites_protection s
    by_cases state : s.protection.state = .noTables
    · rw [ChainFollowsState, first state]; simp
    · rw [ChainFollowsState, later state]
      dsimp only
      rw [show s.protection.chainClosed = true ↔ _ from inv]
      split
      · next armed => simp [armed.2]
      · rfl
  | nrst s => simp [ChainFollowsState, resetPart, State.reset]
  | completePlan c _ _ _ _ _ _ before => simpa [ChainFollowsState] using before inv
  | _ => simpa [ChainFollowsState] using inv

/-! ### Datum of the three trackers (R131) -/

theorem allDatumed_iff (s : State) : allDatumed s = true ↔ ∀ c, (tracker c s).datumed = true := by
  simp only [allDatumed, Bool.and_eq_true]
  constructor
  · rintro ⟨⟨skip, cage⟩, counterweight⟩ c
    cases c
    exacts [skip, cage, counterweight]
  · exact fun all => ⟨⟨all .skip, all .cage⟩, all .counterweight⟩

theorem allDatumed_congr {s t : State} (same : t.trackers = s.trackers) : allDatumed t = allDatumed s := by
  simp only [allDatumed, same]

theorem ArmedIsDatumed.of_same {s t : State} (state : t.protection.state = s.protection.state)
    (trackers : t.trackers = s.trackers) (h : ArmedIsDatumed s) : ArmedIsDatumed t := by
  rw [ArmedIsDatumed, state, allDatumed_congr trackers]; exact h

theorem allDatumed_setTracker {c : Conveyance} {t : Tracker} {s : State}
    (keeps : (tracker c s).datumed = true → t.datumed = true) (h : allDatumed s = true) :
    allDatumed (setTracker c t s) = true := by
  rw [allDatumed_iff] at h ⊢
  intro e
  by_cases same : e = c
  · subst same; simpa using keeps (h e)
  · rw [tracker_setTracker_other t s same]; exact h e

/-- The operations keep ARMED to three DATUMED trackers: a tracker loses datum only where the state leaves ARMED. -/
theorem Reaches.armedIsDatumed {s t : State} (h : Reaches 4 s t) (inv : ArmedIsDatumed s) : ArmedIsDatumed t := by
  have away {u : State} (state : u.protection.state ≠ .armed) : ArmedIsDatumed u := fun armed => absurd armed state
  induction h with
  | refl => exact inv
  | trans _ _ first second => exact second (first inv)
  | reportCause c s =>
    obtain ⟨-, same⟩ | ⟨-, trips⟩ | ⟨-, added⟩ := reportCause_cases c s
    · rwa [same]
    · exact away (by rw [trips, protectiveTrip_protection]; simp)
    · rw [added]; exact inv
  | setTracker c t s keeps => exact fun armed => allDatumed_setTracker keeps (inv armed)
  | armIfDatumed s =>
    obtain same | ⟨-, datumed, -⟩ := armIfDatumed_protection s
    · exact inv.of_same (by rw [same]) (by simp)
    · exact fun _ => (allDatumed_congr (by simp)).trans datumed
  | resetTrip s =>
    obtain ⟨-, reset⟩ | ⟨-, -, reset⟩ | ⟨-, datumed, reset⟩ := resetTrip_cases s
    · exact away (by simp [reset, chainClosedOf, clearedTo])
    · exact away (by simp [reset, chainClosedOf, clearedTo])
    · exact fun _ => (allDatumed_congr (by simp [reset, chainClosedOf, clearedTo])).trans datumed
  | restart s => exact away (by rw [restarted_protection]; simp)
  | confirm s =>
    obtain ⟨first, later⟩ := confirmWrites_protection s
    by_cases state : s.protection.state = .noTables
    · exact away (by rw [first state]; simp)
    · intro armed
      rw [later state] at armed
      dsimp only at armed
      split at armed
      · cases armed
      · next kept =>
        have neither : ¬(s.tables.shaft.state = .validated ∨ s.tables.drum.state = .validated) := fun h => kept ⟨h, armed⟩
        have trackers : (confirmWrites s).trackers = s.trackers := by
          rw [confirmWrites_of_neither neither, if_neg state]; rfl
        exact (allDatumed_congr trackers).trans (inv armed)
  | nrst s => exact away (by simp [resetPart, State.reset])
  | completePlan c _ _ _ _ _ _ before => exact (before inv).of_same (by simp) (by simp)
  | _ => exact inv.of_same (by simp) (by simp)

/-- Settles O10: CHAIN is switched with the state, and ARMED is entered on three DATUMED trackers and left where one
loses datum. -/
theorem chainAndArmedKeepToTheState : Obligations.ChainAndArmedKeepToTheState :=
  ⟨fun _ _ => step_keeps (fun _ _ h => h) fun _ _ => Reaches.chainFollowsState,
    fun _ _ => step_keeps (fun _ _ h => h) fun _ _ => Reaches.armedIsDatumed⟩

/-! ### The causes (R138, R142) -/

theorem CausesFollowState.of_same {s t : State} (state : t.protection.state = s.protection.state)
    (first : t.protection.firstCause = s.protection.firstCause) (causes : t.protection.causes = s.protection.causes)
    (h : CausesFollowState s) : CausesFollowState t := by
  unfold CausesFollowState causePresent at h ⊢
  rw [state, first, causes]; exact h

theorem causePresent_addCause (c d : Cause) (s : State) :
    causePresent d (addCause c s) = (causePresent d s || decide (d = c)) := by
  simp [causePresent, addCause, causeBit_getLsbD]

/-- Outside TRIPPED there is no cause. -/
theorem causesFollowState_of_none {s : State} (state : s.protection.state ≠ .tripped)
    (first : s.protection.firstCause = none) (causes : s.protection.causes = 0) : CausesFollowState s := by
  rw [CausesFollowState, if_neg state]; exact ⟨first, causes⟩

theorem CausesFollowState.none {s : State} (h : CausesFollowState s) (state : s.protection.state ≠ .tripped) :
    s.protection.firstCause = none ∧ s.protection.causes = 0 := by
  rwa [CausesFollowState, if_neg state] at h

theorem CausesFollowState.reportCause {s : State} (c : Cause) (h : CausesFollowState s) :
    CausesFollowState (reportCause c s) := by
  obtain ⟨-, same⟩ | ⟨-, trips⟩ | ⟨tripped, added⟩ := reportCause_cases c s
  · rwa [same]
  · rw [trips]
    simp [CausesFollowState, causePresent, protectiveTrip_protection, causeBit_getLsbD]
  · rw [CausesFollowState, if_pos tripped] at h
    have kept : (addCause c s).protection.state = .tripped := tripped
    have first : (addCause c s).protection.firstCause = s.protection.firstCause := rfl
    rw [added, CausesFollowState, if_pos kept, first]
    split at h
    · simp [causePresent_addCause, h]
    · exact h.elim

/-- The operations keep the causes to TRIPPED: a protective trip brings the first with its set, a cause reported later only
adds to it, and a reset and a restart leave none. -/
theorem Reaches.causesFollowState {s t : State} (h : Reaches 4 s t) (inv : CausesFollowState s) : CausesFollowState t := by
  induction h with
  | refl => exact inv
  | trans _ _ first second => exact second (first inv)
  | reportCause c s => exact inv.reportCause c
  | armIfDatumed s =>
    obtain same | ⟨state, -, armed⟩ := armIfDatumed_protection s
    · exact inv.of_same (by rw [same]) (by rw [same]) (by rw [same])
    · obtain ⟨first, causes⟩ := inv.none (by simp [state])
      exact causesFollowState_of_none (by simp [armed]) (by rw [armed]; exact first) (by rw [armed]; exact causes)
  | resetTrip s =>
    obtain ⟨-, reset⟩ | ⟨-, -, reset⟩ | ⟨-, -, reset⟩ := resetTrip_cases s <;> rw [reset] <;>
      exact causesFollowState_of_none (by simp [chainClosedOf, clearedTo]) (by simp [chainClosedOf, clearedTo])
        (by simp [chainClosedOf, clearedTo])
  | restart s =>
    exact causesFollowState_of_none (by simp [restarted_protection]) (by simp [restarted_protection])
      (by simp [restarted_protection])
  | confirm s =>
    obtain ⟨first, later⟩ := confirmWrites_protection s
    by_cases state : s.protection.state = .noTables
    · obtain ⟨none, causes⟩ := inv.none (by simp [state])
      exact causesFollowState_of_none (by simp [first state]) (by simp [first state, none]) (by simp [first state, causes])
    · have kept : ((confirmWrites s).protection.state = .tripped ↔ s.protection.state = .tripped)
          ∧ (confirmWrites s).protection.firstCause = s.protection.firstCause
          ∧ (confirmWrites s).protection.causes = s.protection.causes := by
        rw [later state]; dsimp only
        split
        · next armed => simp [armed.2]
        · simp
      simp only [CausesFollowState, causePresent, kept] at inv ⊢
      exact inv
  | nrst s => exact causesFollowState_of_none (by simp [resetPart, State.reset]) rfl rfl
  | completePlan c _ _ _ _ _ _ before => exact (before inv).of_same (by simp) (by simp) (by simp)
  | _ => exact inv.of_same (by simp) (by simp) (by simp)

/-- Settles O13: a protective trip brings the first cause with its set, and the set is emptied where TRIPPED is left. -/
theorem causesKeepToTheState : Obligations.CausesKeepToTheState :=
  fun _ _ => step_keeps (fun _ _ h => h) fun _ _ => Reaches.causesFollowState

end Sys2Proof.Machine

/-! PROOF. The state after reset (R10 to R189), and the form of the pipeline (R72, R74, R90). -/

namespace Sys2Proof.Machine

/-! ### The state after reset -/

/-- Settles O9: every block's reset values, one invariant at a time. -/
theorem resetMeetsWhatStands : Obligations.ResetMeetsWhatStands := by
  have queue : State.reset.guard.queue = [] := rfl
  have watched : State.reset.zones.watchList = [] := rfl
  refine ⟨by simp [ChainFollowsState, State.reset], by simp [ArmedIsDatumed, State.reset], rfl, fun _ => ⟨rfl, rfl⟩,
    by simp [WaitingHasActive, State.reset], ⟨by simp [State.reset], by simp [State.reset]⟩, ⟨rfl, rfl⟩,
    ⟨by unfold DownQueueBounded; decide, by unfold UpQueueBounded; decide, by unfold WatchListBounded; decide,
      by unfold HistoryBounded; decide, by unfold CountersBounded; decide⟩, ⟨by simp [State.reset], by simp [State.reset]⟩,
    ⟨fun _ => rfl, fun _ => rfl, fun _ => rfl⟩, by unfold BanksTogether; decide,
    by unfold RecordsFitTables; decide, ⟨by decide, rfl, rfl, rfl⟩,
    ⟨by simp [State.reset], by simp [State.reset]⟩, by simp [WatchedZonesBusy, watched],
    by simp [ReferencesMarked, queue]⟩

/-! ### What a confirm and a restart leave alone -/

@[simp] theorem confirmWrites_frame (s : State) :
    (confirmWrites s).key = s.key ∧ (confirmWrites s).line = s.line ∧ (confirmWrites s).pipeline = s.pipeline
      ∧ (confirmWrites s).envelope = s.envelope ∧ (confirmWrites s).guard = s.guard
      ∧ (confirmWrites s).protection.image = s.protection.image ∧ (confirmWrites s).drums.disagree = s.drums.disagree
      ∧ (confirmWrites s).drums.hold = s.drums.hold ∧ (confirmWrites s).drums.drift = s.drums.drift := by
  unfold confirmWrites confirmUndatums firstConfirm
  simp only
  (repeat' split) <;> simp [swapBanks, confirmShaft, undatumAll]

@[simp] theorem restarted_frame (s : State) :
    (restarted s).key = s.key ∧ (restarted s).tables = s.tables ∧ (restarted s).drums = s.drums
      ∧ (restarted s).envelope = s.envelope ∧ (restarted s).protection.image = s.protection.image
      ∧ (restarted s).pipeline.active = s.pipeline.active ∧ (restarted s).pipeline.waiting = s.pipeline.waiting := by
  simp [restarted, restartWrites]

/-! ### The slots after each operation -/

/-- A change of state is the active trip's alone. -/
theorem enterState_slots (new : TripState) (s : State) :
    (enterState new s).pipeline.active = s.pipeline.active.map (fun t => { t with state := new })
      ∧ (enterState new s).pipeline.waiting = s.pipeline.waiting := by
  cases active : s.pipeline.active with
  | none => simp [enterState, active]
  | some t => simp [enterState_pipeline new s active]

/-- Entering STOPPING empties the WAITING slot, and the ACTIVE slot holds none or the trip in STOPPING (R86). -/
theorem enterStopping_slots {trip : Trip} (cause : TripCause) {s : State} (active : s.pipeline.active = some trip) :
    (enterStopping cause s).pipeline.waiting = none
      ∧ ((enterStopping cause s).pipeline.active = none
        ∨ (enterStopping cause s).pipeline.active = some { trip with cause := some cause, state := .stopping }) := by
  unfold enterStopping
  simp only [active]
  split
  · simp
  · simp [enterState_slots, setActive]

/-- A promotion leaves no trip, or the one that waited in WAITING (R84). -/
theorem promote_slots (s : State) :
    (promote s).pipeline.waiting = none
      ∧ ((promote s).pipeline.active = none ∨ s.pipeline.waiting = none ∧ (promote s).pipeline.active = s.pipeline.active
        ∨ ∃ trip, s.pipeline.waiting = some trip ∧ (promote s).pipeline.active = some (rebased trip s)) := by
  refine ⟨promote_waiting s, ?_⟩
  cases waiting : s.pipeline.waiting with
  | none => exact .inr (.inl ⟨rfl, by simp [promote, waiting]⟩)
  | some trip =>
    unfold promote
    simp only [waiting]
    split
    · exact .inl (by simp)
    · split
      · exact .inl (by simp)
      · exact .inr (.inr ⟨trip, rfl, rfl⟩)

/-- A completed plan leaves the active trip in its state (R92). -/
theorem datumMidTrip_state (c : Conveyance) (s : State) :
    (datumMidTrip c s).pipeline.active.map (·.state) = s.pipeline.active.map (·.state) := by
  unfold datumMidTrip
  split
  · rfl
  · split <;> simp_all [setActive]

/-- A reported cause leaves the pipeline as it is, or is a protective trip, which empties it (R90, R135). -/
theorem reportCause_slots (c : Cause) (s : State) :
    ((reportCause c s).pipeline = s.pipeline ∧ (reportCause c s).protection.state = s.protection.state)
      ∨ (TakesCauses s ∧ (reportCause c s).protection.state = .tripped ∧ (reportCause c s).pipeline.active = none
        ∧ (reportCause c s).pipeline.waiting = none) := by
  obtain ⟨-, same⟩ | ⟨takes, trips⟩ | ⟨-, added⟩ := reportCause_cases c s
  · exact .inl (by rw [same]; exact ⟨rfl, rfl⟩)
  · exact .inr (by rw [trips]; exact ⟨takes, by simp [protectiveTrip_protection], by simp [protectiveTrip]⟩)
  · exact .inl (by rw [added]; exact ⟨rfl, rfl⟩)

/-- Outside the first confirm, a confirm neither leaves nor enters TRIPPED (R32). -/
theorem confirmWrites_stopped (s : State) (stopped : (confirmWrites s).protection.state = .noTables
    ∨ (confirmWrites s).protection.state = .tripped) : s.protection.state = .noTables ∨ s.protection.state = .tripped := by
  obtain ⟨-, later⟩ := confirmWrites_protection s
  by_cases state : s.protection.state = .noTables
  · exact .inl state
  · rw [later state] at stopped
    dsimp only at stopped
    split at stopped
    · simp at stopped
    · exact stopped

/-! ### The form of the pipeline -/

theorem StoppedIsEmpty.of_same {s t : State} (state : t.protection.state = s.protection.state)
    (active : t.pipeline.active = s.pipeline.active) (waiting : t.pipeline.waiting = s.pipeline.waiting)
    (h : StoppedIsEmpty s) : StoppedIsEmpty t := by
  unfold StoppedIsEmpty; rw [state, active, waiting]; exact h

/-- With both slots empty, the pipeline may stand in any state. -/
theorem stoppedIsEmpty_of_empty {s : State} (active : s.pipeline.active = none) (waiting : s.pipeline.waiting = none) :
    StoppedIsEmpty s := fun _ => ⟨active, waiting⟩

theorem stoppedIsEmpty_of_takes {s : State} (takes : TakesCauses s) : StoppedIsEmpty s :=
  fun stopped => by simp [TakesCauses] at takes; obtain h | h := stopped <;> simp [h] at takes

/-- With a trip in the ACTIVE slot the part stands in UNDATUMED or ARMED. -/
theorem StoppedIsEmpty.takes {s : State} (h : StoppedIsEmpty s) (active : s.pipeline.active ≠ none) : TakesCauses s := by
  cases state : s.protection.state
  case noTables => exact absurd (h (.inl state)).1 active
  case tripped => exact absurd (h (.inr state)).1 active
  case undatumed => exact .inl state
  case armed => exact .inr state

/-- An operation that leaves the supervisor state keeps the pipeline empty outside UNDATUMED and ARMED, if it works on an
active trip alone. -/
theorem StoppedIsEmpty.of_active {s t : State} (h : StoppedIsEmpty s) (state : t.protection.state = s.protection.state)
    (active : s.pipeline.active ≠ none) : StoppedIsEmpty t := by
  have takes := h.takes active
  exact stoppedIsEmpty_of_takes (by unfold TakesCauses at takes ⊢; rwa [state])

theorem Reaches.stoppedIsEmpty {k : Nat} {s t : State} (h : Reaches k s t) (inv : StoppedIsEmpty s) : StoppedIsEmpty t := by
  induction h with
  | refl => exact inv
  | trans _ _ first second => exact second (first inv)
  | reportCause c s =>
    obtain ⟨pipeline, state⟩ | ⟨-, -, active, waiting⟩ := reportCause_slots c s
    · exact inv.of_same state (by rw [pipeline]) (by rw [pipeline])
    · exact stoppedIsEmpty_of_empty active waiting
  | start _ _ active | creep _ _ active | settle _ _ active | enterStopping _ _ _ active =>
    exact inv.of_active (by simp) (by simp [active])
  | finishBoth => exact stoppedIsEmpty_of_empty (by simp) (by simp)
  | promote o c s =>
    refine fun stopped => ⟨?_, by simp⟩
    have empty := inv (by simpa using stopped)
    obtain none | ⟨-, same⟩ | ⟨trip, waiting, -⟩ := (promote_slots (finishActive o c s)).2
    · exact none
    · rw [same]; simp
    · simp [empty.2] at waiting
  | @completePlan c s u _ _ _ _ _ _ before =>
    refine fun stopped => ⟨?_, ?_⟩
    · have empty := (before inv (by simpa using stopped)).1
      simpa [empty] using datumMidTrip_state c u
    · simpa using (before inv (by simpa using stopped)).2
  | armIfDatumed s =>
    obtain same | ⟨-, -, armed⟩ := armIfDatumed_protection s
    · exact inv.of_same (by rw [same]) (by simp) (by simp)
    · exact stoppedIsEmpty_of_takes (.inr (by simp [armed]))
  | finishWaiting o c s =>
    exact fun stopped => ⟨by simpa using (inv (by simpa using stopped)).1, by simp⟩
  | placeActive trip s _ takes => exact stoppedIsEmpty_of_takes takes
  | placeWaiting trip s _ takes => exact stoppedIsEmpty_of_takes takes
  | resetTrip s _ tripped =>
    obtain ⟨active, waiting⟩ := inv (.inr tripped)
    obtain ⟨-, reset⟩ | ⟨-, -, reset⟩ | ⟨-, -, reset⟩ := resetTrip_cases s <;> rw [reset] <;>
      exact stoppedIsEmpty_of_empty (by simpa [chainClosedOf, clearedTo]) (by simpa [chainClosedOf, clearedTo])
  | restart s => exact stoppedIsEmpty_of_takes (.inl (by simp [restarted_protection]))
  | confirm s =>
    exact fun stopped => by simpa using inv (confirmWrites_stopped s stopped)
  | nrst => exact stoppedIsEmpty_of_empty rfl rfl
  | _ => exact inv.of_same (by simp) (by simp) (by simp)

theorem WaitingHasActive.of_same {s t : State} (active : t.pipeline.active = s.pipeline.active)
    (waiting : t.pipeline.waiting = s.pipeline.waiting) (h : WaitingHasActive s) : WaitingHasActive t := by
  unfold WaitingHasActive; rw [active, waiting]; exact h

theorem waitingHasActive_of_none {s : State} (waiting : s.pipeline.waiting = none) : WaitingHasActive s := by
  simp [WaitingHasActive, waiting]

theorem Reaches.waitingHasActive {k : Nat} {s t : State} (h : Reaches k s t) (inv : WaitingHasActive s) :
    WaitingHasActive t := by
  induction h with
  | refl => exact inv
  | trans _ _ first second => exact second (first inv)
  | reportCause c s =>
    obtain ⟨pipeline, -⟩ | ⟨-, -, -, waiting⟩ := reportCause_slots c s
    · exact inv.of_same (by rw [pipeline]) (by rw [pipeline])
    · exact waitingHasActive_of_none waiting
  | start s _ active | creep s _ active | settle s _ active => exact fun _ => by simp [enterState_slots, active]
  | enterStopping cause s _ active => exact waitingHasActive_of_none (enterStopping_slots cause active).1
  | finishBoth | promote | finishWaiting => exact waitingHasActive_of_none (by simp)
  | completePlan c _ _ _ _ _ _ before =>
    intro waits
    have active := before inv (by simpa using waits)
    rw [← Option.isSome_map (f := (·.state))] at active ⊢
    rwa [datumMidTrip_state]
  | placeActive => exact fun _ => rfl
  | placeWaiting _ _ _ _ behind => exact fun _ => behind
  | resetTrip s =>
    obtain ⟨-, reset⟩ | ⟨-, -, reset⟩ | ⟨-, -, reset⟩ := resetTrip_cases s <;> rw [reset] <;>
      exact inv.of_same (by simp [chainClosedOf, clearedTo]) (by simp [chainClosedOf, clearedTo])
  | nrst => exact waitingHasActive_of_none rfl
  | _ => exact inv.of_same (by simp) (by simp)

theorem SlotsHoldTheirStates.of_same {s t : State} (active : t.pipeline.active = s.pipeline.active)
    (waiting : t.pipeline.waiting = s.pipeline.waiting) (h : SlotsHoldTheirStates s) : SlotsHoldTheirStates t := by
  unfold SlotsHoldTheirStates; rw [active, waiting]; exact h

/-- A change of the active trip to another of its states. -/
theorem SlotsHoldTheirStates.enterState {new : TripState} {s : State} (h : SlotsHoldTheirStates s) (state : new ≠ .queued) :
    SlotsHoldTheirStates (enterState new s) := by
  obtain ⟨active, waiting⟩ := enterState_slots new s
  refine ⟨fun t here => ?_, fun t here => h.2 t (by rwa [waiting] at here)⟩
  rw [active, Option.map_eq_some_iff] at here
  obtain ⟨trip, -, rfl⟩ := here
  exact state

theorem slotsHoldTheirStates_of_empty {s : State} (active : s.pipeline.active = none) (waiting : s.pipeline.waiting = none) :
    SlotsHoldTheirStates s := by simp [SlotsHoldTheirStates, active, waiting]

theorem Reaches.slotsHoldTheirStates {k : Nat} {s t : State} (h : Reaches k s t) (inv : SlotsHoldTheirStates s) :
    SlotsHoldTheirStates t := by
  induction h with
  | refl => exact inv
  | trans _ _ first second => exact second (first inv)
  | reportCause c s =>
    obtain ⟨pipeline, -⟩ | ⟨-, -, active, waiting⟩ := reportCause_slots c s
    · exact inv.of_same (by rw [pipeline]) (by rw [pipeline])
    · exact slotsHoldTheirStates_of_empty active waiting
  | start s => exact (inv.enterState (new := .running) (by simp)).of_same (by simp) (by simp)
  | creep s => exact inv.enterState (by simp)
  | settle s => exact inv.enterState (by simp)
  | enterStopping cause s _ active =>
    obtain ⟨waiting, none | stopping⟩ := enterStopping_slots cause active
    · exact slotsHoldTheirStates_of_empty none waiting
    · refine ⟨fun t here => ?_, by simp [waiting]⟩
      rw [stopping] at here; cases here; simp
  | finishBoth => exact slotsHoldTheirStates_of_empty (by simp) (by simp)
  | promote o c s =>
    refine ⟨fun t here => ?_, by simp⟩
    obtain none | ⟨-, same⟩ | ⟨trip, -, placed⟩ := (promote_slots (finishActive o c s)).2
    · simp [none] at here
    · simp [same] at here
    · rw [placed] at here; cases here; simp [rebased, planned]
  | @completePlan c s u _ _ _ _ _ _ before =>
    refine ⟨fun t here => ?_, by simpa using (before inv).2⟩
    have state := datumMidTrip_state c u
    rw [here, eq_comm, Option.map_some, Option.map_eq_some_iff] at state
    obtain ⟨trip, active, same⟩ := state
    rw [← same]; exact (before inv).1 trip active
  | finishWaiting => exact ⟨by simpa using inv.1, by simp⟩
  | placeActive trip s _ _ _ state =>
    exact ⟨fun t here => by cases here; simp [state], inv.2⟩
  | placeWaiting trip s _ _ _ state =>
    exact ⟨inv.1, fun t here => by cases here; exact state⟩
  | resetTrip s =>
    obtain ⟨-, reset⟩ | ⟨-, -, reset⟩ | ⟨-, -, reset⟩ := resetTrip_cases s <;> rw [reset] <;>
      exact inv.of_same (by simp [chainClosedOf, clearedTo]) (by simp [chainClosedOf, clearedTo])
  | nrst => exact slotsHoldTheirStates_of_empty rfl rfl
  | _ => exact inv.of_same (by simp) (by simp)

/-- Settles O12: trips are placed in UNDATUMED and ARMED alone, a protective trip empties both slots, and a finish of the
active trip discards or promotes the one behind it. -/
theorem pipelineKeepsItsForm : Obligations.PipelineKeepsItsForm :=
  fun _ _ => step_keeps (Inv := fun s => StoppedIsEmpty s ∧ WaitingHasActive s ∧ SlotsHoldTheirStates s)
    (fun _ _ h => h) fun _ _ reached ⟨stopped, waiting, slots⟩ =>
    ⟨reached.stoppedIsEmpty stopped, reached.waitingHasActive waiting, reached.slotsHoldTheirStates slots⟩

end Sys2Proof.Machine

/-! PROOF. No hold stands in the way of a trip of the pipeline (R78, R157). -/

namespace Sys2Proof.Machine

/-! ### The active rows under the commands of the Table Store -/

@[simp] theorem stored_active (b : Bank) (n : Nat) (r : Row) : (b.stored n r).active = b.active := by
  unfold Bank.stored; split <;> rfl

@[simp] theorem startedIf_active (named : Bool) (b : Bank) : (b.startedIf named).active = b.active := by
  unfold Bank.startedIf; split <;> rfl

@[simp] theorem toLoading_active (b : Bank) : b.toLoading.active = b.active := rfl

@[simp] theorem toValidated_active (b : Bank) : b.toValidated.active = b.active := by
  unfold Bank.toValidated; split <;> rfl

theorem storeRow_active (t b : TableId) (n : Nat) (r : Row) (s : State) :
    (bank b (setBank t ((bank t s).stored n r) s)).active = (bank b s).active := by
  cases t <;> cases b <;> simp [bank, setBank]

theorem startValidation_active (named : TableSet) (b : TableId) (s : State) :
    (bank b (startValidation named s)).active = (bank b s).active := by
  cases b <;> simp [bank, startValidation, setResult]

theorem completeValidation_active (b : TableId) (s : State) :
    (bank b (completeValidation s)).active = (bank b s).active := by
  unfold completeValidation; split
  · dsimp only; split <;> cases b <;> simp [bank, setResult, closeCommitment]
  · rfl

theorem cancel_active (r : ValidationResult) (b : TableId) (s : State) :
    (bank b (setResult r (closeCommitment s))).active = (bank b s).active := by
  cases b <;> rfl

/-! ### Held zones and datums between two states -/

/-- No zone newly held and no datum lost, under the same SHAFT rows. -/
structure NoNewObstacle (s t : State) : Prop where
  rows : t.tables.shaft.active = s.tables.shaft.active
  holders : ∀ i, (holderOf i t).isSome = true → (holderOf i s).isSome = true
  datums : ∀ c, (tracker c s).datumed = true → (tracker c t).datumed = true

/-- A trip that claims no more zones, under no new obstacle, still meets no hold. -/
theorem NoHoldAgainst.mono {s t : State} {old new : Trip} (h : NoHoldAgainst old s) (less : NoNewObstacle s t)
    (swept : ∀ i, i ∈ new.swept → (holderOf i t).isSome = true → i ∈ old.swept) (moves : new.movesAll = old.movesAll) :
    NoHoldAgainst new t := by
  unfold NoHoldAgainst at h ⊢
  rw [heldAgainst_eq_nil_iff] at h ⊢
  rintro ⟨n, z, holder, at_n, held, way⟩
  obtain ⟨holder', held'⟩ := Option.isSome_iff_exists.mp (less.holders n (by simp [held]))
  refine h ⟨n, z, holder', by simpa only [zoneList, less.rows] using at_n, held', ?_⟩
  obtain claimed | ⟨moved, undatumed⟩ := way
  · exact .inl (swept n claimed (by simp [held]))
  · refine .inr ⟨moves ▸ moved, ?_⟩
    cases datumed : (tracker z.compartment s).datumed with
    | false => rfl
    | true => rw [less.datums _ datumed] at undatumed; exact absurd undatumed (by simp)

/-- The holds stand clear of every trip that stood in the pipeline, if no obstacle is new. -/
theorem HoldsStandClear.mono {s t : State} (h : HoldsStandClear s) (less : NoNewObstacle s t)
    (active : ∀ new, t.pipeline.active = some new →
      ∃ old, s.pipeline.active = some old ∧ new.swept = old.swept ∧ new.movesAll = old.movesAll)
    (waiting : ∀ new, t.pipeline.waiting = some new → s.pipeline.waiting = some new) : HoldsStandClear t := by
  refine ⟨fun new here => ?_, fun new here => (h.2 new (waiting new here)).mono less (fun i claimed _ => claimed) rfl⟩
  obtain ⟨old, there, swept, moves⟩ := active new here
  exact (h.1 old there).mono less (fun i claimed _ => swept ▸ claimed) moves

theorem NoNewObstacle.of_same {s t : State} (rows : t.tables.shaft.active = s.tables.shaft.active)
    (holders : t.zones.holders = s.zones.holders) (trackers : t.trackers = s.trackers) : NoNewObstacle s t where
  rows := rows
  holders i := by simp only [holderOf, holders]; exact id
  datums c := by rw [tracker_congr c trackers]; exact id

theorem HoldsStandClear.of_same {s t : State} (rows : t.tables.shaft.active = s.tables.shaft.active)
    (holders : t.zones.holders = s.zones.holders) (trackers : t.trackers = s.trackers)
    (active : t.pipeline.active = s.pipeline.active) (waiting : t.pipeline.waiting = s.pipeline.waiting)
    (h : HoldsStandClear s) : HoldsStandClear t :=
  h.mono (.of_same rows holders trackers) (fun new here => ⟨new, active ▸ here, rfl, rfl⟩) fun _ here => waiting ▸ here

/-- With no trip there is nothing in the way of which a hold could stand. -/
theorem holdsStandClear_of_empty {s : State} (active : s.pipeline.active = none) (waiting : s.pipeline.waiting = none) :
    HoldsStandClear s := by simp [HoldsStandClear, active, waiting]

/-! ### The operations that write a trip, a holder or a datum -/

theorem HoldsStandClear.enterState {new : TripState} {s : State} (h : HoldsStandClear s) :
    HoldsStandClear (enterState new s) := by
  obtain ⟨active, waiting⟩ := enterState_slots new s
  refine h.mono (.of_same (by simp) (by simp) (by simp)) (fun t here => ?_) fun t here => waiting ▸ here
  rw [active, Option.map_eq_some_iff] at here
  obtain ⟨trip, there, rfl⟩ := here
  exact ⟨trip, there, rfl, rfl⟩

/-- A promoted trip meets no hold, or it is DISCARDED (R84). -/
theorem promote_clear {s : State} {trip : Trip} (empty : s.pipeline.active = none)
    (here : (promote s).pipeline.active = some trip) : NoHoldAgainst trip (promote s) := by
  unfold promote at here ⊢
  split at here
  · simp [empty] at here
  · next w waiting =>
    simp only at here ⊢
    split at here
    · simp at here
    · next clear =>
      split at here
      · simp at here
      · next outside =>
        obtain rfl : rebased w s = trip := by injection here
        rw [if_neg clear, if_neg outside]
        exact not_not.mp clear

/-- The zones that a datum adds to a plan lie in the compartment of the conveyance that gained it (R92). -/
theorem datumMidTrip_swept {c : Conveyance} {s : State} {new : Trip} (here : (datumMidTrip c s).pipeline.active = some new) :
    ∃ old, s.pipeline.active = some old ∧ new.movesAll = old.movesAll
      ∧ ∀ i ∈ new.swept, i ∈ old.swept
        ∨ inMovingSet old.movesAll c = true ∧ ∃ z, (zoneList s)[i]? = some z ∧ z.compartment = c := by
  unfold datumMidTrip at here
  split at here
  · next none => simp [none] at here
  · next old active =>
    split at here
    · next moved =>
      obtain rfl := Option.some.inj here
      refine ⟨old, active, rfl, fun i mem => ?_⟩
      simp only [joinZones, List.mem_filter, Bool.or_eq_true, decide_eq_true_eq] at mem
      obtain ⟨-, claimed | added⟩ := mem
      · exact .inl claimed
      · refine .inr ⟨moved.1, ?_⟩
        simp only [sweptSet, zonesWhere, List.mem_map, List.mem_filter] at added
        obtain ⟨⟨z, n⟩, ⟨at_n, claims⟩, rfl⟩ := added
        refine ⟨z, List.mem_zipIdx_iff_getElem?.mp at_n, by_contra fun other => ?_⟩
        have unplanned (v : Option Int) :
            ((PerConveyance.of fun _ => none : PerConveyance (Option Int)).set c v).get z.compartment = none := by
          rw [PerConveyance.get_set_other _ _ other]; cases z.compartment <;> rfl
        simp [claimsZone, unplanned] at claims
    · exact ⟨new, here, rfl, fun i mem => .inl mem⟩

theorem tripped_of_resetTrip {s : State} (h : StoppedIsEmpty s) (tripped : s.protection.state = .tripped) :
    (resetTrip s).pipeline.active = none ∧ (resetTrip s).pipeline.waiting = none := by
  obtain ⟨active, waiting⟩ := h (.inr tripped)
  obtain ⟨-, reset⟩ | ⟨-, -, reset⟩ | ⟨-, -, reset⟩ := resetTrip_cases s <;> rw [reset] <;>
    simp [chainClosedOf, clearedTo, active, waiting]

/-- A CLEAR zone exists, is claimed by no trip, and its conveyance is DATUMED (R147, R149). -/
theorem clear_zone {z : Nat} {s : State} (map : ZoneMapCurrent s) (clear : summaryOf z s = .clear) :
    z ∉ sweptOf s.pipeline.active ∧ z ∉ sweptOf s.pipeline.waiting
      ∧ ∃ row, (zoneList s)[z]? = some row ∧ (tracker row.compartment s).datumed = true := by
  obtain ⟨occupancy, active, waiting, -⟩ := map
  unfold summaryOf at clear
  dsimp only at clear
  split at clear
  · simp at clear
  next known =>
  split at clear
  · simp at clear
  split at clear
  · simp at clear
  next free =>
  split at clear
  · simp at clear
  next unclaimed =>
  refine ⟨active ▸ free, waiting ▸ unclaimed, ?_⟩
  unfold zoneOccupancy at known
  split at known
  · next row at_z =>
    refine ⟨row, at_z, by_contra fun undatumed => known ?_⟩
    have none : occupancyOf row.compartment s = .unknown := by
      unfold occupancyOf; simp [undatumed]
    rw [occupancy]
    cases compartment : row.compartment <;> rw [compartment] at none <;> exact none
  · exact absurd rfl known

theorem HoldsStandClear.setHolder {z : Nat} {origin : Byte} {s : State} (h : HoldsStandClear s) (map : ZoneMapCurrent s)
    (clear : summaryOf z s = .clear) : HoldsStandClear (setHolder z (some origin) s) := by
  obtain ⟨free, unclaimed, row, at_z, datumed⟩ := clear_zone map clear
  have kept {trip : Trip} (outside : z ∉ trip.swept) (before : NoHoldAgainst trip s) :
      NoHoldAgainst trip (Machine.setHolder z (some origin) s) := by
    unfold NoHoldAgainst at before ⊢
    rw [heldAgainst_eq_nil_iff] at before ⊢
    rintro ⟨n, here, holder, at_n, held, way⟩
    by_cases same : n = z
    · subst same
      obtain rfl : row = here := Option.some.inj (at_z.symm.trans at_n)
      obtain claimed | ⟨-, undatumed⟩ := way
      · exact outside claimed
      · exact absurd (datumed.symm.trans undatumed) (by simp)
    · have stands : holderOf n s = some holder := by
        rw [← held, holderOf, holderOf]
        exact congrArg Option.join (List.getElem?_set_ne (Ne.symm same)).symm
      exact before ⟨n, here, holder, at_n, stands, way⟩
  refine ⟨fun trip here => kept (fun mem => free ?_) (h.1 trip here), fun trip here => kept (fun mem => unclaimed ?_) (h.2 trip here)⟩
  · rw [show s.pipeline.active = some trip from here]; exact mem
  · rw [show s.pipeline.waiting = some trip from here]; exact mem

theorem holderOf_released (z i : Nat) (s : State) (held : (holderOf i (setHolder z none s)).isSome = true) :
    (holderOf i s).isSome = true := by
  simp only [holderOf, setHolder, List.getElem?_set] at held
  split at held
  · split at held <;> simp at held
  · exact held

theorem pipelineEmpty_iff {s : State} :
    pipelineEmpty s = true ↔ s.pipeline.active = none ∧ s.pipeline.waiting = none := by
  simp [pipelineEmpty]

/-! ### The invariant -/

/-- With the Zone Map current where a hold is taken, no operation brings a hold into the way of a trip. -/
theorem Reaches.holdsStandClear {s t : State} (h : Reaches 3 s t) (inv : StoppedIsEmpty s ∧ HoldsStandClear s) :
    StoppedIsEmpty t ∧ HoldsStandClear t := by
  refine ⟨h.stoppedIsEmpty inv.1, ?_⟩
  induction h with
  | refl => exact inv.2
  | trans first _ before after => exact after ⟨first.stoppedIsEmpty inv.1, before inv⟩
  | reportCause c s =>
    obtain ⟨pipeline, -⟩ | ⟨-, -, active, waiting⟩ := reportCause_slots c s
    · exact inv.2.of_same (reportCause_rows c .shaft s).1 (by simp) (by simp) (by rw [pipeline]) (by rw [pipeline])
    · exact holdsStandClear_of_empty active waiting
  | setTracker c t s keeps =>
    refine inv.2.mono ⟨by simp, fun i => ?_, fun d datumed => ?_⟩ (fun new here => ⟨new, by simpa using here, rfl, rfl⟩)
      fun _ here => by simpa using here
    · simp [holderOf]
    · by_cases same : d = c
      · subst same; simpa using keeps datumed
      · rwa [tracker_setTracker_other _ _ same]
  | setRecord i r s => exact inv.2.of_same rfl rfl rfl rfl rfl
  | start s => exact (inv.2.enterState (new := .running)).of_same (by simp) (by simp) (by simp) (by simp) (by simp)
  | creep s => exact inv.2.enterState
  | settle s => exact inv.2.enterState
  | enterStopping cause s _ active =>
    obtain ⟨waiting, none | stopping⟩ := enterStopping_slots cause active
    · exact holdsStandClear_of_empty none waiting
    · refine inv.2.mono (.of_same (by simp) (by simp) (by simp)) (fun new here => ?_) (by simp [waiting])
      rw [stopping] at here; cases here
      exact ⟨_, active, rfl, rfl⟩
  | finishBoth => exact holdsStandClear_of_empty (by simp) (by simp)
  | promote o c s => exact ⟨fun trip here => promote_clear (by simp) here, by simp⟩
  | @completePlan c s u _ undatumed _ holders rows active before =>
    have after := before inv
    have same : NoNewObstacle u (datumMidTrip c u) := .of_same (by simp) (by simp) (by simp)
    refine ⟨fun new here => ?_, fun trip here => ?_⟩
    · obtain ⟨old, there, moves, claimed⟩ := datumMidTrip_swept here
      refine (after.1 old there).mono same (fun i mem held => ?_) moves
      obtain already | ⟨moved, z, at_i, compartment⟩ := claimed i mem
      · exact already
      · have free := (heldAgainst_eq_nil_iff old s).mp (inv.2.1 old (active old there))
        obtain ⟨holder, held⟩ := Option.isSome_iff_exists.mp held
        refine absurd ⟨i, z, holder, by simpa only [zoneList, rows] using at_i, ?_, .inr ?_⟩ free
        · simpa [holderOf, holders] using held
        · rw [compartment]; exact ⟨moved, undatumed⟩
    · exact (after.2 trip (by simpa using here)).mono same (fun i claimed _ => claimed) rfl
  | abandon reason s =>
    exact inv.2.of_same (abandon_active reason .shaft s).1 (by simp) (by simp) (by simp) (by simp)
  | storeRow b n r s =>
    exact inv.2.of_same (storeRow_active b .shaft n r s) (by cases b <;> rfl) (by cases b <;> rfl) (by cases b <;> rfl)
      (by cases b <;> rfl)
  | startValidation named s =>
    exact inv.2.of_same (startValidation_active named .shaft s) (by simp) (by simp) (by simp) (by simp)
  | completeValidation s =>
    exact inv.2.of_same (completeValidation_active .shaft s) (by simp) (by simp) (by simp) (by simp)
  | cancel r s => exact inv.2.of_same rfl rfl rfl rfl rfl
  | finishWaiting o c s =>
    exact inv.2.mono (.of_same (by simp) (by simp) (by simp)) (fun new here => ⟨new, by simpa using here, rfl, rfl⟩) (by simp)
  | placeActive trip s _ _ _ _ clear => exact ⟨fun new here => by cases here; exact clear, inv.2.2⟩
  | placeWaiting trip s _ _ _ _ clear => exact ⟨inv.2.1, fun new here => by cases here; exact clear⟩
  | resetTrip s _ tripped =>
    obtain ⟨active, waiting⟩ := tripped_of_resetTrip inv.1 tripped
    exact holdsStandClear_of_empty active waiting
  | releaseZone z s =>
    exact inv.2.mono ⟨rfl, fun i => holderOf_released z i s, fun _ => id⟩ (fun new here => ⟨new, here, rfl, rfl⟩)
      fun _ here => here
  | restart s _ _ empty =>
    obtain ⟨active, waiting⟩ := pipelineEmpty_iff.mp empty
    exact holdsStandClear_of_empty (by simpa using active) (by simpa using waiting)
  | confirm s _ allows =>
    have empty : s.pipeline.active = none ∧ s.pipeline.waiting = none := by
      obtain noTables | empty := allows
      · exact inv.1 (.inl noTables)
      · exact pipelineEmpty_iff.mp empty
    exact holdsStandClear_of_empty (by simpa using empty.1) (by simpa using empty.2)
  | nrst => exact holdsStandClear_of_empty rfl rfl
  | holdZone z origin s _ clear current => exact inv.2.setHolder (current rfl) clear
  | _ => exact inv.2.of_same (by simp) (by simp) (by simp) (by simp) (by simp)

/-- Settles O18: a hold is taken on a CLEAR zone alone, a trip is placed where no hold stands against it, and a plan
completed by a datum gains zones of a compartment in which nothing was held. -/
theorem holdsStayOutOfTheWay : Obligations.HoldsStayOutOfTheWay := by
  intro s t map stopped clear run
  unfold step at run
  split at run
  · next c rest _ =>
    exact ((exec_reaches (k := 3) (by omega) run fun _ => map).holdsStandClear ⟨stopped, clear⟩).2
  · obtain rfl : passMicrosecond s = t := by injection run
    exact ((Reaches.passMicrosecond (k := 3) s (by omega)).holdsStandClear ⟨stopped, clear⟩).2

end Sys2Proof.Machine

/-! PROOF. The banks of a commitment, the marker records and the holders (R11, R20, R146). -/

namespace Sys2Proof.Machine

/-! ### Banks together -/

theorem BanksTogether.of_states {s t : State} (states : ∀ b, (bank b t).state = (bank b s).state) (h : BanksTogether s) :
    BanksTogether t := by
  have shaft : t.tables.shaft.state = s.tables.shaft.state := states .shaft
  have profile : t.tables.profile.state = s.tables.profile.state := states .profile
  have drum : t.tables.drum.state = s.tables.drum.state := states .drum
  simpa only [BanksTogether, anyValidating, anyValidated, shaft, profile, drum] using h

theorem BanksTogether.of_tables {s t : State} (tables : t.tables = s.tables) (h : BanksTogether s) : BanksTogether t :=
  h.of_states fun b => by rw [bank_congr b tables]

theorem banksTogether_of_noneValidating {s : State} (none : ∀ b, (bank b s).state ≠ .validating) : BanksTogether s := by
  have shaft : s.tables.shaft.state ≠ .validating := none .shaft
  have profile : s.tables.profile.state ≠ .validating := none .profile
  have drum : s.tables.drum.state ≠ .validating := none .drum
  simp [BanksTogether, anyValidating, shaft, profile, drum]

theorem banksTogether_of_noneValidated {s : State} (none : ∀ b, (bank b s).state ≠ .validated) : BanksTogether s := by
  have shaft : s.tables.shaft.state ≠ .validated := none .shaft
  have profile : s.tables.profile.state ≠ .validated := none .profile
  have drum : s.tables.drum.state ≠ .validated := none .drum
  simp [BanksTogether, anyValidated, shaft, profile, drum]

theorem noneValidating_iff {s : State} : anyValidating s = false ↔ ∀ b, (bank b s).state ≠ .validating := by
  refine ⟨fun h b => ?_, fun h => ?_⟩
  · simp [anyValidating] at h
    cases b
    · exact h.1.1
    · exact h.1.2
    · exact h.2
  · have := h .shaft; have := h .profile; have := h .drum
    simp_all [anyValidating, bank]

/-- The commitment closed: every bank back in LOADING. -/
theorem closeCommitment_loading (s : State) (b : TableId) : (bank b (closeCommitment s)).state = .loading := by
  cases b <;> rfl

theorem abandon_together (r : AbandonReason) {s : State} (h : BanksTogether s) : BanksTogether (abandon r s) := by
  unfold abandon; split
  · refine banksTogether_of_noneValidating fun b => ?_
    have loading : (bank b (closeCommitment s)).state = .loading := closeCommitment_loading s b
    rw [bank_congr b (setFlag_tables _ _)]
    cases b <;> simp_all [bank, setResult]
  · exact h

theorem reportCause_together (c : Cause) {s : State} (h : BanksTogether s) : BanksTogether (reportCause c s) := by
  obtain ⟨-, same⟩ | ⟨-, trips⟩ | ⟨-, added⟩ := reportCause_cases c s
  · rwa [same]
  · rw [trips]; exact abandon_together .trip (h.of_tables (by simp))
  · rw [added]; exact h.of_tables rfl

theorem startedIf_state (named : Bool) (b : Bank) (loading : b.state ≠ .validated) : (b.startedIf named).state ≠ .validated := by
  unfold Bank.startedIf; split
  · simp
  · exact loading

/-- A validation starts with no commitment open, so that no bank stands VALIDATED (R23). -/
theorem startValidation_together (named : TableSet) {s : State} (closed : commitmentOpen s = false) :
    BanksTogether (startValidation named s) := by
  simp [commitmentOpen, anyValidated] at closed
  obtain ⟨-, ⟨shaft, profile⟩, drum⟩ := closed
  exact banksTogether_of_noneValidated fun
    | .shaft => startedIf_state _ _ shaft
    | .profile => startedIf_state _ _ profile
    | .drum => startedIf_state _ _ drum

theorem toValidated_state (b : Bank) : b.toValidated.state ≠ .validating := by
  unfold Bank.toValidated; split
  · simp
  · assumption

/-- The ruling leaves no bank VALIDATING (R27). -/
theorem completeValidation_together {s : State} (h : BanksTogether s) : BanksTogether (completeValidation s) := by
  unfold completeValidation; split
  · refine banksTogether_of_noneValidating fun b => ?_
    dsimp only; split
    · rw [bank_congr b (setFlag_tables _ _)]
      cases b <;> exact toValidated_state _
    · rw [bank_congr b (setFlag_tables _ _)]
      cases b <;> simp [bank, setResult, closeCommitment, Bank.toLoading]
  · exact h

theorem confirmed_state (b : Bank) (ruled : b.state ≠ .validating) : b.confirmed.state ≠ .validating := by
  unfold Bank.confirmed; split
  · simp
  · exact ruled

/-- Of the banks, a confirm makes the swap (R31). -/
theorem confirmWrites_tables (s : State) : (confirmWrites s).tables = (swapBanks s).tables := by
  unfold confirmWrites confirmUndatums firstConfirm confirmShaft
  simp only
  (repeat' split) <;> simp

theorem confirm_together {s : State} (ruled : anyValidating s = false) : BanksTogether (confirmWrites s) := by
  refine banksTogether_of_noneValidating fun b => ?_
  have state := noneValidating_iff.mp ruled b
  rw [bank_congr b (confirmWrites_tables s)]
  cases b <;> exact confirmed_state _ state

theorem storeRow_state (t b : TableId) (n : Nat) (r : Row) (s : State) :
    (bank b (setBank t ((bank t s).stored n r) s)).state = (bank b s).state := by
  have kept (x : Bank) : (x.stored n r).state = x.state := by unfold Bank.stored; split <;> rfl
  cases t <;> cases b <;> simp [bank, setBank, kept]

theorem Reaches.banksTogether {k : Nat} {s t : State} (h : Reaches k s t) (inv : BanksTogether s) : BanksTogether t := by
  induction h with
  | refl => exact inv
  | trans _ _ first second => exact second (first inv)
  | reportCause c s => exact reportCause_together c inv
  | setRecord i r s => exact inv.of_states fun b => by cases b <;> rfl
  | abandon reason s => exact abandon_together reason inv
  | storeRow b n r s => exact inv.of_states fun other => storeRow_state b other n r s
  | startValidation named s _ closed => exact startValidation_together named closed
  | completeValidation s => exact completeValidation_together inv
  | cancel r s =>
    exact banksTogether_of_noneValidating fun b => by cases b <;> simp [bank, setResult, closeCommitment, Bank.toLoading]
  | resetTrip s =>
    obtain ⟨-, reset⟩ | ⟨-, -, reset⟩ | ⟨-, -, reset⟩ := resetTrip_cases s <;> rw [reset] <;>
      exact inv.of_tables (by simp [chainClosedOf, clearedTo])
  | confirm s _ _ ruled => exact confirm_together ruled
  | nrst s => exact resetMeetsWhatStands.2.2.2.2.2.2.2.2.2.2.1
  | completePlan c _ _ _ _ _ _ before => exact (before inv).of_tables (by simp)
  | _ => exact inv.of_tables (by simp)

/-! ### Records and holders -/

theorem RecordsFitTables.of_same {s t : State} (rows : t.tables.shaft.active = s.tables.shaft.active)
    (records : t.tables.markers.length = s.tables.markers.length)
    (holders : t.zones.holders.length = s.zones.holders.length) (h : RecordsFitTables s) : RecordsFitTables t := by
  simpa only [RecordsFitTables, markers, zoneList, rows, records, holders] using h

theorem confirmWrites_holders (s : State) :
    (confirmWrites s).zones.holders
      = if s.tables.shaft.state = .validated then List.replicate (zoneList (confirmWrites s)).length none
        else s.zones.holders := by
  unfold zoneList
  rw [confirmWrites_tables]
  unfold confirmWrites confirmUndatums firstConfirm confirmShaft
  simp only
  split
  · (repeat' split) <;> simp [zoneList]
  · (repeat' split) <;> simp [swapBanks]

/-- A SHAFT confirm makes fresh records for its MARKER rows and no holder for its ZONE rows (R31, R160). -/
theorem RecordsFitTables.confirm {s : State} (h : RecordsFitTables s) : RecordsFitTables (confirmWrites s) := by
  have tables := confirmWrites_tables s
  have holders := confirmWrites_holders s
  by_cases shaft : s.tables.shaft.state = .validated
  · refine ⟨?_, by rw [holders, if_pos shaft]; simp⟩
    simp [markers, tables, swapBanks, shaft, freshRecords, Bank.confirmed]
  · rw [if_neg shaft] at holders
    have rows : (confirmWrites s).tables.shaft.active = s.tables.shaft.active := by
      simp [tables, swapBanks, Bank.confirmed, shaft]
    exact h.of_same rows (by simp [tables, swapBanks, shaft]) (by rw [holders])

theorem completeValidation_markers (s : State) : (completeValidation s).tables.markers = s.tables.markers := by
  unfold completeValidation; split
  · dsimp only; split <;> simp [setResult, closeCommitment]
  · rfl

theorem Reaches.recordsFitTables {k : Nat} {s t : State} (h : Reaches k s t) (inv : RecordsFitTables s) :
    RecordsFitTables t := by
  induction h with
  | refl => exact inv
  | trans _ _ first second => exact second (first inv)
  | reportCause c s =>
    obtain ⟨rows, -, records⟩ := reportCause_rows c .shaft s
    exact inv.of_same rows (by rw [records]) (by simp)
  | setRecord i r s => exact inv.of_same (by rfl) (by simp [Machine.setRecord]) (by rfl)
  | abandon reason s =>
    exact inv.of_same (abandon_active reason .shaft s).1 (by rw [abandon_markers]) (by simp)
  | storeRow b n r s =>
    exact inv.of_same (storeRow_active b .shaft n r s) (by cases b <;> rfl) (by cases b <;> rfl)
  | startValidation named s =>
    exact inv.of_same (startValidation_active named .shaft s) (by rfl) (by rfl)
  | completeValidation s =>
    exact inv.of_same (completeValidation_active .shaft s) (by rw [completeValidation_markers]) (by simp)
  | cancel r s => exact inv.of_same rfl rfl rfl
  | resetTrip s =>
    obtain ⟨-, reset⟩ | ⟨-, -, reset⟩ | ⟨-, -, reset⟩ := resetTrip_cases s <;> rw [reset] <;>
      exact inv.of_same (by simp [chainClosedOf, clearedTo]) (by simp [chainClosedOf, clearedTo])
        (by simp [chainClosedOf, clearedTo])
  | releaseZone z s => exact inv.of_same (by rfl) (by rfl) (by simp [setHolder])
  | holdZone z origin s => exact inv.of_same (by rfl) (by rfl) (by simp [setHolder])
  | restart s => exact inv.of_same (by simp) (by simp) (by simp [restarted, restartWrites])
  | confirm s => exact inv.confirm
  | nrst s => exact ⟨rfl, rfl⟩
  | completePlan c _ _ _ _ _ _ before => exact (before inv).of_same (by simp) (by simp) (by simp)
  | _ => exact inv.of_same (by simp) (by simp) (by simp)

/-- Settles O16: a commitment opens on closed banks, its ruling and its end leave none VALIDATING, and a SHAFT confirm
counts its records and holders by its own rows. -/
theorem storeKeepsItsForm : Obligations.StoreKeepsItsForm :=
  fun _ _ => step_keeps (Inv := fun s => BanksTogether s ∧ RecordsFitTables s) (fun _ _ h => h)
    fun _ _ reached ⟨together, fit⟩ => ⟨reached.banksTogether together, reached.recordsFitTables fit⟩

end Sys2Proof.Machine

/-! PROOF. The reference watch, the stop record and the accumulators (R47 to R49, R120, R125). -/

namespace Sys2Proof.Machine

/-! ### The watch and the stop record -/

/-- The active trip's state, if there is a trip. -/
def activeState (s : State) : Option TripState := s.pipeline.active.map (·.state)

theorem guardFollowsTrip_iff (s : State) : GuardFollowsTrip s ↔
    (s.guard.watch.isSome = true → activeState s = some .running ∨ activeState s = some .creeping)
      ∧ (s.guard.stop.isSome = true → activeState s = some .stopping) := by
  simp [GuardFollowsTrip, watchRuns, stopRuns, activeState]

/-- No watch and no stop record newly stands, under a trip in the same state. -/
theorem GuardFollowsTrip.mono {s t : State} (h : GuardFollowsTrip s)
    (watch : t.guard.watch.isSome = true → s.guard.watch.isSome = true)
    (stop : t.guard.stop.isSome = true → s.guard.stop.isSome = true) (state : activeState t = activeState s) :
    GuardFollowsTrip t := by
  rw [guardFollowsTrip_iff] at h ⊢
  rw [state]
  exact ⟨fun runs => h.1 (watch runs), fun runs => h.2 (stop runs)⟩

theorem GuardFollowsTrip.of_same {s t : State} (watch : t.guard.watch = s.guard.watch) (stop : t.guard.stop = s.guard.stop)
    (active : t.pipeline.active = s.pipeline.active) (h : GuardFollowsTrip s) : GuardFollowsTrip t :=
  h.mono (by rw [watch]; exact id) (by rw [stop]; exact id) (by rw [activeState, active]; rfl)

theorem guardFollowsTrip_of_none {s : State} (watch : s.guard.watch = none) (stop : s.guard.stop = none) :
    GuardFollowsTrip s := by simp [GuardFollowsTrip, watch, stop]

/-- Under a trip that does not stop, no stop record stands (R125). -/
theorem GuardFollowsTrip.stop_none {s : State} (h : GuardFollowsTrip s) (state : activeState s ≠ some .stopping) :
    s.guard.stop = none := by
  rw [guardFollowsTrip_iff] at h
  exact Option.isNone_iff_eq_none.mp (by simpa using fun stands => state (h.2 stands))

/-- With no trip there is neither. -/
theorem GuardFollowsTrip.none_of_empty {s : State} (h : GuardFollowsTrip s) (empty : s.pipeline.active = none) :
    s.guard.watch = none ∧ s.guard.stop = none := by
  have state : activeState s = none := by simp [activeState, empty]
  rw [guardFollowsTrip_iff, state] at h
  simpa using h

@[simp] theorem enterState_stop (new : TripState) (s : State) : (enterState new s).guard.stop = s.guard.stop := by
  unfold enterState watchOn startWatch stopWatch setActive; (repeat' split) <;> rfl

/-- A trip that settles or stops stops the watch (R120). -/
theorem enterState_watch {trip : Trip} {new : TripState} {s : State} (active : s.pipeline.active = some trip)
    (state : new = .settling ∨ new = .stopping) : (enterState new s).guard.watch = none := by
  obtain rfl | rfl := state <;> simp [enterState, active, watchOn]

theorem enterState_activeState {trip : Trip} (new : TripState) {s : State} (active : s.pipeline.active = some trip) :
    activeState (enterState new s) = some new := by
  simp [activeState, (enterState_slots new s).1, active]

theorem beginStop_watch (t : Trip) (s : State) : (beginStop t s).guard.watch = none := by
  unfold beginStop removeWaitingReference; dsimp only; (repeat' split) <;> simp

/-- A trip that enters STOPPING has no watch, and a stop record only while it stops (R121, R125). -/
theorem enterStopping_guard {trip : Trip} (cause : TripCause) {s : State} (active : s.pipeline.active = some trip) :
    GuardFollowsTrip (enterStopping cause s) := by
  unfold enterStopping
  simp only [active]
  split
  · refine guardFollowsTrip_of_none ?_ ?_ <;> rw [finishBoth_guard] <;>
      simp [(enterState_slots .stopping _).1, setActive]
  · rw [guardFollowsTrip_iff]
    constructor
    · simp [beginStop_watch]
    · exact fun _ => by simp [activeState, enterState_slots, setActive]

/-- A finish of the active trip ends watch and stop record (R120, R125). -/
theorem GuardFollowsTrip.finishActive {s : State} (o : TripOutcome) (c : Option TripCause) (h : GuardFollowsTrip s) :
    (finishActive o c s).guard.watch = none ∧ (finishActive o c s).guard.stop = none := by
  rw [finishActive_guard]
  cases active : s.pipeline.active with
  | none => simpa using h.none_of_empty active
  | some trip => simp

theorem GuardFollowsTrip.finishBoth {s : State} (o : TripOutcome) (c : Option TripCause) (h : GuardFollowsTrip s) :
    (finishBoth o c s).guard.watch = none ∧ (finishBoth o c s).guard.stop = none := by
  simpa [Machine.finishBoth] using h.finishActive o c

theorem promote_guard {s : State} (watch : s.guard.watch = none) (stop : s.guard.stop = none) :
    (promote s).guard.watch = none ∧ (promote s).guard.stop = none := by
  unfold promote; split
  · exact ⟨watch, stop⟩
  · dsimp only
    split
    · simp [finishActive_guard, setActive]
    · split
      · simp [finishActive_guard, setActive]
      · exact ⟨watch, stop⟩

theorem coalesce_timers (f : DownFrame) (s : State) :
    (coalesce f s).guard.watch = s.guard.watch ∧ (coalesce f s).guard.stop = s.guard.stop := by
  rw [coalesce_guard]; exact ⟨rfl, rfl⟩

theorem appendDown_timers (f : DownFrame) (s : State) :
    (appendDown f s).guard.watch = s.guard.watch ∧ (appendDown f s).guard.stop = s.guard.stop := by
  rw [appendDown_guard]; exact ⟨rfl, rfl⟩

theorem placeDemand_timers (f : Frame) (s : State) :
    (placeDemand f s).guard.watch = s.guard.watch ∧ (placeDemand f s).guard.stop = s.guard.stop := by
  rw [placeDemand_guard]; exact ⟨rfl, rfl⟩

theorem GuardFollowsTrip.reportCause {s : State} (c : Cause) (h : GuardFollowsTrip s) :
    GuardFollowsTrip (reportCause c s) := by
  obtain ⟨-, same⟩ | ⟨-, trips⟩ | ⟨-, added⟩ := reportCause_cases c s
  · rwa [same]
  · have demanded : GuardFollowsTrip (placeDemand partDemand (openChain c s)) :=
      GuardFollowsTrip.of_same (s := openChain c s) (placeDemand_timers _ _).1 (placeDemand_timers _ _).2 (by simp)
        (h.of_same (by simp [openChain]) (by simp [openChain]) (by simp [openChain]))
    obtain ⟨watch, stop⟩ := demanded.finishBoth .tripped (some (.protective c))
    rw [trips, protectiveTrip]
    exact guardFollowsTrip_of_none (by simpa [beginEcho] using watch) (by simpa [beginEcho] using stop)
  · rw [added]; exact h.of_same rfl rfl rfl

theorem Reaches.guardFollowsTrip {k : Nat} {s t : State} (h : Reaches k s t) (inv : GuardFollowsTrip s) :
    GuardFollowsTrip t := by
  induction h with
  | refl => exact inv
  | trans _ _ first second => exact second (first inv)
  | reportCause c s => exact inv.reportCause c
  | @start trip s _ active state =>
    have stop := inv.stop_none (by simp [activeState, active, state])
    exact (guardFollowsTrip_iff _).mpr ⟨fun _ => .inl (by simpa [activeState] using enterState_activeState .running active),
      by simp [stop]⟩
  | @creep trip s _ active state =>
    have stop := inv.stop_none (by obtain state | state := state <;> simp [activeState, active, state])
    exact (guardFollowsTrip_iff _).mpr ⟨fun _ => .inr (enterState_activeState .creeping active), by simp [stop]⟩
  | @settle trip s _ active state =>
    have stop := inv.stop_none (by obtain state | state := state <;> simp [activeState, active, state])
    exact guardFollowsTrip_of_none (enterState_watch active (.inl rfl)) (by simp [stop])
  | enterStopping cause s _ active => exact enterStopping_guard cause active
  | finishBoth o c s =>
    obtain ⟨watch, stop⟩ := inv.finishBoth o c
    exact guardFollowsTrip_of_none watch stop
  | promote o c s =>
    obtain ⟨watch, stop⟩ := inv.finishActive o c
    obtain ⟨watch, stop⟩ := promote_guard watch stop
    exact guardFollowsTrip_of_none watch stop
  | completePlan c _ _ _ _ _ _ before =>
    exact (before inv).mono (by simp) (by simp) (datumMidTrip_state c _)
  | stopWatch s => exact inv.mono (by simp) (by simp) (by simp [activeState])
  | stepRamp r s _ runs => exact inv.mono id (fun _ => runs) rfl
  | coalesce f s => exact inv.of_same (coalesce_timers f s).1 (coalesce_timers f s).2 (by simp)
  | appendDown f s => exact inv.of_same (appendDown_timers f s).1 (appendDown_timers f s).2 (by simp)
  | placeDemand f s => exact inv.of_same (placeDemand_timers f s).1 (placeDemand_timers f s).2 (by simp)
  | noteReference origin s =>
    unfold Machine.noteReference; split
    · next runs => exact ⟨fun _ => runs.2, inv.2⟩
    · exact inv
  | placeActive trip s _ _ empty =>
    obtain ⟨watch, stop⟩ := inv.none_of_empty empty
    exact guardFollowsTrip_of_none watch stop
  | resetTrip s =>
    obtain ⟨-, reset⟩ | ⟨-, -, reset⟩ | ⟨-, -, reset⟩ := resetTrip_cases s <;> rw [reset] <;>
      exact inv.of_same (by simp [chainClosedOf, clearedTo]) (by simp [chainClosedOf, clearedTo])
        (by simp [chainClosedOf, clearedTo])
  | restart s => exact guardFollowsTrip_of_none (by simp [restarted, restartWrites]) (by simp [restarted, restartWrites])
  | nrst => exact guardFollowsTrip_of_none rfl rfl
  | passMicrosecond s => exact inv.mono (by simp [Machine.passMicrosecond]) (by simp [Machine.passMicrosecond]) (by simp [activeState])
  | _ => exact inv.of_same (by simp) (by simp) (by simp)

/-! ### The accumulators -/

theorem tripMoving_iff (s : State) : tripMoving s = true ↔ ∃ state, activeState s = some state ∧ state.isMoving = true := by
  unfold tripMoving activeState
  cases s.pipeline.active <;> simp

theorem tripMoving_congr {s t : State} (state : activeState t = activeState s) : tripMoving t = tripMoving s := by
  rw [Bool.eq_iff_iff, tripMoving_iff, tripMoving_iff, state]

/-- The three accumulators of the drums. -/
def accumulators (s : State) : Int × Nat × Nat := (s.drums.disagree, s.drums.hold, s.drums.drift)

theorem AccumulatorsHeld.mono {s t : State} (h : AccumulatorsHeld s) (clutch : t.protection.image.clutch = s.protection.image.clutch)
    (same : accumulators t = accumulators s)
    (moving : tripMoving t = true ∨ t.protection.state = .tripped →
      tripMoving s = true ∨ s.protection.state = .tripped) : AccumulatorsHeld t := by
  obtain ⟨disagree, hold, drift⟩ := h
  simp only [accumulators, Prod.mk.injEq] at same
  exact ⟨fun off => same.1.trans (disagree (clutch ▸ off)), fun off => same.2.1.trans (hold (clutch ▸ off)),
    fun stands => same.2.2.trans (drift (moving stands))⟩

theorem AccumulatorsHeld.of_same {s t : State} (clutch : t.protection.image = s.protection.image)
    (disagree : t.drums.disagree = s.drums.disagree) (hold : t.drums.hold = s.drums.hold)
    (drift : t.drums.drift = s.drums.drift) (active : t.pipeline.active = s.pipeline.active)
    (state : t.protection.state = s.protection.state) (h : AccumulatorsHeld s) : AccumulatorsHeld t :=
  h.mono (by rw [clutch]) (by simp [accumulators, disagree, hold, drift])
    (by rw [state, tripMoving_congr (s := s) (t := t) (by simp only [activeState, active])]; exact id)

/-- With the drift accumulator at 0, the other two keep to the clutch alone. -/
theorem AccumulatorsHeld.of_drift {s t : State} (h : AccumulatorsHeld s) (clutch : t.protection.image = s.protection.image)
    (disagree : t.drums.disagree = s.drums.disagree) (hold : t.drums.hold = s.drums.hold)
    (drift : t.drums.drift = 0) : AccumulatorsHeld t :=
  ⟨fun off => disagree.trans (h.1 (clutch ▸ off)), fun off => hold.trans (h.2.1 (clutch ▸ off)), fun _ => drift⟩

theorem AccumulatorsHeld.reportCause {s : State} (c : Cause) (h : AccumulatorsHeld s) : AccumulatorsHeld (reportCause c s) := by
  obtain ⟨-, same⟩ | ⟨-, trips⟩ | ⟨-, added⟩ := reportCause_cases c s
  · rwa [same]
  · rw [trips]
    exact h.of_drift (by simp [protectiveTrip_protection]) (by simp [protectiveTrip]) (by simp [protectiveTrip])
      (by simp [protectiveTrip])
  · rw [added]; exact h.of_same rfl rfl rfl rfl rfl rfl

/-- An entry into a state keeps the accumulators if the trip moves already. -/
theorem AccumulatorsHeld.enterState {trip : Trip} {new : TripState} {s : State} (h : AccumulatorsHeld s)
    (active : s.pipeline.active = some trip) (moving : trip.state.isMoving = true) : AccumulatorsHeld (enterState new s) :=
  h.mono (by simp) (by simp [accumulators]) fun _ => .inl (by simp [tripMoving, active, moving])

theorem accumulatorsOn_held {old new : Interlock} {s : State} (clutch : s.protection.image = new)
    (drift : tripMoving s = true ∨ s.protection.state = .tripped → s.drums.drift = 0) :
    AccumulatorsHeld (accumulatorsOn old.clutch new.clutch s) := by
  refine ⟨fun off => ?_, fun off => ?_, fun moving => ?_⟩
  · simp only [accumulatorsOn_frame, clutch] at off
    simp [accumulatorsOn, off]
  · simp only [accumulatorsOn_frame, clutch] at off
    simp [accumulatorsOn, off]
  · exact drift moving

theorem isMoving_of_ne {state : TripState} (waiting : state ≠ .waiting) (queued : state ≠ .queued) :
    state.isMoving = true := by
  cases state <;> simp_all [TripState.isMoving]

theorem Reaches.accumulatorsHeld {k : Nat} {s t : State} (h : Reaches k s t) (slots : SlotsHoldTheirStates s)
    (inv : AccumulatorsHeld s) : AccumulatorsHeld t := by
  induction h with
  | refl => exact inv
  | trans first _ before after => exact after (first.slotsHoldTheirStates slots) (before slots inv)
  | reportCause c s => exact inv.reportCause c
  | clearDrift s => exact inv.of_drift (by simp) (by simp) (by simp) (by simp)
  | addDrift n s _ takes still =>
    refine ⟨inv.1, inv.2.1, fun moving => ?_⟩
    obtain moving | tripped := moving
    · exact absurd (still.symm.trans moving) (by simp)
    · obtain state | state := takes <;> exact absurd (state.symm.trans tripped) (by simp)
  | addDisagreement v s _ clutch => exact ⟨fun off => absurd clutch off, inv.2⟩
  | addHold n s _ clutch => exact ⟨inv.1, fun off => absurd clutch off, inv.2.2⟩
  | replaceImage new s =>
    exact accumulatorsOn_held rfl inv.2.2
  | start s _ active => exact inv.of_drift (by simp) (by simp) (by simp) (by simp)
  | creep s _ active state => exact inv.enterState active (by obtain h | h := state <;> simp [h, TripState.isMoving])
  | settle s _ active state => exact inv.enterState active (by obtain h | h := state <;> simp [h, TripState.isMoving])
  | enterStopping cause s _ active state =>
    have moving := isMoving_of_ne state.1 (slots.1 _ active)
    exact inv.mono (by simp) (by simp [accumulators]) fun _ => .inl (by simp [tripMoving, active, moving])
  | finishBoth o c s =>
    exact inv.mono (by simp) (by simp [accumulators]) fun stands => .inr (by simpa [tripMoving] using stands)
  | promote o c s =>
    refine inv.mono (by simp) (by simp [accumulators]) fun stands => ?_
    obtain none | ⟨-, same⟩ | ⟨trip, -, placed⟩ := (promote_slots (finishActive o c s)).2
    · exact .inr (by simpa [tripMoving, none] using stands)
    · exact .inr (by simpa [tripMoving, same] using stands)
    · exact .inr (by simpa [tripMoving, placed, rebased, planned, TripState.isMoving] using stands)
  | completePlan c _ _ _ _ _ _ before =>
    exact (before slots inv).mono (by simp) (by simp [accumulators])
      (by rw [tripMoving_congr (datumMidTrip_state c _)]; simp)
  | armIfDatumed s =>
    obtain same | ⟨-, -, armed⟩ := armIfDatumed_protection s
    · exact inv.of_same (by rw [same]) (by simp) (by simp) (by simp) (by simp) (by rw [same])
    · exact inv.mono (by rw [armed]) (by simp [accumulators]) (by rw [tripMoving_congr (s := s) (by simp [activeState]), armed]; simp; exact .inl)
  | placeActive trip s _ _ _ state =>
    exact inv.mono (by rfl) (by rfl) (by simp [tripMoving, setActive, state, TripState.isMoving]; exact .inr)
  | resetTrip s =>
    obtain ⟨-, reset⟩ | ⟨-, -, reset⟩ | ⟨-, -, reset⟩ := resetTrip_cases s <;> rw [reset] <;>
      exact inv.mono (by simp [chainClosedOf, clearedTo]) (by simp [chainClosedOf, clearedTo, accumulators])
        (by rw [tripMoving_congr (s := s) (by simp [activeState, chainClosedOf, clearedTo])]
            simp [chainClosedOf, clearedTo]; exact .inl)
  | restart s =>
    exact inv.mono (by simp) (by simp [accumulators])
      (by rw [tripMoving_congr (s := s) (by simp [activeState])]; simp [restarted_protection]; exact .inl)
  | confirm s =>
    refine inv.mono (by simp) (by simp [accumulators]) fun stands => ?_
    rw [tripMoving_congr (s := s) (by simp [activeState])] at stands
    obtain moving | tripped := stands
    · exact .inl moving
    · obtain ⟨first, later⟩ := confirmWrites_protection s
      by_cases state : s.protection.state = .noTables
      · rw [first state] at tripped; simp at tripped
      · rw [later state] at tripped; dsimp only at tripped
        split at tripped
        · simp at tripped
        · exact .inr tripped
  | nrst s => exact ⟨fun _ => rfl, fun _ => rfl, fun _ => rfl⟩
  | passMicrosecond s => exact inv.of_same (by simp) (by rfl) (by rfl) (by rfl) (by simp) (by simp)
  | _ => exact inv.of_same (by simp) (by simp) (by simp) (by simp) (by simp) (by simp)

/-- Settles O15: the watch and the stop record are started on the trip's own changes of state and end with it, and the
accumulators are written under their own clutch position and cleared with the others. -/
theorem guardAndAccumulatorsKeepToTheTrip : Obligations.GuardAndAccumulatorsKeepToTheTrip := by
  refine ⟨fun _ _ => step_keeps (fun _ _ h => h) fun _ _ => Reaches.guardFollowsTrip, fun s t slots held run => ?_⟩
  exact (step_keeps (Inv := fun s => SlotsHoldTheirStates s ∧ AccumulatorsHeld s) (fun _ _ h => h)
    (fun _ _ reached inv => ⟨reached.slotsHoldTheirStates inv.1, reached.accumulatorsHeld inv.1 inv.2⟩)
    ⟨slots, held⟩ run).2

end Sys2Proof.Machine

/-! PROOF. What the operations offer upstream, and the bounds of the queues, the watch list, the history and the counters
(R94, R110, R115, R154, R162, R169, R186). -/

namespace Sys2Proof.Machine

/-! ### Counters and flags -/

variable {k : Nat}

/-- Between two states nothing went upstream but the notices of flags set, and nothing was counted but by the counters'
rule, or from 0 again; the watch list stayed. From level 3 on also frames were offered or taken, as the limits allow. -/
inductive Notified (k : Nat) : State → State → Prop
  | same {s t : State} (line : t.line.queue = s.line.queue) (list : k ≤ 2 → t.zones.watchList = s.zones.watchList)
      (requests : t.requests = s.requests) : Notified k s t
  | cleared {s t : State} (level : 2 ≤ k) (line : t.line.queue = s.line.queue)
      (list : k ≤ 2 → t.zones.watchList = s.zones.watchList)
      (counters : t.requests.counters = s.requests.counters ∨ t.requests.counters = State.resetCounters) : Notified k s t
  | count (c : Counter) (s : State) : Notified k s (count c s)
  | setFlag (f : Flag) (s : State) : Notified k s (setFlag f s)
  | offerUp (m : UpMark) (f : Frame) (s : State) (level : 3 ≤ k) : Notified k s (offerUp m f s)
  | taken {s t : State} (level : 3 ≤ k) (line : t.line.queue.Sublist s.line.queue)
      (counters : t.requests.counters = s.requests.counters) : Notified k s t
  | fresh {s t : State} (level : 3 ≤ k) (fits : UpBounded t) : Notified k s t
  | trans {s t u : State} (first : Notified k s t) (second : Notified k t u) : Notified k s u

theorem UpBounded.of_same {s t : State} (line : t.line.queue = s.line.queue)
    (counters : t.requests.counters = s.requests.counters) (h : UpBounded s) : UpBounded t := by
  unfold UpBounded; rw [line, counters]; exact h

theorem Notified.upBounded {s t : State} (h : Notified k s t) (bounded : UpBounded s) : UpBounded t := by
  induction h with
  | same line _ requests => exact bounded.of_same line (by rw [requests])
  | cleared _ line _ counters =>
    refine ⟨?_, by rw [line]; exact bounded.2⟩
    obtain same | reset := counters
    · rw [same]; exact bounded.1
    · rw [reset]; decide
  | count c => exact bounded.count c
  | setFlag f => exact bounded.setFlag f
  | offerUp m f => exact bounded.offerUp m f
  | taken _ line counters =>
    obtain ⟨counts, all, field⟩ := bounded
    exact ⟨counters ▸ counts, line.length_le.trans all, (line.filter _).length_le.trans field⟩
  | fresh _ fits => exact fits
  | trans _ _ first second => exact second (first bounded)

/-- Below the commands that clear the flags, a flag that stands set stays set. -/
theorem Notified.flagSet {s t : State} (h : Notified k s t) (low : k ≤ 1) {g : Flag} (set : flagSet g s = true) :
    flagSet g t = true := by
  induction h with
  | same _ _ requests => simpa only [Machine.flagSet, requests] using set
  | count c s => simpa using set
  | setFlag f s => exact flagSet_setFlag_of_set f g s set
  | cleared | offerUp | taken | fresh => omega
  | trans _ _ first second => exact second (first set)

theorem Notified.noticesOnly {s t : State} (h : Notified k s t) (low : k ≤ 2) : NoticesOnly s t := by
  induction h with
  | same line list | cleared _ line list => exact .of_same (list low) line
  | count c s => exact .count c s
  | setFlag f s => exact .setFlag f s
  | offerUp | taken | fresh => omega
  | trans _ _ first second => exact first.trans second

theorem Notified.refl (s : State) : Notified k s s := .same rfl (fun _ => rfl) rfl

/-- The last of two steps first, so that the state between them is read off it. -/
theorem Notified.after {s t u : State} (second : Notified k t u) (first : Notified k s t) : Notified k s u := first.trans second

theorem Notified.ite {c : Prop} [Decidable c] {s t u : State} (h : Notified k s t) (other : Notified k s u) :
    Notified k s (if c then t else u) := by split <;> assumption

/-! ### Each operation's notices -/

theorem Notified.loseDown (s : State) : Notified k s (loseDown s) := .after (.setFlag .drop _) (.count .droppedDown s)

theorem Notified.appendDown (f : DownFrame) (s : State) : Notified k s (appendDown f s) :=
  .ite (.same rfl (fun _ => rfl) rfl) (.loseDown s)

theorem Notified.coalesce (f : DownFrame) (s : State) : Notified k s (coalesce f s) :=
  .ite (.after (.count .superseded _) (.same rfl (fun _ => rfl) rfl)) (.appendDown f s)

theorem Notified.placeDemand (f : Frame) (s : State) : Notified k s (placeDemand f s) :=
  .ite (.refl s) (.ite (.same rfl (fun _ => rfl) rfl) ((Notified.loseDown s).trans (.same rfl (fun _ => rfl) rfl)))

theorem Notified.placeRecord (r : HistoryRecord) (s : State) : Notified k s (placeRecord r s) :=
  .after (.setFlag .finish _) (.same rfl (fun _ => rfl) rfl)

theorem Notified.finishActive (o : TripOutcome) (c : Option TripCause) (s : State) : Notified k s (finishActive o c s) := by
  unfold Machine.finishActive; split
  · exact .refl s
  · exact .after (.placeRecord _ _) (.same rfl (fun _ => rfl) rfl)

theorem Notified.finishWaiting (o : TripOutcome) (c : Option TripCause) (s : State) : Notified k s (finishWaiting o c s) := by
  unfold Machine.finishWaiting; split
  · exact .refl s
  · exact .after (.placeRecord _ _) (.same rfl (fun _ => rfl) rfl)

theorem Notified.finishBoth (o : TripOutcome) (c : Option TripCause) (s : State) : Notified k s (finishBoth o c s) :=
  .after (.finishWaiting _ _ _) (.finishActive o c s)

theorem Notified.promote (s : State) : Notified k s (promote s) := by
  unfold Machine.promote; split
  · exact .refl s
  · next t _ =>
    have moved : Notified k s (setActive (some (rebased t s)) (setWaiting none s)) := .same rfl (fun _ => rfl) rfl
    exact .ite (.after (.finishActive _ _ _) moved) (.ite (.after (.finishActive _ _ _) moved) moved)

theorem Notified.enterState (new : TripState) (s : State) : Notified k s (enterState new s) :=
  .same (by simp) (fun _ => by simp) (by simp)

theorem Notified.beginStop (t : Trip) (s : State) : Notified k s (beginStop t s) := by
  have taken (u : State) : Notified k u (removeWaitingReference u) :=
    .ite (.after (.count .superseded _) (.same rfl (fun _ => rfl) rfl)) (.refl u)
  have removed : Notified k s (removeWaitingReference (stopWatch s)) := .after (taken _) (.same rfl (fun _ => rfl) rfl)
  unfold Machine.beginStop; dsimp only; split
  · exact removed
  · exact removed.trans (.same rfl (fun _ => rfl) rfl)

theorem Notified.enterStopping (cause : TripCause) (s : State) : Notified k s (enterStopping cause s) := by
  unfold Machine.enterStopping; split
  · exact .refl s
  · next t _ =>
    have marked : Notified k s (setActive (some { t with cause := some cause }) s) := .same rfl (fun _ => rfl) rfl
    have stopping (u : State) : Notified k u (Machine.setFlag .stop (Machine.enterState .stopping u)) :=
      .after (.setFlag .stop _) (.enterState .stopping u)
    exact .ite (.after (.finishBoth _ _ _) (.after (stopping _) marked))
      (.after (.beginStop _ _) (.after (stopping _) (.after (.finishWaiting .discarded none _) marked)))

theorem Notified.abandon (reason : AbandonReason) (s : State) : Notified k s (abandon reason s) :=
  .ite (.after (.setFlag .valid _) (.same rfl (fun _ => rfl) rfl)) (.refl s)

theorem Notified.openChain (c : Cause) (s : State) : Notified k s (openChain c s) :=
  .after (.setFlag .trip _) (.same rfl (fun _ => rfl) rfl)

theorem Notified.reportCause (c : Cause) (s : State) : Notified k s (reportCause c s) := by
  obtain ⟨-, same⟩ | ⟨-, trips⟩ | ⟨-, added⟩ := reportCause_cases c s
  · rw [same]; exact .refl s
  · have emptied := (Notified.finishBoth (k := k) .tripped (some (.protective c)) _).after
      ((Notified.placeDemand partDemand _).after (.openChain c s))
    rw [trips]
    exact .after (.abandon .trip _) (emptied.trans (.same rfl (fun _ => rfl) rfl))
  · rw [added]; exact .same rfl (fun _ => rfl) rfl

theorem Notified.completeValidation (s : State) : Notified k s (completeValidation s) := by
  unfold Machine.completeValidation; split
  · dsimp only; split <;> exact .after (.setFlag .valid _) (.same rfl (fun _ => rfl) rfl)
  · exact .refl s

theorem Notified.resetTrip (s : State) : Notified k s (resetTrip s) := by
  obtain ⟨-, reset⟩ | ⟨-, -, reset⟩ | ⟨-, -, reset⟩ := resetTrip_cases s <;> rw [reset]
  · exact .same rfl (fun _ => rfl) rfl
  · exact .same rfl (fun _ => rfl) rfl
  · have datum (u : State) : Notified k u (chainClosedOf (Machine.setFlag .datum u)) :=
      (Notified.setFlag .datum u).trans (.same rfl (fun _ => rfl) rfl)
    exact .after (datum _) (.same rfl (fun _ => rfl) rfl)

theorem Notified.armIfDatumed (s : State) : Notified k s (armIfDatumed s) :=
  .ite (.after (.setFlag .datum _) (.same rfl (fun _ => rfl) rfl)) (.refl s)

theorem Notified.judgeWatchList (s : State) (level : 3 ≤ k) : Notified k s (judgeWatchList s) := by
  have offered (n : WatchEntry → State → Frame) (due : List WatchEntry) (u : State) :
      Notified k u (due.foldl (fun v e => Machine.offerUp .part (n e v) v) u) := by
    induction due generalizing u with
    | nil => exact .refl u
    | cons e rest ih => exact (Notified.offerUp .part _ u level).trans (ih _)
  exact .after (offered _ _ _) (.same rfl (fun low => by omega) rfl)

theorem Notified.handOnZones (s : State) (level : 3 ≤ k) : Notified k s (handOnZones s) :=
  .after (.judgeWatchList _ level) (.same rfl (fun _ => rfl) rfl)

theorem Notified.startUp (s : State) (level : 3 ≤ k) : Notified k s (startUp s) := by
  unfold Machine.startUp; split
  · exact .refl s
  · split
    · exact .same rfl (fun _ => rfl) rfl
    · next queue => exact .taken level (by rw [queue]; exact List.sublist_cons_self _ _) rfl

theorem Notified.restarted (s : State) (level : 3 ≤ k) : Notified k s (restarted s) := by
  have written : Notified k s (restartWrites s) := .cleared (by omega) rfl (fun low => by omega) (.inr rfl)
  exact (Notified.after (.setFlag .start _) written).trans (.same rfl (fun _ => rfl) rfl)

theorem confirmWrites_watchList {s : State} (shaft : s.tables.shaft.state ≠ .validated) :
    (confirmWrites s).zones.watchList = s.zones.watchList := by
  unfold confirmWrites confirmUndatums firstConfirm
  simp only [if_neg shaft]
  (repeat' split) <;> simp [swapBanks]

theorem confirmWrites_counters (s : State) : (confirmWrites s).requests = s.requests := by
  unfold confirmWrites confirmUndatums firstConfirm confirmShaft
  simp only
  (repeat' split) <;> simp [swapBanks]

theorem addWatch_offers (e : WatchEntry) (s : State) (level : 3 ≤ k) : Notified k s (addWatch e s).1 :=
  .same (by simp) (fun low => by omega) (by simp)

theorem resetPart_upBounded {s : State} : UpBounded (resetPart s) := by
  have reset : UpBounded State.reset := ⟨by decide, by decide, by decide⟩
  exact reset.of_same rfl rfl

/-- What each operation tells upstream. -/
theorem Reaches.notified {s t : State} (h : Reaches k s t) : Notified k s t := by
  induction h with
  | refl s => exact .refl s
  | trans _ _ first second => exact first.trans second
  | count c s => exact .count c s
  | setFlag f s => exact .setFlag f s
  | reportCause c s => exact .reportCause c s
  | start s => exact (Notified.enterState .running s).trans (.same rfl (fun _ => rfl) rfl)
  | creep s => exact .enterState .creeping s
  | settle s => exact .enterState .settling s
  | enterStopping cause s => exact .enterStopping cause s
  | finishBoth o c s => exact .finishBoth o c s
  | promote o c s => exact (Notified.finishActive o c s).trans (.promote _)
  | completePlan c _ _ _ _ _ _ before => exact before.trans (.same (by simp) (fun _ => by simp) (by simp))
  | armIfDatumed s => exact .armIfDatumed s
  | abandon reason s => exact .abandon reason s
  | coalesce f s => exact .coalesce f s
  | appendDown f s => exact .appendDown f s
  | placeDemand f s => exact .placeDemand f s
  | clearCounters s level => exact .cleared level rfl (fun _ => rfl) (.inr rfl)
  | clearFlags s level => exact .cleared level rfl (fun _ => rfl) (.inl rfl)
  | completeValidation s => exact .completeValidation s
  | finishWaiting o c s => exact .finishWaiting o c s
  | resetTrip s => exact .resetTrip s
  | handOnZones s level => exact .handOnZones s level
  | offerUp m f s level => exact .offerUp m f s level
  | startUp s level => exact .startUp s level
  | watchZone e s level => exact addWatch_offers e s level
  | restart s level => exact .restarted s level
  | confirm s level _ _ lists =>
    exact .same (by simp) (fun low => confirmWrites_watchList (lists (by omega))) (by rw [confirmWrites_counters])
  | nrst s level => exact .fresh level resetPart_upBounded
  | storeRow b n r s => exact .same (by cases b <;> rfl) (fun _ => by cases b <;> rfl) (by cases b <;> rfl)
  | setReceiver l r s => exact .same (by simp) (fun _ => by simp) (by simp)
  | noteReference origin s => exact .ite (.same rfl (fun _ => rfl) rfl) (.refl s)
  | endUp s => exact .same (by simp) (fun _ => by simp) (by simp)
  | cancel | placeActive | releaseZone | holdZone =>
    exact .same (by rfl) (fun _ => by rfl) (by rfl)
  | _ => exact .same (by simp) (fun _ => by simp) (by simp)

end Sys2Proof.Machine

/-! PROOF. The bounds of the queues, the watch list, the history and the counters, and the marks of the waiting references
(R94, R110, R115, R154, R162, R169, R186). -/

namespace Sys2Proof.Machine

/-! ### The downstream queue -/

/-- A downstream queue within its bounds (R110, R115). -/
def QueueFits (q : List DownFrame) : Prop :=
  q.length ≤ 8 ∧ (q.filter DownFrame.isReference).length ≤ 1 ∧ (q.filter DownFrame.isDemand).length ≤ 1

/-- A downstream frame of class SPEED REFERENCE, and no other, carries its source and a readable body (R110). -/
def FrameMarked (f : DownFrame) : Prop :=
  (classOf f.frame.cls = .speedReference ↔ f.source.isSome) ∧ (f.source.isSome → (readSpeed f.frame.body).isSome)

theorem QueueFits.sublist {p q : List DownFrame} (h : QueueFits q) (sub : p.Sublist q) : QueueFits p :=
  ⟨sub.length_le.trans h.1, (sub.filter _).length_le.trans h.2.1, (sub.filter _).length_le.trans h.2.2⟩

theorem IsReferenceFrame.marked {f : DownFrame} (h : IsReferenceFrame f) : FrameMarked f :=
  ⟨iff_of_true h.1 h.2.1, fun _ => h.2.2⟩

theorem IsReferenceFrame.kind {f : DownFrame} (h : IsReferenceFrame f) : f.isReference = true ∧ f.isDemand = false :=
  ⟨h.2.1, by simp [DownFrame.isDemand, h.1]⟩

theorem IsPlainFrame.marked {f : DownFrame} (h : IsPlainFrame f) : FrameMarked f :=
  ⟨iff_of_false h.2.1 (by simp [h.1]), by simp [h.1]⟩

theorem IsPlainFrame.kind {f : DownFrame} (h : IsPlainFrame f) : f.isReference = false ∧ f.isDemand = false :=
  ⟨by simp [DownFrame.isReference, h.1], by simp [DownFrame.isDemand, h.2.2]⟩

/-- A BRAKE DEMAND as it stands in the queue. -/
theorem demand_kind {f : Frame} (demand : classOf f.cls = .brakeDemand) :
    FrameMarked { frame := f, source := none } ∧ ({ frame := f, source := none } : DownFrame).isReference = false
      ∧ ({ frame := f, source := none } : DownFrame).isDemand = true :=
  ⟨⟨by simp [demand], by simp⟩, rfl, by simp [DownFrame.isDemand, demand]⟩

theorem replaceReference_demands {f : DownFrame} (q : List DownFrame) (reference : f.isDemand = false) :
    ((replaceReference f q).filter DownFrame.isDemand).length ≤ (q.filter DownFrame.isDemand).length := by
  unfold replaceReference
  induction q with
  | nil => simp
  | cons g rest ih =>
    rw [List.map_cons]
    cases waiting : g.isReference <;> cases demand : g.isDemand <;>
      simp only [List.filter_cons, demand, reference, if_true, Bool.false_eq_true, if_false, List.length_cons] <;>
      omega

theorem replaceReference_references {f : DownFrame} (q : List DownFrame) (reference : f.isReference = true) :
    ((replaceReference f q).filter DownFrame.isReference).length = (q.filter DownFrame.isReference).length := by
  unfold replaceReference
  induction q with
  | nil => simp
  | cons g rest ih =>
    rw [List.map_cons]
    cases waiting : g.isReference <;> simp [waiting, reference, ih]

theorem filter_append_singleton_length {q : List DownFrame} {f : DownFrame} (kind : DownFrame → Bool) :
    ((q ++ [f]).filter kind).length = (q.filter kind).length + (if kind f then 1 else 0) := by
  rw [List.filter_append, List.length_append, List.filter_cons, List.filter_nil]
  cases kind f <;> simp

theorem none_filtered {q : List DownFrame} {kind : DownFrame → Bool} (none : ¬q.any kind = true) :
    (q.filter kind).length = 0 := by
  rw [List.length_eq_zero_iff, List.filter_eq_nil_iff]
  exact fun f mem here => none (List.any_eq_true.mpr ⟨f, mem, here⟩)

theorem QueueFits.coalesced {q : List DownFrame} {f : DownFrame} (h : QueueFits q) (reference : IsReferenceFrame f) :
    QueueFits (if q.any DownFrame.isReference then replaceReference f q
      else if q.length < 8 then q ++ [f] else q) := by
  obtain ⟨isReference, isDemand⟩ := reference.kind
  split
  · exact ⟨by simpa using h.1, (replaceReference_references q isReference).le.trans h.2.1,
      (replaceReference_demands q isDemand).trans h.2.2⟩
  · next others =>
    split
    · next room =>
      refine ⟨by simp; omega, ?_, ?_⟩ <;> rw [filter_append_singleton_length]
      · rw [none_filtered others, isReference]; simp
      · rw [isDemand]; simpa using h.2.2
    · exact h

theorem QueueFits.appended {q : List DownFrame} {f : DownFrame} (h : QueueFits q) (plain : IsPlainFrame f) :
    QueueFits (if q.length < 8 then q ++ [f] else q) := by
  obtain ⟨isReference, isDemand⟩ := plain.kind
  split
  · next room =>
    refine ⟨by simp; omega, ?_, ?_⟩ <;> rw [filter_append_singleton_length]
    · rw [isReference]; simpa using h.2.1
    · rw [isDemand]; simpa using h.2.2
  · exact h

theorem QueueFits.demanded {q : List DownFrame} {f : Frame} (h : QueueFits q) (demand : classOf f.cls = .brakeDemand) :
    QueueFits (if q.any DownFrame.isDemand then q
      else if q.length < 8 then { frame := f, source := none } :: q else { frame := f, source := none } :: q.dropLast) := by
  obtain ⟨-, isReference, isDemand⟩ := demand_kind demand
  have ahead {p : List DownFrame} (sub : p.Sublist q) (room : p.length < 8) (free : ¬q.any DownFrame.isDemand = true) :
      QueueFits ({ frame := f, source := none } :: p) := by
    have fits := h.sublist sub
    have gone : (p.filter DownFrame.isDemand).length ≤ 0 := (none_filtered free) ▸ (sub.filter _).length_le
    refine ⟨by simp; omega, ?_, ?_⟩
    · rw [List.filter_cons_of_neg (by simp [isReference])]; exact fits.2.1
    · rw [List.filter_cons_of_pos (by simp [isDemand])]; simp only [List.length_cons]; omega
  split
  · exact h
  · next none =>
    split
    · next room => exact ahead (List.Sublist.refl q) room none
    · next full =>
      have := h.1
      exact ahead (List.dropLast_sublist q) (by rw [List.length_dropLast]; omega) none

/-- Entering STOPPING takes frames out of the queue at most (R121). -/
theorem enterStopping_queue (cause : TripCause) (s : State) : (enterStopping cause s).guard.queue.Sublist s.guard.queue := by
  have state (u : State) : (enterState .stopping u).guard.queue = u.guard.queue := by
    unfold enterState; split <;> rfl
  have both (o : TripOutcome) (c : Option TripCause) (u : State) : (finishBoth o c u).guard.queue = u.guard.queue := by
    rw [finishBoth_guard]; split <;> rfl
  have removed (u : State) : (removeWaitingReference u).guard.queue.Sublist u.guard.queue := by
    unfold removeWaitingReference; split
    · simp
    · exact List.Sublist.refl _
  have begun (t : Trip) (u : State) : (beginStop t u).guard.queue.Sublist u.guard.queue := by
    unfold beginStop; dsimp only; split <;> simpa using removed (stopWatch u)
  unfold enterStopping; split
  · exact List.Sublist.refl _
  · dsimp only; split
    · rw [both]; simp [state, setActive]
    · exact (begun _ _).trans (by simp [state, setActive])

theorem finishActive_queue (o : TripOutcome) (c : Option TripCause) (s : State) :
    (finishActive o c s).guard.queue = s.guard.queue := by rw [finishActive_guard]; split <;> rfl

theorem finishBoth_queue (o : TripOutcome) (c : Option TripCause) (s : State) :
    (finishBoth o c s).guard.queue = s.guard.queue := by rw [finishBoth_guard]; split <;> rfl

theorem promote_queue (s : State) : (promote s).guard.queue = s.guard.queue := by
  unfold promote; split
  · rfl
  · dsimp only; (repeat' split) <;> simp [finishActive_queue, setActive, setWaiting]

theorem reportCause_queue (c : Cause) (s : State) :
    (reportCause c s).guard.queue = s.guard.queue ∨ (reportCause c s).guard.queue = (placeDemand partDemand s).guard.queue := by
  obtain ⟨-, same⟩ | ⟨-, trips⟩ | ⟨-, added⟩ := reportCause_cases c s
  · exact .inl (by rw [same])
  · refine .inr ?_
    rw [trips]
    simp [protectiveTrip, beginEcho, finishBoth_queue, placeDemand_guard, openChain]
  · exact .inl (by rw [added]; rfl)

theorem enterState_queue (new : TripState) (s : State) : (enterState new s).guard.queue = s.guard.queue := by
  unfold enterState watchOn; (repeat' split) <;> rfl

/-- What an operation does to the downstream queue. -/
theorem Reaches.downQueue {k : Nat} {P : List DownFrame → Prop} {s t : State} (h : Reaches k s t)
    (sublist : ∀ {p q : List DownFrame}, P q → p.Sublist q → P p) (empty : P [])
    (coalesced : ∀ f s, IsReferenceFrame f → P s.guard.queue → P (Machine.coalesce f s).guard.queue)
    (appended : ∀ f s, IsPlainFrame f → P s.guard.queue → P (Machine.appendDown f s).guard.queue)
    (demanded : ∀ f s, classOf f.cls = .brakeDemand → P s.guard.queue → P (Machine.placeDemand f s).guard.queue)
    (inv : P s.guard.queue) : P t.guard.queue := by
  induction h with
  | refl => exact inv
  | trans _ _ first second => exact second (first inv)
  | reportCause c s =>
    obtain same | placed := reportCause_queue c s
    · rwa [same]
    · rw [placed]; exact demanded _ _ rfl inv
  | start s => simpa [enterState_queue] using inv
  | creep s => simpa [enterState_queue] using inv
  | settle s => simpa [enterState_queue] using inv
  | enterStopping cause s => exact sublist inv (enterStopping_queue cause s)
  | finishBoth o c s => simpa [finishBoth_queue] using inv
  | promote o c s => simpa [promote_queue, finishActive_queue] using inv
  | completePlan c _ _ _ _ _ _ before => simpa using before inv
  | coalesce f s _ reference => exact coalesced f s reference inv
  | appendDown f s _ plain => exact appended f s plain inv
  | placeDemand f s _ demand => exact demanded f s demand inv
  | transmitDown queue transmitter last s _ rest => exact sublist inv rest
  | noteReference origin s => unfold Machine.noteReference; split <;> exact inv
  | resetTrip s =>
    obtain ⟨-, reset⟩ | ⟨-, -, reset⟩ | ⟨-, -, reset⟩ := resetTrip_cases s <;> rw [reset] <;>
      simpa [chainClosedOf, clearedTo] using inv
  | restart s => simpa [restarted, restartWrites] using inv
  | nrst s => exact empty
  | storeRow b n r s => cases b <;> exact inv
  | stopWatch s | stepRamp | clearFlags s | clearCounters s | cancel | placeActive | placeWaiting | releaseZone | holdZone
  | passMicrosecond | turnKey | addDrift | addDisagreement | addHold | driveSilent | chooseFreely | setRecord => exact inv
  | _ => simpa using inv

theorem Reaches.queueFits {k : Nat} {s t : State} (h : Reaches k s t) (inv : QueueFits s.guard.queue) :
    QueueFits t.guard.queue := by
  refine h.downQueue (P := QueueFits) (fun fits sub => fits.sublist sub) ⟨by simp, by simp, by simp⟩
    (fun f s reference fits => ?_) (fun f s plain fits => ?_) (fun f s demand fits => ?_) inv
  · rw [coalesce_guard]; exact fits.coalesced reference
  · rw [appendDown_guard]; exact fits.appended plain
  · rw [placeDemand_guard]; exact fits.demanded demand

/-- Every operation that puts a frame into the downstream queue puts a marked one there. -/
theorem Reaches.referencesMarked {k : Nat} {s t : State} (h : Reaches k s t) (inv : ReferencesMarked s) :
    ReferencesMarked t := by
  refine h.downQueue (P := fun q => ∀ f ∈ q, FrameMarked f) (fun marked sub f mem => marked f (sub.subset mem)) (by simp)
    (fun f s reference marked g mem => ?_) (fun f s plain marked g mem => ?_) (fun f s demand marked g mem => ?_) inv
  · rw [coalesce_guard] at mem
    dsimp only at mem
    split at mem
    · obtain ⟨old, there, rfl⟩ := List.mem_map.mp mem
      split
      · exact reference.marked
      · exact marked old there
    · split at mem
      · obtain there | here := List.mem_append.mp mem
        · exact marked g there
        · obtain rfl := List.mem_singleton.mp here; exact reference.marked
      · exact marked g mem
  · rw [appendDown_guard] at mem
    dsimp only at mem
    split at mem
    · obtain there | here := List.mem_append.mp mem
      · exact marked g there
      · obtain rfl := List.mem_singleton.mp here; exact plain.marked
    · exact marked g mem
  · rw [placeDemand_guard] at mem
    dsimp only at mem
    split at mem
    · exact marked g mem
    · split at mem <;> obtain rfl | there := List.mem_cons.mp mem
      · exact (demand_kind demand).1
      · exact marked g there
      · exact (demand_kind demand).1
      · exact marked g (List.dropLast_subset _ there)

/-! ### The watch list and the history -/

theorem WatchListBounded.sublist {s t : State} (h : WatchListBounded s)
    (sub : t.zones.watchList.Sublist s.zones.watchList) : WatchListBounded t :=
  ⟨sub.length_le.trans h.1, h.2.sublist sub⟩

theorem WatchListBounded.addWatch {s : State} (e : WatchEntry) (h : WatchListBounded s) :
    WatchListBounded (addWatch e s).1 := by
  unfold Machine.addWatch isWatched
  split
  · exact h
  · next new =>
    split
    · next room =>
      refine ⟨by have : s.zones.watchList.length < 4 := room; simp; omega, ?_⟩
      have fresh : e ∉ s.zones.watchList := by simpa using new
      exact List.nodup_append.mpr ⟨h.2, by simp, fun a mem b single => by
        obtain rfl := List.mem_singleton.mp single
        exact fun same => fresh (same ▸ mem)⟩
    · exact h

theorem confirmWrites_emptied {s : State} (shaft : s.tables.shaft.state = .validated) :
    (confirmWrites s).zones.watchList = [] := by
  simp only [confirmWrites, shaft, if_true]; rfl

theorem Reaches.watchListBounded {k : Nat} {s t : State} (h : Reaches k s t) (inv : WatchListBounded s) :
    WatchListBounded t := by
  induction h with
  | refl => exact inv
  | trans _ _ first second => exact second (first inv)
  | handOnZones s => exact inv.sublist (by rw [handOnZones_zones]; exact List.filter_sublist)
  | watchZone e s => exact inv.addWatch e
  | restart s => exact inv.sublist (by simp [restarted, restartWrites])
  | confirm s =>
    by_cases shaft : s.tables.shaft.state = .validated
    · exact inv.sublist (by rw [confirmWrites_emptied shaft]; exact List.nil_sublist _)
    · exact inv.sublist (by rw [confirmWrites_watchList shaft])
  | nrst s => exact ⟨by simp [resetPart, State.reset], by simp [resetPart, State.reset]⟩
  | completePlan c _ _ _ _ _ _ before => exact (before inv).sublist (by simp)
  | resetTrip s =>
    obtain ⟨-, reset⟩ | ⟨-, -, reset⟩ | ⟨-, -, reset⟩ := resetTrip_cases s <;> rw [reset] <;>
      exact inv.sublist (by simp [chainClosedOf, clearedTo])
  | storeRow b n r s => exact inv.sublist (by cases b <;> exact List.Sublist.refl _)
  | cancel | releaseZone | holdZone => exact inv.sublist (List.Sublist.refl _)
  | _ => exact inv.sublist (by simp)

theorem HistoryBounded.of_same {s t : State} (history : t.pipeline.history = s.pipeline.history) (h : HistoryBounded s) :
    HistoryBounded t := by unfold HistoryBounded; rw [history]; exact h

theorem HistoryBounded.finishActive {s : State} (o : TripOutcome) (c : Option TripCause) (h : HistoryBounded s) :
    HistoryBounded (finishActive o c s) := finishActive_history_le o c s h

theorem HistoryBounded.finishBoth {s : State} (o : TripOutcome) (c : Option TripCause) (h : HistoryBounded s) :
    HistoryBounded (finishBoth o c s) := finishWaiting_history_le _ _ _ (h.finishActive o c)

theorem HistoryBounded.promote {s : State} (h : HistoryBounded s) : HistoryBounded (promote s) := by
  unfold Machine.promote; split
  · exact h
  · next t _ =>
    have moved : HistoryBounded (setActive (some (rebased t s)) (setWaiting none s)) := h
    dsimp only
    split
    · exact moved.finishActive _ _
    · split
      · exact moved.finishActive _ _
      · exact moved

theorem enterState_history (new : TripState) (s : State) : (enterState new s).pipeline.history = s.pipeline.history := by
  cases active : s.pipeline.active with
  | none => rw [enterState_none new s active]
  | some t => rw [enterState_pipeline new s active]

theorem HistoryBounded.enterStopping {s : State} (cause : TripCause) (h : HistoryBounded s) :
    HistoryBounded (enterStopping cause s) := by
  unfold Machine.enterStopping; split
  · exact h
  · next t _ =>
    have marked : HistoryBounded (setActive (some { t with cause := some cause }) s) := h
    dsimp only; split
    · refine HistoryBounded.finishBoth _ _ (marked.of_same ?_)
      simp [enterState_history]
    · have discarded : HistoryBounded (finishWaiting .discarded none (setActive (some { t with cause := some cause }) s)) :=
        finishWaiting_history_le _ _ _ marked
      exact discarded.of_same (by simp [enterState_history])

theorem HistoryBounded.reportCause {s : State} (c : Cause) (h : HistoryBounded s) : HistoryBounded (reportCause c s) := by
  obtain ⟨-, same⟩ | ⟨-, trips⟩ | ⟨-, added⟩ := reportCause_cases c s
  · rwa [same]
  · have demanded : HistoryBounded (Machine.placeDemand partDemand (openChain c s)) := h.of_same (by simp [openChain])
    rw [trips]
    exact (demanded.finishBoth .tripped (some (.protective c))).of_same (by simp [protectiveTrip, beginEcho])
  · rw [added]; exact h

theorem datumMidTrip_history (c : Conveyance) (s : State) :
    (datumMidTrip c s).pipeline.history = s.pipeline.history := by
  unfold datumMidTrip; split
  · rfl
  · split <;> rfl

theorem Reaches.historyBounded {k : Nat} {s t : State} (h : Reaches k s t) (inv : HistoryBounded s) : HistoryBounded t := by
  induction h with
  | refl => exact inv
  | trans _ _ first second => exact second (first inv)
  | reportCause c s => exact inv.reportCause c
  | start s | creep s | settle s => exact inv.of_same (by simp [enterState_history])
  | enterStopping cause s => exact inv.enterStopping cause
  | finishBoth o c s => exact inv.finishBoth o c
  | promote o c s => exact (inv.finishActive o c).promote
  | completePlan c _ _ _ _ _ _ before => exact (before inv).of_same (datumMidTrip_history c _)
  | finishWaiting o c s => exact finishWaiting_history_le o c s inv
  | resetTrip s =>
    obtain ⟨-, reset⟩ | ⟨-, -, reset⟩ | ⟨-, -, reset⟩ := resetTrip_cases s <;> rw [reset] <;>
      exact inv.of_same (by simp [chainClosedOf, clearedTo])
  | restart s =>
    have emptied : (restarted s).pipeline.history = [] := by simp [restarted, restartWrites]
    unfold HistoryBounded; rw [emptied]; simp
  | nrst s => exact Nat.zero_le _
  | placeActive | placeWaiting => exact inv
  | _ => exact inv.of_same (by simp)

/-- Settles O14: each operation that lengthens a queue or a list, or counts, looks at its bound first. -/
theorem boundsHold : Obligations.BoundsHold := by
  refine ⟨fun _ _ => step_keeps (fun _ _ h => h) fun s t reached bounded => ?_,
    fun _ _ => step_keeps (fun _ _ h => h) fun _ _ => Reaches.referencesMarked⟩
  obtain ⟨down, up, watch, history, counters⟩ := bounded
  obtain ⟨counters, up⟩ := reached.notified.upBounded ⟨counters, up⟩
  exact ⟨reached.queueFits down, up, reached.watchListBounded watch, reached.historyBounded history, counters⟩

end Sys2Proof.Machine

/-! PROOF. P and the Zone Map are always those of the present trackers and pipeline (R107, R147, R148). -/

namespace Sys2Proof.Machine

variable {k : Nat}

/-! ### What a computation and a hand-on look at -/

theorem distanceToTarget_of_quiet {s t : State} (trip : Trip) (quiet : Quiet s t) :
    distanceToTarget trip t = distanceToTarget trip s := by
  have reported (c : Conveyance) := (quiet.depths c).2
  simp only [distanceToTarget, travelDone, stopDepthOf, stations, quiet.shaftRows, quiet.payouts, reported]

/-- What a computation looks at did not change between two hand-ons (R107). -/
theorem computeEnvelope_of_quiet {s t : State} (quiet : Quiet s t) : computeEnvelope t = computeEnvelope s := by
  have rows (r : Regime) : regimeRow r t = regimeRow r s := by simp only [regimeRow, quiet.profileRows]
  have zones : zoneList t = zoneList s := by simp only [zoneList, quiet.shaftRows]
  have row (c : Conveyance) : compartmentRow c t = compartmentRow c s := by simp only [compartmentRow, quiet.shaftRows]
  have datumed (c : Conveyance) := (quiet.depths c).1
  have reported (c : Conveyance) := (quiet.depths c).2
  have target (trip : Trip) (c : Conveyance) (row : CompartmentRow) :
      targetDistance trip c row t = targetDistance trip c row s := by
    simp only [targetDistance, distanceToTarget_of_quiet trip quiet, reported]
  have bounds (trip : Trip) (c : Conveyance) (r : RegimeRow) (row : CompartmentRow) :
      constraints trip c r row t = constraints trip c r row s := by
    simp only [constraints, datumed, reported, zones, target]
  have each (trip : Trip) (r : RegimeRow) : envelopesFor trip r t = envelopesFor trip r s := by
    simp only [envelopesFor, envelopeOf, bounds, row]
  unfold computeEnvelope
  rw [quiet.state, quiet.active]
  simp only [rows, each]

theorem EnvelopeCurrent.of_quiet {s t : State} (h : EnvelopeCurrent s) (quiet : Quiet s t) : EnvelopeCurrent t := by
  rw [EnvelopeCurrent, quiet.envelope, h, computeEnvelope_of_quiet quiet]

theorem ZoneMapCurrent.of_quiet {s t : State} (h : ZoneMapCurrent s) (quiet : Quiet s t) : ZoneMapCurrent t := by
  obtain ⟨occupancy, active, waiting, state⟩ := h
  refine ⟨?_, by rw [quiet.activeSwept, active, quiet.active], by rw [quiet.waitingSwept, waiting, quiet.waiting],
    by rw [quiet.activeState, state, quiet.active]⟩
  rw [quiet.occupancy, occupancy]
  congr 1; funext c
  obtain ⟨datumed, reported⟩ := quiet.depths c
  simp only [occupancyOf, datumed, reported, compartmentRow, zoneList, quiet.shaftRows]

theorem WatchedZonesBusy.of_quiet {s t : State} (h : WatchedZonesBusy s) (quiet : Quiet s t) : WatchedZonesBusy t := by
  intro e mem
  rw [quiet.staysWatched]
  obtain old | new := quiet.watched e mem
  · exact h e old
  · exact new

/-- A hand-on leaves the Zone Map with what the trackers and the pipeline show (R147, R148). -/
theorem zoneMapCurrent_handOn (s : State) : ZoneMapCurrent (handOn s) := by
  have zones : (handOn s).zones = (handOnZones (recomputeSpeed s)).zones := rfl
  rw [handOnZones_zones] at zones
  refine ⟨?_, by rw [zones]; simp [takeHandOn], by rw [zones]; simp [takeHandOn], by rw [zones]; simp [takeHandOn]⟩
  have occupancy : (handOn s).zones.occupancy = .of fun c => occupancyOf c (recomputeSpeed s) := by rw [zones]; rfl
  rw [occupancy]
  congr 1; funext c
  simp only [occupancyOf, tracker, compartmentRow, zoneList, handOn_trackers, handOn_tables, recomputeSpeed_trackers,
    recomputeSpeed_tables]

/-! ### Every step -/

/-- What a hand-on brings about, and nothing between two hand-ons takes away, stands after every step if it stands at
reset. -/
theorem step_keeps_handedOn {Inv : State → Prop} (ignoresPending : ∀ s rest, Inv s → Inv { s with pending := rest })
    (handed : ∀ s, Inv (handOn s)) (quietly : ∀ {s t}, Inv s → Quiet s t → Inv t) (reset : Inv State.reset)
    (ignoresInputs : ∀ s, Inv State.reset → Inv (resetPart s)) {s t : State} (inv : Inv s) (run : step s = .next t) :
    Inv t := by
  unfold step at run
  split at run
  · next c rest _ =>
    by_cases nrst : c = .nrst
    · subst nrst
      obtain rfl : resetPart _ = t := by injection run
      exact ignoresInputs _ reset
    · obtain ⟨v, ends, offered⟩ := exec_endsOffering (k := 4) (by omega) nrst run (by omega)
      have ended : Inv v := by
        obtain ⟨u, -, rfl⟩ | ⟨-, quiet⟩ := ends
        · exact handed u
        · exact quietly (ignoresPending s rest inv) quiet
      obtain rfl | ⟨m, f, -, rfl⟩ := offered
      · exact ended
      · exact quietly ended (quiet_offerUp m f v)
  · obtain rfl : passMicrosecond s = t := by injection run
    exact quietly inv (quiet_passMicrosecond s)

/-- Settles O11: each event that may change an input of the Envelope Unit ends in a hand-on, which computes first. -/
theorem envelopeStaysCurrent : Obligations.EnvelopeStaysCurrent :=
  fun _ _ => step_keeps_handedOn (Inv := EnvelopeCurrent) (fun _ _ h => h) handOn_envelope (fun h => h.of_quiet) rfl fun _ h => h

/-! ### The judgement of the watch list (R155) -/

/-- The entries that a state keeps watched. -/
def stillWatched (list : List WatchEntry) (t : State) : List WatchEntry :=
  list.filter fun e => (summaryOf e.zone t).staysWatched

/-- The notices of the entries that a state has set free. -/
def clearNotices (list : List WatchEntry) (t : State) : List UpFrame :=
  (list.filter fun e => !(summaryOf e.zone t).staysWatched).map fun e => { frame := zoneClearNotice e t, mark := .part }

/-- An event judged the list, with nothing offered before its notices but flags'. -/
def ListJudged (s t : State) : Prop :=
  t.zones.watchList = stillWatched s.zones.watchList t
    ∧ ∃ first, t.line.queue = s.line.queue ++ first ++ (clearNotices s.zones.watchList t).take (16 - (s.line.queue ++ first).length)
      ∧ ∀ f ∈ first, IsAttention f

theorem stillWatched_of_busy {s t : State} (busy : WatchedZonesBusy s)
    (same : ∀ z, (summaryOf z t).staysWatched = (summaryOf z s).staysWatched) :
    stillWatched s.zones.watchList t = s.zones.watchList ∧ clearNotices s.zones.watchList t = [] := by
  constructor
  · exact List.filter_eq_self.mpr fun e mem => by rw [same]; exact busy e mem
  · rw [clearNotices, List.map_eq_nil_iff, List.filter_eq_nil_iff]
    exact fun e mem => by rw [same, busy e mem]; simp

/-- Between two hand-ons the judgement has nothing to remove. -/
theorem listJudged_of_quiet {s t : State} (busy : WatchedZonesBusy s) (quiet : Quiet s t) (notices : NoticesOnly s t) :
    ListJudged s t := by
  obtain ⟨list, first, queue, attention⟩ := notices
  obtain ⟨all, none⟩ := stillWatched_of_busy busy quiet.staysWatched
  exact ⟨by rw [all, list], first, by rw [none, queue]; simp, attention⟩

theorem listJudged_of_handOn {s u : State} (notices : NoticesOnly s u) : ListJudged s (handOn u) := by
  obtain ⟨list, first, queue, attention⟩ := notices
  have zones : (handOn u).zones = (handOnZones (recomputeSpeed u)).zones := rfl
  rw [handOnZones_zones] at zones
  have holders : (handOn u).zones.holders = (takeHandOn (recomputeSpeed u)).zones.holders := by rw [zones]
  have same (z : Nat) : summaryOf z (handOn u) = summaryOf z (takeHandOn (recomputeSpeed u)) :=
    summaryOf_congr z (by simp [takeHandOn]) (by rw [zones]) (by rw [zones]) (by rw [zones]) holders
  have notice (e : WatchEntry) : zoneClearNotice e (handOn u) = zoneClearNotice e (takeHandOn (recomputeSpeed u)) := by
    simp only [zoneClearNotice, same, holderOf, holders]
  refine ⟨?_, first, ?_, attention⟩
  · rw [zones]
    simp only [stillWatched, same, ← list]
    rfl
  · have judged := judgeWatchList_queue (takeHandOn (recomputeSpeed u))
    have before : (takeHandOn (recomputeSpeed u)).line.queue = s.line.queue ++ first := queue
    have watched : (takeHandOn (recomputeSpeed u)).zones.watchList = s.zones.watchList := list
    rw [before, watched] at judged
    simp only [clearNotices, same, notice]
    exact judged

theorem Ends.listJudged {s t : State} (h : Ends k s t) (low : k ≤ 2) (busy : WatchedZonesBusy s) : ListJudged s t := by
  obtain ⟨u, reached, rfl⟩ | ⟨reached, quiet⟩ := h
  · exact listJudged_of_handOn (reached.notified.noticesOnly low)
  · exact listJudged_of_quiet busy quiet (reached.notified.noticesOnly low)

/-- A frame offered behind an event joins the tail, or is lost with DROP's notice at most behind it (R169). -/
theorem offerUp_tail (m : UpMark) (f : Frame) (s : State) :
    ∃ last, (offerUp m f s).line.queue = s.line.queue ++ last ∧ last.length ≤ 1
      ∧ ∀ g ∈ last, g = { frame := f, mark := m } ∨ IsAttention g := by
  unfold offerUp; split
  · exact ⟨[{ frame := f, mark := m }], rfl, by simp, by simp⟩
  · unfold raiseDrop; dsimp only; split
    · exact ⟨[], by simp, by simp, by simp⟩
    · split
      · refine ⟨[_], by simp [appendUp]; rfl, by simp, fun g mem => .inr ?_⟩
        obtain rfl := List.mem_singleton.mp mem
        exact attentionNotice_isAttention .drop _
      · exact ⟨[], by simp, by simp, by simp⟩

/-- The judgement of an event and the frame offered behind it, with the entries asked for. -/
def ListJudgedThenOffered (asked : List WatchEntry) (s t : State) : Prop :=
  t.zones.watchList = stillWatched s.zones.watchList t ++ asked
    ∧ ∃ first last, t.line.queue
        = s.line.queue ++ first ++ (clearNotices s.zones.watchList t).take (16 - (s.line.queue ++ first).length) ++ last
      ∧ (∀ f ∈ first, IsAttention f) ∧ last.length ≤ 1
      ∧ ∀ f ∈ last, f.mark = .field ∨ IsAttention f ∨ classOf f.frame.cls = .reply

/-- A frame offered leaves summaries and notices as they are. -/
theorem offerUp_judges (list : List WatchEntry) (m : UpMark) (f : Frame) (s : State) :
    stillWatched list (offerUp m f s) = stillWatched list s ∧ clearNotices list (offerUp m f s) = clearNotices list s := by
  have same (z : Nat) : summaryOf z (offerUp m f s) = summaryOf z s := summaryOf_congr z (by simp) (by simp) (by simp)
    (by simp) (by simp)
  have notice (e : WatchEntry) : zoneClearNotice e (offerUp m f s) = zoneClearNotice e s := by
    simp [zoneClearNotice, same, holderOf]
  simp only [stillWatched, clearNotices, same, notice, and_self]

theorem listJudgedThenOffered_of_offer {asked : List WatchEntry} {s v : State} {m : UpMark} {f : Frame}
    (list : v.zones.watchList = stillWatched s.zones.watchList v ++ asked)
    (queue : ∃ first, v.line.queue
        = s.line.queue ++ first ++ (clearNotices s.zones.watchList v).take (16 - (s.line.queue ++ first).length)
      ∧ ∀ f ∈ first, IsAttention f) (offered : m = .field ∨ classOf f.cls = .reply) :
    ListJudgedThenOffered asked s (offerUp m f v) := by
  obtain ⟨first, queue, attention⟩ := queue
  obtain ⟨still, clears⟩ := offerUp_judges s.zones.watchList m f v
  obtain ⟨last, tail, short, kinds⟩ := offerUp_tail m f v
  refine ⟨by rw [still]; simpa using list, first, last, by rw [tail, queue, clears], attention, short, fun g mem => ?_⟩
  obtain rfl | notice := kinds g mem
  · exact offered.imp_right .inr
  · exact .inr (.inl notice)

theorem EndsOffering.listJudged {s t : State} (h : EndsOffering k s t) (low : k ≤ 2) (busy : WatchedZonesBusy s) :
    ListJudgedThenOffered [] s t := by
  obtain ⟨v, ends, offered⟩ := h
  obtain ⟨list, queue⟩ := ends.listJudged low busy
  obtain rfl | ⟨m, f, kind, rfl⟩ := offered
  · obtain ⟨first, queue, attention⟩ := queue
    exact ⟨by simpa using list, first, [], by simpa using queue, attention, by simp, by simp⟩
  · exact listJudgedThenOffered_of_offer (by simpa using list) queue kind

/-- A zone inquiry is served as any other event, or adds an entry on a busy zone (R153, R154). -/
theorem answerRequest_inquiry (origin : Byte) (params : List Byte) (s : State) :
    let after := (answerRequest origin (RequestKind.code .zoneInquiry) params s).1
    Ends 2 s after ∨ ∃ e : WatchEntry, (summaryOf e.zone s).staysWatched = true ∧ after = (addWatch e s).1 := by
  have inquired : Ends 2 s (takeZoneInquiry origin params s).1
      ∨ ∃ e : WatchEntry, (summaryOf e.zone s).staysWatched = true ∧ (takeZoneInquiry origin params s).1 = (addWatch e s).1 := by
    unfold takeZoneInquiry; dsimp only; split
    · exact .inl (.refl s)
    · split
      · exact .inl (.refl s)
      · obtain ends | ⟨e, -, busy, same⟩ := withdraw_cases (k := 2) le_rfl (field params 0 1) origin s
        · exact .inl ends
        · exact .inr ⟨e, busy, same⟩
      · exact .inl (.refl s)
  unfold answerRequest
  simp only [RequestKind.ofByte_code]
  split
  · exact .inl (.refl s)
  · split
    · exact .inl (.refl s)
    · exact inquired

/-- An entry added stands behind the others, and nothing goes upstream. -/
theorem addWatch_adds (e : WatchEntry) (s : State) :
    ∃ asked, (addWatch e s).1.zones.watchList = s.zones.watchList ++ asked ∧ (asked = [] ∨ asked = [e]) := by
  unfold addWatch; split
  · exact ⟨[], by simp, .inl rfl⟩
  · split
    · exact ⟨[e], rfl, .inr rfl⟩
    · exact ⟨[], by simp, .inl rfl⟩

theorem listJudged_of_inquiry (origin tag : Byte) (params : List Byte) {s : State} (busy : WatchedZonesBusy s) :
    ∃ asked, ListJudgedThenOffered asked s (serveRequest origin (RequestKind.code .zoneInquiry) tag params s)
      ∧ (asked = [] ∨ ∃ e, asked = [e]) := by
  unfold serveRequest
  dsimp only
  obtain ends | ⟨e, zone, same⟩ := answerRequest_inquiry origin params s
  · obtain ⟨list, queue⟩ := ends.listJudged le_rfl busy
    exact ⟨[], listJudgedThenOffered_of_offer (by simpa using list) queue (.inr rfl), .inl rfl⟩
  · obtain ⟨asked, added, one⟩ := addWatch_adds e s
    have quiet := quiet_addWatch e s zone
    obtain ⟨all, none⟩ := stillWatched_of_busy busy quiet.staysWatched
    refine ⟨asked, ?_, one.imp_right fun is => ⟨e, is⟩⟩
    rw [same]
    refine listJudgedThenOffered_of_offer (by rw [all, added]) ⟨[], ?_, by simp⟩ (.inr rfl)
    rw [none]; simp

/-! ### The commands by their bytes (R163, R164, R166) -/

/-- Bytes on a link whose receiver is in IDLE are judged together, past 62 of them as malformed (R163, R164). -/
theorem deliver_of_ready {l : Link} {s : State} (bytes : List LineByte) (idle : receiver l s = .idle) (some : bytes ≠ []) :
    deliver l bytes s = takeJudged l (judgeFrame (bytes.map LineByte.value) (bytes.any fun b => !b.stopBit)) s := by
  by_cases fits : bytes.length ≤ 62
  · exact deliver_of_idle bytes idle some fits
  · obtain ⟨b, rest, rfl⟩ := List.exists_cons_of_ne_nil some
    have run : (b :: rest).foldl takeByte (receiver l s) = .discarding := by
      rw [idle, List.foldl_cons, takeByte]
      exact foldl_takeByte_overlong rest _ _ (by simp) (by simp at fits ⊢; omega)
    have malformed : judgeFrame ((b :: rest).map LineByte.value) ((b :: rest).any fun b => !b.stopBit) = .malformed := by
      unfold judgeFrame
      dsimp only
      rw [if_pos (by rw [List.length_map]; omega)]
    have back : setReceiver l .idle s = s := by rw [← idle]; cases l <;> rfl
    have once (r : Receiver) : setReceiver l .idle (setReceiver l r s) = setReceiver l .idle s := by cases l <;> rfl
    have now (r : Receiver) : receiver l (setReceiver l r s) = r := by cases l <;> rfl
    rw [malformed, deliver, silence, run]
    simp only [now, once, back, ended]

/-- Bytes that a receiver in IDLE rejects are dropped and counted (R164). -/
theorem endsOffering_of_rejected {l : Link} {s : State} {bytes : List LineByte} (idle : receiver l s = .idle)
    (rejects : rejected bytes = true) : EndsOffering k s (deliver l bytes s) := by
  unfold rejected at rejects
  split at rejects
  · exact absurd rejects (by simp)
  · next judged notWhole =>
    rw [deliver_of_ready bytes idle (by simpa using rejects)]
    cases which : judgeFrame (bytes.map LineByte.value) (bytes.any fun b => !b.stopBit) with
    | malformed => exact (ends_count .malformed s).offering
    | checkError => exact Ends.offering (.after (.count _ s) (quiet_count _ s) (ends_setFlag .link _))
    | whole f => exact absurd which (notWhole f)

theorem silence_of_idle {l : Link} {s : State} (idle : receiver l s = .idle) : silence l s = s := by
  have back : setReceiver l .idle s = s := by rw [← idle]; cases l <;> rfl
  simp only [silence, idle, ended, back]

/-! ### Every command but those that write the watch list -/

/-- A frame of a D-link class, delivered whole. -/
theorem endsOffering_fieldFrame (cls origin target : Byte) {body : List Byte} {s : State} (ready : Ready .d s)
    (fits : bodyFits body = true) : EndsOffering 2 s (deliverFrame .d cls origin target body s) := by
  rw [deliverFrame_of_idle _ _ _ ready (of_decide_eq_true fits)]
  exact endsOffering_takeFromD (by omega) _ s

/-- A frame of a C-link class that is no request to the part, delivered whole. -/
theorem endsOffering_controlFrame (cls origin target : Byte) {body : List Byte} {s : State} (ready : Ready .c s)
    (fits : bodyFits body = true) (other : classOf cls = .request → target ≠ Config.partStation) :
    EndsOffering 2 s (deliverFrame .c cls origin target body s) := by
  rw [deliverFrame_of_idle _ _ _ ready (of_decide_eq_true fits)]
  exact endsOffering_takeFromC_other (by omega) _ s other

theorem endsOffering_request (origin kind tag : Byte) {params : List Byte} {s : State} (ready : Ready .c s)
    (fits : paramsFit params = true) (lists : ∀ rule, RequestKind.ofByte kind = some rule → ¬WritesWatchList rule s) :
    EndsOffering 2 s (deliverRequest origin kind tag params s) := by
  rw [deliverRequest_of_ready _ _ _ ready (of_decide_eq_true fits)]
  exact endsOffering_serveRequest (by omega) origin kind tag params s (fun _ => lists) (by omega)

theorem endsOffering_requestOf {rule : RequestKind} (origin tag : Byte) {params : List Byte} {s : State} (ready : Ready .c s)
    (fits : paramsFit params = true) (lists : ¬WritesWatchList rule s) :
    EndsOffering 2 s (deliverRequest origin rule.code tag params s) :=
  endsOffering_request origin _ tag ready fits fun named is => by
    rw [RequestKind.ofByte_code, Option.some.injEq] at is
    exact is ▸ lists

/-- A command that is what its row says, and does not write the watch list, offers its judgement and its frame alone. -/
theorem exec_listJudged {c : Instr} {s t : State} (busy : WatchedZonesBusy s) (fits : c.wellFormed = true)
    (readyC : Ready .c s) (readyD : Ready .d s) (run : Completes c s t) (notStart : c ≠ .cTransmitStart)
    (keepsList : ¬EmptiesWatchList c s) :
    ∃ asked, ListJudgedThenOffered asked s t
      ∧ (asked = [] ∨ ∃ e origin tag params, asked = [e] ∧ c = .zoneInquiry origin tag params) := by
  have judged {u : State} (ends : EndsOffering 2 s u) (is : exec c s = .next u) :
      ∃ asked, ListJudgedThenOffered asked s t
        ∧ (asked = [] ∨ ∃ e origin tag params, asked = [e] ∧ c = .zoneInquiry origin tag params) := by
    obtain rfl : t = u := by
      have := run.symm.trans is
      injection this
    exact ⟨[], ends.listJudged le_rfl busy, .inl rfl⟩
  have passes {cls target : Byte} (h : isOtherCommand cls target = true) (request : classOf cls = .request) :
      target ≠ Config.partStation := by
    simpa [isOtherCommand, request] using h
  have quiet (rule : RequestKind) (h : rule ≠ .restart ∧ rule ≠ .zoneInquiry ∧ rule ≠ .commitConfirm) :
      ¬WritesWatchList rule s := by
    rintro (is | is | ⟨is, -⟩)
    · exact h.1 is
    · exact h.2.1 is
    · exact h.2.2 is
  cases c
  case nrst => exact absurd (.inl rfl) keepsList
  case cTransmitStart => exact absurd rfl notStart
  case keyChange position => exact judged (ends_turnKey le_rfl position s).offering rfl
  case sampleWatchExpiry d => exact judged (ends_expireSampleWatch (by omega) d s).offering rfl
  case restTimerExpiry d => exact judged (ends_expireRestTimer (by omega) d s).offering rfl
  case dTransmitStart => exact judged (ends_startDown le_rfl s).offering rfl
  case dTransmitEnd => exact judged (ends_endDown le_rfl s).offering rfl
  case cTransmitEnd => exact judged (ends_endUp le_rfl s).offering rfl
  case validationComplete =>
    exact judged (Ends.quiet (.completeValidation s le_rfl) (quiet_completeValidation s)).offering rfl
  case refWatchExpiry => exact judged (ends_expireWatch (by omega) s).offering rfl
  case stopDeadlineExpiry => exact judged (ends_expireDeadline s).offering rfl
  case echoTimerExpiry => exact judged (ends_expireEcho (by omega) s).offering rfl
  case receiverIdle l =>
    have idle : receiver l s = .idle := by cases l <;> assumption
    exact judged (Ends.offering (.refl s)) (by rw [← silence_of_idle idle]; exact congrArg _ (by rw [silence_of_idle idle]))
  case frameRejected l bytes =>
    have idle : receiver l s = .idle := by cases l <;> assumption
    exact judged (endsOffering_of_rejected idle fits) rfl
  case drumSample => exact judged (endsOffering_fieldFrame _ _ _ readyD fits) rfl
  case markerEvent => exact judged (endsOffering_fieldFrame _ _ _ readyD fits) rfl
  case ropeLoad => exact judged (endsOffering_fieldFrame _ _ _ readyD fits) rfl
  case interlockState => exact judged (endsOffering_fieldFrame _ _ _ readyD fits) rfl
  case driveAnswer => exact judged (endsOffering_fieldFrame _ _ _ readyD fits) rfl
  case dLinkOtherFrame => exact judged (endsOffering_fieldFrame _ _ _ readyD (Bool.and_eq_true_iff.mp fits).2) rfl
  case speedReference => exact judged (endsOffering_controlFrame _ _ _ readyC fits fun is => absurd is (by decide)) rfl
  case brakeCommand => exact judged (endsOffering_controlFrame _ _ _ readyC fits fun is => absurd is (by decide)) rfl
  case clutchCommand => exact judged (endsOffering_controlFrame _ _ _ readyC fits fun is => absurd is (by decide)) rfl
  case brakeDemand => exact judged (endsOffering_controlFrame _ _ _ readyC fits fun is => absurd is (by decide)) rfl
  case downstreamOtherFrame =>
    obtain ⟨other, body⟩ := Bool.and_eq_true_iff.mp fits
    exact judged (endsOffering_controlFrame _ _ _ readyC body (passes other)) rfl
  case unknownRequest =>
    obtain ⟨undefined, params⟩ := Bool.and_eq_true_iff.mp fits
    refine judged (endsOffering_request _ _ _ readyC params fun rule named => ?_) rfl
    simp [isUndefinedKind, named] at undefined
  case restart origin tag params => exact absurd (.inr (.inl ⟨origin, tag, params, rfl⟩)) keepsList
  case commitConfirm origin tag params =>
    refine judged (endsOffering_requestOf _ _ readyC fits ?_) rfl
    rintro (is | is | ⟨-, shaft⟩)
    · exact absurd is (by decide)
    · exact absurd is (by decide)
    · exact keepsList (.inr (.inr ⟨origin, tag, params, rfl, shaft⟩))
  case zoneInquiry origin tag params =>
    have served : exec (.zoneInquiry origin tag params) s = .next (deliverRequest origin (RequestKind.code .zoneInquiry) tag params s) := rfl
    rw [deliverRequest_of_ready _ _ _ readyC (of_decide_eq_true fits)] at served
    obtain rfl : t = serveRequest origin (RequestKind.code .zoneInquiry) tag params s := by
      have := run.symm.trans served
      injection this
    obtain ⟨asked, judged, one⟩ := listJudged_of_inquiry origin tag params busy
    exact ⟨asked, judged, one.imp_right fun ⟨e, is⟩ => ⟨e, origin, tag, params, is, rfl⟩⟩
  all_goals exact judged (endsOffering_requestOf _ _ readyC fits (quiet _ (by decide))) rfl

theorem staysWatched_iff (z : Nat) (t : State) : (summaryOf z t).staysWatched
    = decide (summaryOf z t = .occupied ∨ summaryOf z t = .plannedActive ∨ summaryOf z t = .plannedWaiting) := by
  cases summaryOf z t <;> rfl

/-- Settles O17: each event that may change a zone ends in a hand-on, which judges the list once; between two there is nothing
to remove, and the reply or field frame comes last. -/
theorem zoneMapStaysCurrent : Obligations.ZoneMapStaysCurrent := by
  refine ⟨fun _ _ => step_keeps_handedOn (Inv := ZoneMapCurrent) (fun _ _ h => h) zoneMapCurrent_handOn
      (fun h => h.of_quiet) resetMeetsWhatStands.2.2.2.2.2.2.2.2.2.2.2.2.1 fun _ h => h,
    fun _ _ => step_keeps_handedOn (Inv := WatchedZonesBusy) (fun _ _ h => h) (fun s => handOnZones_watched _)
      (fun h => h.of_quiet) resetMeetsWhatStands.2.2.2.2.2.2.2.2.2.2.2.2.2.2.1 fun _ h => h,
    fun c s t busy fits readyC readyD run notStart keepsList => ?_⟩
  obtain ⟨asked, ⟨list, first, last, queue, attention, short, kinds⟩, one⟩ :=
    exec_listJudged busy fits readyC readyD run notStart keepsList
  simp only [stillWatched, clearNotices, staysWatched_iff] at list queue
  exact ⟨⟨asked, list, one⟩, first, last, queue, attention, short, kinds⟩

end Sys2Proof.Machine

/-! PROOF. The lines: frames and silence, the receivers and transmitters, the upstream queue, flags and counters (R116, R163 to
R170, R184 to R186), and NRST (R130). -/

namespace Sys2Proof.Machine

/-! ### Frames judged (R164, R165) -/

/-- A frame's bytes with any check word and any stop bits: whole with its own word and every stop bit, in error otherwise. -/
theorem judgeFrame_withCheck (cls origin target : Byte) {body : List Byte} (fits : body.length ≤ 56) (w : BitVec 16)
    (bad : Bool) :
    judgeFrame (frameBytes { makeFrame cls origin target body with check := w }) bad
      = if bad = true ∨ w ≠ (makeFrame cls origin target body).check then .checkError
        else .whole { makeFrame cls origin target body with check := w } := by
  have lengthField : (BitVec.ofNat 8 body.length).toNat = body.length := by
    rw [BitVec.toNat_ofNat]; omega
  have covered (check : List Byte) : (frameHead cls origin target body ++ check).take (body.length + 4)
      = frameHead cls origin target body := List.take_left' (frameHead_length cls origin target body)
  have size : (frameBytes { makeFrame cls origin target body with check := w }).length = body.length + 6 :=
    frameBytes_length _
  have sizeFits : ¬(body.length + 6 < 6 ∨ 62 < body.length + 6) := by omega
  unfold judgeFrame
  simp only [size, if_neg sizeFits]
  simp only [frameBytes, makeFrame, frameHead, List.cons_append, List.nil_append] at covered ⊢
  simp [lengthField, Nat.not_lt.mpr fits, covered, ofNat_be_beBytes_two]
  congr

/-- Settles O1: the three judgements are the branches of one. -/
theorem framesSurviveTheLine : Obligations.FramesSurviveTheLine := by
  intro cls origin target body fits
  refine ⟨judgeFrame_frameBytes cls origin target fits, ?_, fun w other => ?_⟩
  · exact (judgeFrame_withCheck cls origin target fits _ true).trans (if_pos (.inl rfl))
  · exact (judgeFrame_withCheck cls origin target fits w false).trans (if_pos (.inr other))

/-! ### Frames and requests delivered (R166, R167) -/

/-- Settles O2: each frame is delivered whole, and each request is one of these frames. -/
theorem frameCommandsReachTheirBlock : Obligations.FrameCommandsReachTheirBlock := by
  refine ⟨fun s origin target body fits => ⟨fun ready => ?field, fun ready => ?control⟩,
    fun s origin tag params ready fits => ?requests⟩
  case field =>
    have taken (cls : Byte) : deliverFrame .d cls origin target body s = takeFromD (makeFrame cls origin target body) s :=
      deliverFrame_of_idle cls origin target ready fits
    exact ⟨congrArg _ (taken _), congrArg _ (taken _), congrArg _ (taken _), congrArg _ (taken _), congrArg _ (taken _),
      fun cls => congrArg _ (taken cls)⟩
  case control =>
    have taken (cls : Byte) : deliverFrame .c cls origin target body s = takeFromC (makeFrame cls origin target body) s :=
      deliverFrame_of_idle cls origin target ready fits
    exact ⟨congrArg _ (taken _), congrArg _ (taken _), congrArg _ (taken _), congrArg _ (taken _),
      fun cls => congrArg _ (taken cls)⟩
  case requests =>
    have served (kind : Byte) : deliverRequest origin kind tag params s = serveRequest origin kind tag params s :=
      deliverRequest_of_ready origin kind tag ready fits
    exact ⟨fun kind => congrArg _ (served kind), congrArg _ (served _), congrArg _ (served _), congrArg _ (served _),
      congrArg _ (served _), congrArg _ (served _), congrArg _ (served _), congrArg _ (served _), congrArg _ (served _),
      congrArg _ (served _), congrArg _ (served _), congrArg _ (served _), congrArg _ (served _), congrArg _ (served _),
      congrArg _ (served _), congrArg _ (served _)⟩

/-- Settles O3: the bytes are judged together, past 62 of them as malformed. -/
theorem rejectedFramesAreCounted : Obligations.RejectedFramesAreCounted := by
  intro s l bytes ready rejects
  have some : bytes ≠ [] := by
    rintro rfl
    simp [rejected, judgeFrame] at rejects
  have judged := deliver_of_ready bytes ready some
  have asJudged {j : Judged} (is : judgeFrame (bytes.map LineByte.value) (bytes.any fun b => !b.stopBit) = j) :
      Completes (.frameRejected l bytes) s (takeJudged l j s) := congrArg Host.Outcome.next (is ▸ judged)
  refine ⟨fun overlong => asJudged (j := .malformed) ?_, fun malformed => asJudged malformed, fun _ failed => ?_⟩
  · unfold judgeFrame
    exact if_pos (.inr (by rwa [List.length_map]))
  · have counted := asJudged failed
    cases l <;> exact counted

/-- What silence and a run of bytes with silence behind it leave of a receiver that delivers nothing (R163). -/
theorem setReceiver_twice (l : Link) (a b : Receiver) (s : State) :
    setReceiver l a (setReceiver l b s) = setReceiver l a s := by cases l <;> rfl

theorem receiver_setReceiver (l : Link) (r : Receiver) (s : State) : receiver l (setReceiver l r s) = r := by
  cases l <;> rfl

/-- A receiver that no byte moves ends at the silence as it would without them. -/
theorem deliver_of_unmoved {l : Link} {s : State} {bytes : List LineByte}
    (unmoved : bytes.foldl takeByte (receiver l s) = receiver l s) : deliver l bytes s = silence l s := by
  have same : setReceiver l (receiver l s) s = s := by cases l <;> rfl
  rw [deliver, unmoved, same]

/-- Settles O4: R163's table, row by row. -/
theorem silenceEndsAFrame : Obligations.SilenceEndsAFrame := by
  intro s l
  refine ⟨fun ready => congrArg _ (silence_of_idle ready), fun waiting bytes => ?waiting, fun discarding bytes => ?discarding,
    fun buffer bad receiving => ?receiving⟩
  case waiting =>
    have ends : silence l s = setReceiver l .idle s := by simp only [silence, waiting, ended]
    have unmoved : bytes.foldl takeByte (receiver l s) = receiver l s := by rw [waiting, foldl_takeByte_waitingIdle]
    exact ⟨congrArg _ ends, congrArg _ ((deliver_of_unmoved unmoved).trans ends)⟩
  case discarding =>
    have ends : silence l s = count .malformed (setReceiver l .idle s) := by
      simp only [silence, discarding, ended, takeJudged]
    have unmoved : bytes.foldl takeByte (receiver l s) = receiver l s := by rw [discarding, foldl_takeByte_discarding]
    exact ⟨congrArg _ ends, congrArg _ ((deliver_of_unmoved unmoved).trans ends)⟩
  case receiving =>
    have ends : silence l s = takeJudged l (judgeFrame buffer bad) (setReceiver l .idle s) := by
      simp only [silence, receiving, ended]
    exact congrArg _ ends

/-! ### The upstream queue, the flags and the counters (R169, R184 to R186) -/

/-- A drop sets DROP as any event sets its flag (R169, R190). -/
theorem raiseDrop_eq_setFlag (s : State) : raiseDrop s = setFlag .drop s := by
  unfold raiseDrop setFlag offerUp
  dsimp only
  split
  · rfl
  · split
    · rfl
    · have set : flagSet .drop (count .droppedUp (markFlag .drop s)) = true := by simp [flagSet_markFlag]
      rw [raiseDrop, if_pos set]

theorem offerUp_of_room {m : UpMark} {s : State} (f : Frame) (room : upRoom m s = true) :
    offerUp m f s = { s with line.queue := s.line.queue ++ [{ frame := f, mark := m }] } := by
  rw [offerUp, if_pos room]; rfl

theorem offerUp_of_noRoom {m : UpMark} {s : State} (f : Frame) (full : ¬upRoom m s = true) :
    offerUp m f s = setFlag .drop (count .droppedUp s) := by
  rw [offerUp, if_neg full, raiseDrop_eq_setFlag]

/-- A frame of the D-link that is no REQUEST is observed, then offered upstream (R167, R168). -/
theorem takeFromD_of_field {f : Frame} (s : State) (notRequest : classOf f.cls ≠ .request) :
    takeFromD f s = offerUp .field f (observe f s) := by
  unfold takeFromD; split
  · next request => exact absurd request notRequest
  · rfl

theorem forwards_unobserved {cls origin target : Byte} {body : List Byte} {s : State} {i : Instr} (ready : Ready .d s)
    (fits : body.length ≤ 56) (runs : exec i s = .next (deliverFrame .d cls origin target body s))
    (notRequest : classOf cls ≠ .request) (unobserved : observe (makeFrame cls origin target body) s = s) :
    Forwards i (makeFrame cls origin target body) s s := by
  rw [Forwards, runs, deliverFrame_of_idle _ _ _ ready fits]
  have taken := takeFromD_of_field (f := makeFrame cls origin target body) s notRequest
  rw [unobserved] at taken
  exact congrArg _ taken

theorem Drum.ofCode_none {n : Nat} (undefined : 2 ≤ n) : Drum.ofCode n = none := by
  unfold Drum.ofCode; split <;> first | omega | rfl

theorem Conveyance.ofCode_none {n : Nat} (undefined : 3 ≤ n) : Conveyance.ofCode n = none := by
  unfold Conveyance.ofCode; split <;> first | omega | rfl

theorem Clutch.ofCode_none {n : Nat} (undefined : n = 0 ∨ 4 ≤ n) : Clutch.ofCode n = none := by
  unfold Clutch.ofCode; split <;> first | omega | rfl

theorem readSample_none {body : List Byte} (h : body.length ≠ 8 ∨ 2 ≤ field body 0 1) : readSample body = none := by
  unfold readSample
  obtain length | drum := h
  · rw [if_neg length]
  · rw [Drum.ofCode_none drum]; simp

theorem readMarker_none {body : List Byte}
    (h : body.length ≠ 4 ∨ 3 ≤ field body 0 1 ∨ (field body 3 1 ≠ 1 ∧ field body 3 1 ≠ 2)) : readMarker body = none := by
  unfold readMarker
  obtain length | conveyance | quality := h
  · rw [if_neg (fun h => length h.1)]
  · rw [Conveyance.ofCode_none conveyance]; simp
  · rw [if_neg (fun h => h.2.elim quality.1 quality.2)]

theorem readLoad_none {body : List Byte} (h : body.length ≠ 3 ∨ 3 ≤ field body 0 1) : readLoad body = none := by
  unfold readLoad
  obtain length | conveyance := h
  · rw [if_neg length]
  · rw [Conveyance.ofCode_none conveyance]; simp

theorem readInterlock_none {body : List Byte} (h : body.length ≠ 6 ∨ field body 4 1 = 0 ∨ 4 ≤ field body 4 1
    ∨ (field body 5 1 ≠ 1 ∧ field body 5 1 ≠ 2)) : readInterlock body = none := by
  unfold readInterlock
  obtain length | zero | high | brake := h
  · rw [if_neg (fun h => length h.1)]
  · rw [Clutch.ofCode_none (.inl zero)]; simp
  · rw [Clutch.ofCode_none (.inr high)]; simp
  · rw [if_neg (fun h => h.2.elim brake.1 brake.2)]

/-- A field frame that does not read is observed by no block (R167). -/
theorem fieldFrames_unread {s : State} {origin target : Byte} {body : List Byte} :
    (readSample body = none → observe (makeFrame 0x20 origin target body) s = s)
      ∧ (readMarker body = none → observe (makeFrame 0x21 origin target body) s = s)
      ∧ (readLoad body = none → observe (makeFrame 0x22 origin target body) s = s)
      ∧ (readInterlock body = none → observe (makeFrame 0x23 origin target body) s = s)
      ∧ (body.length ≠ 2 → observe (makeFrame 0x24 origin target body) s = s) := by
  refine ⟨fun h => ?_, fun h => ?_, fun h => ?_, fun h => ?_, fun h => ?_⟩
  · have observed : observe (makeFrame 0x20 origin target body) s
        = match readSample body with | some x => observeSample x s | none => s := rfl
    rw [observed, h]
  · have observed : observe (makeFrame 0x21 origin target body) s
        = match readMarker body with | some r => observeMarker r s | none => s := rfl
    rw [observed, h]
  · have observed : observe (makeFrame 0x22 origin target body) s
        = match readLoad body with | some r => observeLoad r s | none => s := rfl
    rw [observed, h]
  · have observed : observe (makeFrame 0x23 origin target body) s
        = match readInterlock body with | some image => observeInterlock image s | none => s := rfl
    rw [observed, h]
  · have observed : observe (makeFrame 0x24 origin target body) s = if body.length = 2 then observeAnswer s else s := rfl
    rw [observed, if_neg h]

theorem observe_of_otherField {cls : Byte} (origin target : Byte) (body : List Byte) (s : State)
    (other : isOtherField cls = true) : observe (makeFrame cls origin target body) s = s := by
  unfold isOtherField at other
  unfold observe makeFrame
  cases is : classOf cls <;> simp [is] at other ⊢

theorem takeFromC_of_otherCommand {cls target : Byte} (origin : Byte) (body : List Byte) (s : State)
    (other : isOtherCommand cls target = true) :
    takeFromC (makeFrame cls origin target body) s = appendDown { frame := makeFrame cls origin target body, source := none } s := by
  unfold isOtherCommand at other
  unfold takeFromC makeFrame
  cases is : classOf cls <;> simp_all [passDown]

/-- Settles O5: the queue by its room, a flag by its bit and a counter by its index; frames of no block by their class, and field
frames by their readings. -/
theorem otherFramesPass : Obligations.OtherFramesPass := by
  refine ⟨fun m f s => ?queue, fun bit f s at_bit => ?flags, fun i c s at_i => ?counters,
    fun s cls origin target body fits => ?frames⟩
  case queue =>
    have room : upRoom m s = true ↔ s.line.queue.length < (match m with | .field => 12 | .part => 16) := by
      cases m
      · exact upRoom_field s
      · exact upRoom_part s
    exact ⟨fun has => offerUp_of_room f (room.mpr has), fun full => offerUp_of_noRoom f (room.not.mpr full)⟩
  case flags =>
    have index : f.index = bit ∧ bit < 12 := by
      have bound : bit < 12 := by simpa using (List.getElem?_eq_some_iff.mp at_bit).1
      interval_cases bit <;> simp at at_bit <;> subst at_bit <;> exact ⟨rfl, by omega⟩
    obtain ⟨rfl, bound⟩ := index
    refine ⟨rfl, fun set => by rw [setFlag, if_pos set], fun clear => ?_⟩
    rw [setFlag, if_neg (by simp [clear])]
    cases f <;> rfl
  case counters =>
    have bound : i < 11 := by simpa using (List.getElem?_eq_some_iff.mp at_i).1
    interval_cases i <;> simp at at_i <;> subst at_i <;> exact ⟨_, rfl, rfl⟩
  case frames =>
    refine ⟨fun ready other notRequest => ?_, fun ready request => ?_, fun ready other => ?_, fun ready => ?_⟩
    · exact forwards_unobserved ready fits rfl notRequest (observe_of_otherField origin target body s other)
    · refine congrArg _ ((deliverFrame_of_idle cls origin target ready fits).trans ?_)
      simp [takeFrame, takeFromD, makeFrame, request]
    · refine congrArg _ ((deliverFrame_of_idle cls origin target ready fits).trans ?_)
      rw [← appendDown_eq_joinsTail]
      exact takeFromC_of_otherCommand origin body s other
    · obtain ⟨sample, marker, load, interlock, answer⟩ := fieldFrames_unread (s := s) (origin := origin) (target := target) (body := body)
      exact ⟨fun h => forwards_unobserved ready fits rfl (by decide) (sample (readSample_none h)),
        fun h => forwards_unobserved ready fits rfl (by decide) (marker (readMarker_none h)),
        fun h => forwards_unobserved ready fits rfl (by decide) (load (readLoad_none h)),
        fun h => forwards_unobserved ready fits rfl (by decide) (interlock (readInterlock_none h)),
        fun h => forwards_unobserved ready fits rfl (by decide) (answer h)⟩

/-! ### The transmitters (R116, R170) -/

theorem completes_of {i : Instr} {s t u : State} (run : exec i s = .next u) (same : u = t) : Completes i s t :=
  run.trans (congrArg _ same)

/-- Settles O6: the branches of the four operations. -/
theorem transmittersTakeTheHead : Obligations.TransmittersTakeTheHead := by
  refine fun s => ⟨fun f sending => ⟨completes_of rfl ?_, completes_of rfl ?_⟩,
    fun f sending => ⟨completes_of rfl ?_, completes_of rfl ?_⟩,
    fun free => ⟨fun empty => completes_of rfl ?_, fun f rest queue => completes_of rfl ?_⟩⟩
  · simp [endDown, sending]
  · simp [startDown, sending]
  · simp [endUp, sending]
  · simp [startUp, sending]
  · obtain free | free := free <;> simp [startUp, free, empty]
  · obtain free | free := free <;> simp [startUp, free, queue]

/-! ### Steps and reset -/

/-- Settles O7: a step takes the front command off the queue first. -/
theorem stepTakesTheFrontCommand : Obligations.StepTakesTheFrontCommand := fun _ _ => rfl

/-- Settles O8: what NRST leaves is the state after reset, with the three parts that stand outside it. -/
theorem nrstResetsEveryBlock : Obligations.NrstResetsEveryBlock := by
  intro s
  have notice : (resetPart s).line.queue = [{ frame := makeFrame 0x42 240 1 [1, 0, 0, 1], mark := .part }] := rfl
  refine ⟨resetPart s, rfl, rfl, rfl, rfl, rfl, rfl, rfl, rfl, rfl, rfl, rfl, fun b => ?_, fun d => ?_, fun c => ?_, rfl, rfl,
    rfl, rfl, rfl, rfl, rfl, rfl, notice⟩
  · cases b <;> exact ⟨rfl, rfl, rfl⟩
  · cases d <;> exact ⟨rfl, rfl, rfl, rfl, rfl⟩
  · cases c <;> exact ⟨rfl, rfl, rfl⟩

end Sys2Proof.Machine

/-! PROOF. The Reference Guard: references and commands on their way in, the transmitter's starts, and the guard's timers
(chapter 7). -/

namespace Sys2Proof.Machine

/-! ### Judging a reference (R112, R117) -/

/-- A speed points against the active trip's direction (R112). -/
def PointsAgainst (speed : Int) (s : State) : Prop :=
  ∃ trip, s.pipeline.active = some trip
    ∧ (trip.direction = .forward ∧ speed < 0 ∨ trip.direction = .reverse ∧ 0 < speed)

theorem zeroAgainst_of_against {speed : Int} {s : State} (against : PointsAgainst speed s) :
    zeroAgainst s.pipeline.active speed = 0 := by
  obtain ⟨trip, active, ⟨direction, sign⟩ | ⟨direction, sign⟩⟩ := against <;>
    simp only [zeroAgainst, active, direction, if_pos sign]

theorem zeroAgainst_of_along {speed : Int} {s : State} (along : ¬PointsAgainst speed s) :
    zeroAgainst s.pipeline.active speed = speed := by
  unfold zeroAgainst
  split
  · rfl
  · next trip active =>
    split
    · next direction => rw [if_neg fun sign => along ⟨trip, active, .inl ⟨direction, sign⟩⟩]
    · next direction => rw [if_neg fun sign => along ⟨trip, active, .inr ⟨direction, sign⟩⟩]

/-- A judged speed: 0 against the trip, else held to P. -/
theorem guarded_cases (speed : Int) (s : State) :
    (PointsAgainst speed s → guarded speed s = 0)
      ∧ (¬PointsAgainst speed s → guarded speed s = max (-(s.envelope.permitted : Int)) (min speed s.envelope.permitted)) := by
  constructor <;> intro h <;> unfold guarded clampTo
  · rw [zeroAgainst_of_against h]; omega
  · rw [zeroAgainst_of_along h]

/-- A judged speed lies between 0 and the speed taken, so that it fits the layout as that did. -/
theorem guarded_range {speed : Int} (s : State) (lo : -32768 ≤ speed) (hi : speed ≤ 32767) :
    -32768 ≤ guarded speed s ∧ guarded speed s ≤ 32767 := by
  unfold guarded clampTo zeroAgainst
  (repeat' split) <;> omega

theorem guarded_congr {s t : State} (speed : Int) (active : t.pipeline.active = s.pipeline.active)
    (envelope : t.envelope = s.envelope) : guarded speed t = guarded speed s := by
  unfold guarded; rw [active, envelope]

/-- A SPEED REFERENCE body reads as it was written (R172). -/
theorem readSpeed_speedBody {speed : Int} (seq mark : Byte) (lo : -32768 ≤ speed) (hi : speed ≤ 32767) :
    readSpeed (speedBody seq speed mark) = some { seq, speed } := by
  have read : signed 2 (be (signedBytes 2 speed)) = speed := signed_signedBytes (by norm_num; omega) (by norm_num; omega)
  obtain ⟨hi, lo, bytes⟩ := List.length_eq_two.mp (signedBytes_length 2 speed)
  rw [bytes] at read
  rw [speedBody, bytes]
  simp [readSpeed, read]

theorem readSpeed_range {body : List Byte} {ref : SpeedReference} (read : readSpeed body = some ref) :
    -32768 ≤ ref.speed ∧ ref.speed ≤ 32767 := by
  unfold readSpeed at read
  split at read
  · next seq hi lo mark =>
    obtain rfl := Option.some.inj read
    have bound := be_lt [hi, lo]
    norm_num at bound
    simp only [signed]
    split <;> omega
  · simp at read

/-- A reading keeps the body's first byte, its `seq` (R172). -/
theorem readSpeed_seq {body : List Byte} {ref : SpeedReference} (read : readSpeed body = some ref) :
    body.length = 4 ∧ field body 0 1 = ref.seq.toNat := by
  unfold readSpeed at read
  split at read
  · obtain rfl := Option.some.inj read
    exact ⟨rfl, by simp [field, fieldBytes, be]⟩
  · simp at read

theorem readSpeed_none {body : List Byte} (other : body.length ≠ 4) : readSpeed body = none := by
  unfold readSpeed; split
  · exact absurd rfl other
  · rfl

/-! ### Frames from the C-link (R112, R115, R118, R119) -/

/-- A C-link frame reaches the guard as it was sent. -/
theorem completes_controlFrame {cls origin target : Byte} {body : List Byte} {s t : State} {i : Instr} (ready : Ready .c s)
    (fits : body.length ≤ 56) (runs : exec i s = .next (deliverFrame .c cls origin target body s))
    (taken : takeFromC (makeFrame cls origin target body) s = t) : Completes i s t := by
  rw [Completes, runs, deliverFrame_of_idle _ _ _ ready fits]
  exact congrArg _ taken

theorem takeFromC_reference (origin target : Byte) (body : List Byte) (s : State) :
    takeFromC (makeFrame 0x10 origin target body) s
      = match readSpeed body with
        | some ref => guardReference (makeFrame 0x10 origin target body) ref s
        | none => count .malformed s := rfl

theorem takeFromC_brake (origin target : Byte) (body : List Byte) (s : State) :
    takeFromC (makeFrame 0x11 origin target body) s
      = if body.length = 1 then gateCommand (makeFrame 0x11 origin target body) s else count .malformed s := rfl

theorem takeFromC_clutch (origin target : Byte) (body : List Byte) (s : State) :
    takeFromC (makeFrame 0x12 origin target body) s
      = if body.length = 1 then gateCommand (makeFrame 0x12 origin target body) s else count .malformed s := rfl

theorem takeFromC_demand (origin target : Byte) (body : List Byte) (s : State) :
    takeFromC (makeFrame 0x13 origin target body) s = placeDemand (makeFrame 0x13 origin target body) s := rfl

/-- Settles O34: the reference is read as sent, noted for the watch, and judged. -/
theorem referencesAreGuarded : Obligations.ReferencesAreGuarded := by
  refine ⟨fun s origin target body ready fits other => ?malformed, fun s origin target seq mark speed ready lo hi => ?guarded⟩
  case malformed =>
    exact completes_controlFrame ready fits rfl ((takeFromC_reference ..).trans (by rw [readSpeed_none other]))
  case guarded =>
    intro timed s' taken against
    have noted : noteReference origin s = s' := by
      have watch : (timingRow s).bind (fun r => startTimer r.refWatch) = timed := by
        simp only [timed]; cases timingRow s <;> rfl
      simp only [noteReference, startWatch, watch]; rfl
    have run {t : State} (is : guardReference (makeFrame 0x10 origin target (speedBody seq speed mark)) { seq, speed } s = t) :
        Completes (.speedReference origin target (speedBody seq speed mark)) s t :=
      completes_controlFrame ready (by simp [speedBody]) rfl
        ((takeFromC_reference ..).trans (by rw [readSpeed_speedBody seq mark lo hi]; exact is))
    have limited : limitMagnitude speed = taken := rfl
    have stops : stopRuns s' = stopRuns s := by simp only [s']; split <;> rfl
    have judged : guarded taken s' = guarded taken s := by
      simp only [s']; split <;> rfl
    refine ⟨fun stopped => run ?_, fun going => ⟨guarded taken s, (guarded_cases taken s).1, (guarded_cases taken s).2,
      fun changed => run ?_, fun same => run ?_⟩⟩
    · simp only [guardReference, makeFrame, noted, stops, stopped, if_true]
    · simp only [guardReference, makeFrame, noted, stops, going, Bool.false_eq_true, if_false, limited, judged, changed,
        ne_eq, not_false_eq_true, decide_true, noteClamped, if_true]
      rfl
    · simp only [guardReference, makeFrame, noted, stops, going, Bool.false_eq_true, if_false, limited, judged, same,
        ne_eq, not_true_eq_false, decide_false, noteClamped]
      rfl

/-- The brake gate, on a command of one byte (R118, R173). -/
theorem blockedNow_brake (origin target command : Byte) (s : State) :
    blockedNow (makeFrame 0x11 origin target [command]) s = true
      ↔ command ≠ 1 ∧ (s.protection.state = .noTables ∨ s.protection.state = .tripped) := by
  have gate : blockedNow (makeFrame 0x11 origin target [command]) s = (isLift [command] && liftBlocked s) := rfl
  have apply : command.toNat = 1 ↔ command = 1 := BitVec.toNat_inj (y := 1)
  rw [gate, Bool.and_eq_true_iff, isLift, field_singleton, liftBlocked, decide_eq_true_iff, decide_eq_true_iff, ne_eq, apply]

/-- The clutch gate (R119). -/
theorem clutchPasses_iff (s : State) : clutchPasses s = true
    ↔ ¬(s.protection.state = .noTables ∨ s.protection.state = .tripped) ∧ s.pipeline.active = none
      ∧ s.drums.skip.atRest = true ∧ s.drums.cage.atRest = true := by
  have takes : s.protection.state = .undatumed ∨ s.protection.state = .armed
      ↔ ¬(s.protection.state = .noTables ∨ s.protection.state = .tripped) := by
    cases s.protection.state <;> simp
  simp [clutchPasses, winderAtRest, takes, and_assoc]

theorem gateCommand_blocked {f : Frame} {s : State} (blocked : blockedNow f s = true) :
    gateCommand f s = setFlag .drop (count .blocked s) := by rw [gateCommand, if_pos blocked]; rfl

theorem gateCommand_passed {f : Frame} {s : State} (passes : ¬blockedNow f s = true) :
    gateCommand f s = joinsTail { frame := f, source := none } s := by
  rw [gateCommand, if_neg passes, appendDown_eq_joinsTail]

/-- Settles O36: the two gates, each in the words of its rule. -/
theorem commandsMeetTheirGates : Obligations.CommandsMeetTheirGates := by
  refine ⟨fun s origin target body ready fits other => ⟨?_, ?_⟩, fun s origin target command ready => ?_⟩
  · exact completes_controlFrame ready fits rfl ((takeFromC_brake ..).trans (if_neg other))
  · exact completes_controlFrame ready fits rfl ((takeFromC_clutch ..).trans (if_neg other))
  · intro blocked brake clutch stopped
    have brakes {t : State} (is : gateCommand (makeFrame 0x11 origin target [command]) s = t) :
        Completes (.brakeCommand origin target [command]) s t :=
      completes_controlFrame ready (by simp) rfl ((takeFromC_brake ..).trans ((if_pos rfl).trans is))
    have clutches {t : State} (is : gateCommand (makeFrame 0x12 origin target [command]) s = t) :
        Completes (.clutchCommand origin target [command]) s t :=
      completes_controlFrame ready (by simp) rfl ((takeFromC_clutch ..).trans ((if_pos rfl).trans is))
    have gate : blockedNow (makeFrame 0x12 origin target [command]) s = true ↔ ¬clutchPasses s = true := by
      have gate : blockedNow (makeFrame 0x12 origin target [command]) s = !clutchPasses s := rfl
      rw [gate]; cases clutchPasses s <;> simp
    refine ⟨fun passes => brakes (gateCommand_passed ?_), fun lift stops => brakes (gateCommand_blocked ?_),
      fun going empty skip cage => clutches (gateCommand_passed ?_), fun fails => clutches (gateCommand_blocked ?_)⟩
    · rw [blockedNow_brake]
      rintro ⟨lift, stops⟩
      exact passes.elim (fun apply => lift apply) (fun going => going stops)
    · exact (blockedNow_brake ..).mpr ⟨lift, stops⟩
    · rw [gate, not_not]
      exact (clutchPasses_iff s).mpr ⟨going, empty, skip, cage⟩
    · rw [gate, clutchPasses_iff]
      rintro ⟨going, empty, skip, cage⟩
      obtain stops | placed | moves | moves := fails
      · exact going stops
      · exact placed empty
      · exact absurd (moves.symm.trans skip) (by simp)
      · exact absurd (moves.symm.trans cage) (by simp)

/-- A lost downstream frame is counted, held at 65,535 (R113 to R115, R186). -/
theorem loseDown_droppedDown (s : State) :
    (loseDown s).requests.counters.droppedDown = min (s.requests.counters.droppedDown + 1) 65535 :=
  congrArg Counters.droppedDown (setFlag_sameCounters .drop (count .droppedDown s))

theorem placeDemand_full (f : Frame) {s : State} (free : s.guard.queue.any DownFrame.isDemand = false)
    (full : 8 ≤ s.guard.queue.length) :
    placeDemand f s = setDownQueue ({ frame := f, source := none } :: s.guard.queue.dropLast) (loseDown s) := by
  have noRoom : ¬s.guard.queue.length < Config.downQueuePlaces := Nat.not_lt.mpr full
  simp [placeDemand, free, noRoom]

/-- Settles O37: the three branches of the placing. -/
theorem brakeDemandsGoAhead : Obligations.BrakeDemandsGoAhead := by
  intro s origin target body ready fits demand
  have run {t : State} (is : placeDemand (makeFrame 0x13 origin target body) s = t) :
      Completes (.brakeDemand origin target body) s t :=
    completes_controlFrame ready fits rfl ((takeFromC_demand ..).trans is)
  refine ⟨fun waits => run ?_, fun free room => run ?_, fun free full => ⟨_, run (placeDemand_full _ free full), rfl, ?_, ?_⟩⟩
  · simp [placeDemand, waits]
  · simp [placeDemand, free, Config.downQueuePlaces, room, demand]; rfl
  · exact flagSet_setFlag .drop (count .droppedDown s)
  · exact loseDown_droppedDown s

/-! ### Transmission starts (R116, R117) -/

/-- The frame in transmission, its queue behind it, and the record of a forwarded reference. -/
def leavesWith (frame : Frame) (rest : List DownFrame) (last : LastReference) (s : State) : State :=
  { s with guard.queue := rest, guard.transmitter := .sending frame, guard.lastRef := last }

theorem startDown_of_free {s : State} (free : ∀ f, s.guard.transmitter ≠ .sending f) :
    startDown s = takeNext s.guard.queue s := by
  unfold startDown; split
  · next f sending => exact absurd sending (free f)
  · rfl

theorem free_of_idle {s : State} (h : s.guard.transmitter = .idle ∨ s.guard.transmitter = .gap) (f : Frame) :
    s.guard.transmitter ≠ .sending f := by obtain h | h := h <;> simp [h]

/-- A frame that is no reference leaves as it is (R116). -/
theorem beginTransmission_plain {f : DownFrame} (rest : List DownFrame) (s : State) (plain : f.source = none) :
    beginTransmission f rest s = { s with guard.queue := rest, guard.transmitter := .sending f.frame } := by
  simp [beginTransmission, recheckReference, plain, DownFrame.isReference]

/-- A reference leaves as its judgement says, and its reading is recorded (R117). -/
theorem beginTransmission_reference {f : DownFrame} {source : RefSource} {ref : SpeedReference} (rest : List DownFrame)
    (s : State) (isFrom : f.source = some source) (read : readSpeed f.frame.body = some ref) :
    let out := guarded ref.speed s
    let last : LastReference := { magnitude := out.natAbs, seq := ref.seq, target := f.frame.target }
    let marked (mark : Byte) := makeFrame f.frame.cls f.frame.origin f.frame.target (speedBody ref.seq out mark)
    (out = ref.speed → beginTransmission f rest s = leavesWith f.frame rest last s)
      ∧ (out ≠ ref.speed → source = .controller →
          beginTransmission f rest s = leavesWith (marked 1) rest last (setFlag .clamp (count .clamped s)))
      ∧ (out ≠ ref.speed → source = .substitute → beginTransmission f rest s = leavesWith (marked 2) rest last s) := by
  intro out last marked
  obtain ⟨lo, hi⟩ := readSpeed_range read
  obtain ⟨lo, hi⟩ := guarded_range s lo hi
  have reads (mark : Byte) : readSpeed (marked mark).body = some { seq := ref.seq, speed := out } :=
    readSpeed_speedBody ref.seq mark lo hi
  have reference : f.isReference = true := by simp [DownFrame.isReference, isFrom]
  refine ⟨fun same => ?_, fun changed controller => ?_, fun changed substitute => ?_⟩
  · have kept : recheckReference f s = (f.frame, s) := by
      simp only [recheckReference, isFrom, read]; exact if_pos same
    simp only [beginTransmission, kept, reference, if_true, recordForwarded, read, leavesWith, last, ← same]
  · have clamped : recheckReference f s = (marked 1, setFlag .clamp (count .clamped s)) := by
      simp only [recheckReference, isFrom, read, controller]; exact if_neg changed
    simp only [beginTransmission, clamped, reference, if_true, recordForwarded, reads, leavesWith, last]
    rfl
  · have held : recheckReference f s = (marked 2, s) := by
      simp only [recheckReference, isFrom, read, substitute]; exact if_neg changed
    simp only [beginTransmission, held, reference, if_true, recordForwarded, reads, leavesWith, last]
    rfl

/-- What leaves has the class and the first byte of a frame of the queue. -/
theorem beginTransmission_sends (f : DownFrame) (rest : List DownFrame) (s : State) :
    ∃ g, (beginTransmission f rest s).guard.transmitter = .sending g ∧ g.cls = f.frame.cls
      ∧ field g.body 0 1 = field f.frame.body 0 1 := by
  cases isFrom : f.source with
  | none => rw [beginTransmission_plain rest s isFrom]; exact ⟨_, rfl, rfl, rfl⟩
  | some source =>
    cases read : readSpeed f.frame.body with
    | none =>
      have kept : recheckReference f s = (f.frame, s) := by simp [recheckReference, isFrom, read]
      have reference : f.isReference = true := by simp [DownFrame.isReference, isFrom]
      exact ⟨f.frame, by simp [beginTransmission, kept, reference, recordForwarded, read], rfl, rfl⟩
    | some ref =>
      obtain ⟨same, controller, substitute⟩ := beginTransmission_reference rest s isFrom read
      have seq (speed : Int) (mark : Byte) : field (speedBody ref.seq speed mark) 0 1 = field f.frame.body 0 1 := by
        rw [(readSpeed_seq read).2]; simp [speedBody, field, fieldBytes, be]
      by_cases kept : guarded ref.speed s = ref.speed
      · rw [same kept]; exact ⟨_, rfl, rfl, rfl⟩
      · cases source
        · rw [controller kept rfl]; exact ⟨_, rfl, rfl, seq _ _⟩
        · rw [substitute kept rfl]; exact ⟨_, rfl, rfl, seq _ _⟩

/-- A start ends idle, or with the first frame of the queue that its gate lets pass, in a state that differs by blocked
commands alone (R116). -/
theorem takeNext_cases (q : List DownFrame) (s : State) :
    ∃ u, u.envelope = s.envelope ∧ u.pipeline = s.pipeline ∧ u.protection = s.protection ∧ u.drums = s.drums
      ∧ ((takeNext q s).guard.transmitter = .idle
        ∨ ∃ f rest, f ∈ q ∧ blockedNow f.frame s = false ∧ takeNext q s = beginTransmission f rest u) := by
  induction q generalizing s with
  | nil => exact ⟨s, rfl, rfl, rfl, rfl, .inl rfl⟩
  | cons f rest ih =>
    by_cases blocked : blockedNow f.frame s = true
    · obtain ⟨u, envelope, pipeline, protection, drums, ends⟩ := ih (blockCommand s)
      rw [takeNext_blocked rest blocked]
      refine ⟨u, by simpa using envelope, by simpa using pipeline, by simpa using protection, by simpa using drums, ?_⟩
      refine ends.imp_right fun ⟨g, behind, mem, passes, begins⟩ => ⟨g, behind, .tail _ mem, ?_, begins⟩
      rwa [blockedNow_blockCommand] at passes
    · have passes : blockedNow f.frame s = false := by simpa using blocked
      exact ⟨s, rfl, rfl, rfl, rfl, .inr ⟨f, rest, .head _, passes, takeNext_passes rest passes⟩⟩

/-! What stands in the queue behind a start is not looked at: the rest is written over it. -/

theorem raiseDrop_setDownQueue (q : List DownFrame) (s : State) :
    raiseDrop (setDownQueue q s) = setDownQueue q (raiseDrop s) := by
  have set : flagSet .drop (setDownQueue q s) = flagSet .drop s := rfl
  have room : upRoom .part (markFlag .drop (setDownQueue q s)) = upRoom .part (markFlag .drop s) := rfl
  simp only [raiseDrop, set, room, apply_ite (setDownQueue q)]
  rfl

theorem offerUp_setDownQueue (m : UpMark) (f : Frame) (q : List DownFrame) (s : State) :
    offerUp m f (setDownQueue q s) = setDownQueue q (offerUp m f s) := by
  have room : upRoom m (setDownQueue q s) = upRoom m s := by cases m <;> rfl
  have counted : count .droppedUp (setDownQueue q s) = setDownQueue q (count .droppedUp s) := rfl
  simp only [offerUp, room, counted, raiseDrop_setDownQueue, apply_ite (setDownQueue q)]
  rfl

theorem setFlag_setDownQueue (f : Flag) (q : List DownFrame) (s : State) :
    setFlag f (setDownQueue q s) = setDownQueue q (setFlag f s) := by
  have set : flagSet f (setDownQueue q s) = flagSet f s := rfl
  have marked : markFlag f (setDownQueue q s) = setDownQueue q (markFlag f s) := rfl
  have notice : attentionNotice f (setDownQueue q (markFlag f s)) = attentionNotice f (markFlag f s) := rfl
  simp only [setFlag, set, marked, notice, offerUp_setDownQueue, apply_ite (setDownQueue q)]

theorem blockCommand_setDownQueue (q : List DownFrame) (s : State) :
    blockCommand (setDownQueue q s) = setDownQueue q (blockCommand s) := setFlag_setDownQueue .drop q (count .blocked s)

theorem beginTransmission_setDownQueue (f : DownFrame) (rest q : List DownFrame) (s : State) :
    beginTransmission f rest (setDownQueue q s) = beginTransmission f rest s := by
  have noted (clamped : Bool) : noteClamped clamped (setDownQueue q s) = setDownQueue q (noteClamped clamped s) := by
    cases clamped
    · rfl
    · exact setFlag_setDownQueue .clamp q (count .clamped s)
  have judged : recheckReference f (setDownQueue q s)
      = ((recheckReference f s).1, setDownQueue q (recheckReference f s).2) := by
    have same (speed : Int) : guarded speed (setDownQueue q s) = guarded speed s := rfl
    unfold recheckReference
    simp only [same, noted]
    (repeat' split) <;> rfl
  unfold beginTransmission
  rw [judged]
  rfl

theorem takeNext_setDownQueue (next q : List DownFrame) (s : State) :
    takeNext next (setDownQueue q s) = takeNext next s := by
  induction next generalizing s with
  | nil => rfl
  | cons f rest ih =>
    have gate : blockedNow f.frame (setDownQueue q s) = blockedNow f.frame s := rfl
    simp only [takeNext, gate, blockCommand_setDownQueue, ih, beginTransmission_setDownQueue]

/-- Settles O38: the head frame by its gate and its source; and what leaves has passed its gate. -/
theorem downstreamStartsPassTheGates : Obligations.DownstreamStartsPassTheGates := by
  intro s idle
  have start : startDown s = takeNext s.guard.queue s := startDown_of_free (free_of_idle idle)
  have run {t : State} (is : takeNext s.guard.queue s = t) : Completes .dTransmitStart s t := completes_of rfl (start.trans is)
  refine ⟨fun empty => run ?empty, fun f rest queue blocked => ?blocked, fun f rest queue passes plain => run ?plain,
    fun f rest source ref queue passes isFrom read => ?reference, fun t f starts sends => ?sent⟩
  case empty => rw [empty]; simp only [takeNext, ← empty]
  case blocked =>
    have free : ∀ g, (setFlag .drop (count .blocked { s with guard.queue := rest })).guard.transmitter ≠ .sending g := by
      intro g; simpa using free_of_idle idle g
    have next : startDown (setFlag .drop (count .blocked { s with guard.queue := rest })) = startDown s := by
      have behind : (blockCommand (setDownQueue rest s)).guard.queue = rest := by simp
      rw [startDown_of_free free, start, queue, takeNext_blocked rest blocked]
      calc takeNext (blockCommand (setDownQueue rest s)).guard.queue (blockCommand (setDownQueue rest s))
        _ = takeNext rest (setDownQueue rest (blockCommand s)) := by rw [behind, blockCommand_setDownQueue]
        _ = takeNext rest (blockCommand s) := takeNext_setDownQueue rest rest _
    exact congrArg Host.Outcome.next next.symm
  case plain => rw [queue, takeNext_passes rest passes, beginTransmission_plain rest s plain]
  case reference =>
    intro against leaves marked
    obtain ⟨same, controller, substitute⟩ := beginTransmission_reference rest s isFrom read
    have begins : takeNext s.guard.queue s = beginTransmission f rest s := by rw [queue, takeNext_passes rest passes]
    exact ⟨guarded ref.speed s, (guarded_cases ref.speed s).1, (guarded_cases ref.speed s).2,
      fun kept => run (begins.trans (same kept)), fun changed from' => run (begins.trans (controller changed from')),
      fun changed from' => run (begins.trans (substitute changed from'))⟩
  case sent =>
    obtain rfl : startDown s = t := by injection starts
    rw [start] at sends
    obtain ⟨u, -, -, -, -, ends⟩ := takeNext_cases s.guard.queue s
    obtain idle | ⟨g, rest, -, passes, begins⟩ := ends
    · rw [idle] at sends; simp at sends
    · obtain ⟨sent, transmitter, cls, first⟩ := beginTransmission_sends g rest u
      obtain rfl : sent = f := by
        rw [begins, transmitter] at sends; injection sends
      refine ⟨fun clutch => ?_, fun brake lift => ?_⟩
      · rw [cls] at clutch
        have passes : clutchPasses s = true := by simpa [blockedNow, clutch] using passes
        simp only [clutchPasses, Bool.and_eq_true, decide_eq_true_eq, Option.isNone_iff_eq_none] at passes
        exact ⟨passes.1.2, passes.2, passes.1.1⟩
      · rw [cls] at brake
        rw [first] at lift
        simpa [blockedNow, brake, isLift, lift, liftBlocked] using passes

/-- Settles O39: what leaves as a reference is a judged one, or reads as one. -/
theorem noReferenceLeavesAboveP : Obligations.NoReferenceLeavesAboveP := by
  intro s t f marked free starts sends reference
  obtain rfl : startDown s = t := by injection starts
  rw [startDown_of_free free] at sends ⊢
  obtain ⟨u, envelope, pipeline, -, -, ends⟩ := takeNext_cases s.guard.queue s
  obtain idle | ⟨g, rest, mem, -, begins⟩ := ends
  · rw [idle] at sends; simp at sends
  obtain ⟨isReference, readable⟩ := marked g mem
  rw [begins] at sends ⊢
  obtain ⟨sent, transmitter, cls, -⟩ := beginTransmission_sends g rest u
  obtain rfl : sent = f := by rw [transmitter] at sends; injection sends
  have hasSource : g.source.isSome := isReference.mp (cls ▸ reference)
  obtain ⟨source, isFrom⟩ := Option.isSome_iff_exists.mp hasSource
  obtain ⟨ref, read⟩ := Option.isSome_iff_exists.mp (readable hasSource)
  have judged : guarded ref.speed u = guarded ref.speed s := guarded_congr ref.speed (by rw [pipeline]) envelope
  have direction := fun trip (active : s.pipeline.active = some trip) => guarded_direction ref.speed s active
  have bound := guarded_natAbs_le ref.speed s
  obtain ⟨lo, hi⟩ := readSpeed_range read
  obtain ⟨lo, hi⟩ := guarded_range u lo hi
  obtain ⟨same, controller, substitute⟩ := beginTransmission_reference rest u isFrom read
  have leaves {frame : Frame} {last : LastReference} {v : State}
      (is : beginTransmission g rest u = leavesWith frame rest last v) : frame = sent ∧ last = (beginTransmission g rest u).guard.lastRef := by
    rw [is] at transmitter ⊢
    refine ⟨?_, rfl⟩
    injection transmitter
  by_cases kept : guarded ref.speed u = ref.speed
  · obtain ⟨rfl, last⟩ := leaves (same kept)
    rw [judged] at kept
    refine ⟨ref, read, kept ▸ bound, ?_, fun trip active => kept ▸ direction trip active⟩
    rw [← last, judged, kept]
  · have read (mark : Byte) := readSpeed_speedBody ref.seq mark lo hi
    cases source
    · obtain ⟨rfl, last⟩ := leaves (controller kept rfl)
      exact ⟨_, read 1, judged ▸ bound, last.symm, fun trip active => judged ▸ direction trip active⟩
    · obtain ⟨rfl, last⟩ := leaves (substitute kept rfl)
      exact ⟨_, read 2, judged ▸ bound, last.symm, fun trip active => judged ▸ direction trip active⟩

end Sys2Proof.Machine

/-! PROOF. Protective trips and controlled stops (7.6, 7.7, 8.4 to 8.6), the guard's timers and TRIP ABORT. -/

namespace Sys2Proof.Machine

/-! ### The protective trip (R136) -/

/-- With the part stopped or no trip active, the Envelope Unit evaluates nothing (R104). -/
theorem computeEnvelope_none {s : State}
    (stopped : s.protection.state = .noTables ∨ s.protection.state = .tripped ∨ s.pipeline.active = none) :
    computeEnvelope s = noEnvelope := by
  unfold computeEnvelope
  split
  · rfl
  · next going =>
    have empty : s.pipeline.active = none := by
      obtain h | h | h := stopped
      · exact absurd (.inl h) going
      · exact absurd (.inr h) going
      · exact h
    rw [empty]

/-- After a hand-on in NO-TABLES or TRIPPED, P is 0 (R104). -/
theorem handOn_permitted {s : State} (stopped : s.protection.state = .noTables ∨ s.protection.state = .tripped
    ∨ s.pipeline.active = none) : (handOn s).envelope.permitted = 0 := by
  rw [handOn_envelope, computeEnvelope_none (by simpa using stopped)]
  rfl

/-- A state after the six steps of a protective trip, but for an open commitment (R136). -/
def tripMade (c : Cause) (s : State) : State :=
  clearDrift (beginEcho (finishBoth .tripped (some (.protective c)) (placeDemand partDemand (openChain c s))))

theorem reportCause_eq_abandon {c : Cause} {s : State} (takes : TakesCauses s) :
    reportCause c s = abandon .trip (tripMade c s) := reportCause_takes c takes

/-- The commitment looks as it did before the trip. -/
theorem tripMade_tables (c : Cause) (s : State) : (tripMade c s).tables = s.tables := by
  simp [tripMade, beginEcho, openChain]

theorem abandon_closed {reason : AbandonReason} {s : State} (closed : commitmentOpen s = false) : abandon reason s = s := by
  simp [abandon, closed]

/-- The banks and the result after an abandonment (R28). -/
theorem abandon_opened {reason : AbandonReason} {s : State} (opened : commitmentOpen s = true) :
    (abandon reason s).tables.result = .abandoned (openSet s) reason ∧ flagSet .valid (abandon reason s) = true
      ∧ (∀ b, bank b (abandon reason s) = { bank b s with state := .loading })
      ∧ (abandon reason s).tables.markers = s.tables.markers := by
  refine ⟨?_, ?_, fun b => ?_, abandon_markers reason s⟩
  · simp [abandon, opened, setResult]
  · simp [abandon, opened]
  · simp only [abandon, opened, if_true]
    rw [bank_congr b (setFlag_tables _ _)]
    cases b <;> rfl

theorem commitmentOpen_congr {s t : State} (tables : t.tables = s.tables) : commitmentOpen t = commitmentOpen s := by
  simp only [commitmentOpen, anyValidating, anyValidated, tables]

theorem openSet_congr {s t : State} (tables : t.tables = s.tables) : openSet t = openSet s := by
  simp only [openSet, tables]

/-- A finish says the same of a state that has the same trips, tables and depths. -/
theorem FinishesBoth.congr {trip : Trip} {outcome : TripOutcome} {cause : Option TripCause} {s s' t t' : State}
    (h : FinishesBoth trip outcome cause s t) (waits : s'.pipeline.waiting = s.pipeline.waiting)
    (past : s'.pipeline.history = s.pipeline.history) (rows : s'.tables.shaft.active = s.tables.shaft.active) (trackers : s'.trackers = s.trackers)
    (result : t'.pipeline = t.pipeline) : FinishesBoth trip outcome cause s' t' := by
  obtain ⟨active, waiting, r, isRecord, alone, behind⟩ := h
  have record {r : HistoryRecord} {trip : Trip} {outcome : TripOutcome} {cause : Option TripCause}
      (h : IsRecord r trip outcome cause s) : IsRecord r trip outcome cause s' := by
    simpa only [IsRecord, tracker, trackers, stations, rows] using h
  refine ⟨by rw [result, active], by rw [result, waiting], r, record isRecord, fun none => ?_, fun w is => ?_⟩
  · rw [result, past]; exact alone (waits ▸ none)
  · obtain ⟨r', second, both⟩ := behind w (waits ▸ is)
    exact ⟨r', record second, by rw [result, both]⟩

theorem causePresent_of_first {c other : Cause} {s : State} (causes : s.protection.causes = causeBit c) :
    causePresent other s = true ↔ other = c := by
  simp [causePresent, causes, causeBit_getLsbD]

/-- A cause taken leaves the Protection Controller TRIPPED on it and both slots empty. -/
theorem reportCause_trips (c : Cause) {s : State} (takes : TakesCauses s) :
    (reportCause c s).protection
        = { s.protection with
            firstCause := some c, causes := causeBit c, state := .tripped, chainClosed := false, driveHeard := false,
            driveSilent := false, echo := startTimer Config.echoTimerMs }
      ∧ (reportCause c s).pipeline.active = none ∧ (reportCause c s).pipeline.waiting = none := by
  rw [reportCause_takes c takes]
  exact ⟨protectiveTrip_protection c s, by simp [protectiveTrip], by simp [protectiveTrip]⟩

/-- Settles O32: the six steps one by one, each with what the others leave of it. -/
theorem protectiveTripOpensChain : Obligations.ProtectiveTripOpensChain := by
  refine ⟨fun c s takes waits => ?trips, fun c s => ⟨fun tripped => ?joins, fun noTables => reportCause_noTables c noTables⟩⟩
  case joins =>
    rw [reportCause_tripped c tripped]
    refine ⟨fun other => ?_, rfl⟩
    simp [causePresent_addCause]
  case trips =>
    intro t
    have made : t = abandon .trip (tripMade c s) := reportCause_eq_abandon takes
    obtain ⟨protection, active, waiting⟩ : t.protection = _ ∧ _ := reportCause_trips c takes
    have tables := tripMade_tables c s
    have opened := commitmentOpen_congr tables
    have queue : t.guard.queue = (placeDemand partDemand (openChain c s)).guard.queue := by
      rw [made]; simp [tripMade, beginEcho, finishBoth_queue]
    have demands : (openChain c s).guard.queue = s.guard.queue := by simp [openChain]
    have demandAhead : (placeDemand partDemand (openChain c s)).guard.queue
        = if s.guard.queue.any DownFrame.isDemand then s.guard.queue
          else if s.guard.queue.length < 8 then { frame := partDemand, source := none } :: s.guard.queue
          else { frame := partDemand, source := none } :: s.guard.queue.dropLast := by
      rw [placeDemand_guard, demands]
    have pipeline : t.pipeline = (finishBoth .tripped (some (.protective c)) (placeDemand partDemand (openChain c s))).pipeline := by
      rw [made]; simp [tripMade, beginEcho]
    have before : (placeDemand partDemand (openChain c s)).pipeline = s.pipeline := by simp [openChain]
    refine ⟨by rw [protection], by rw [protection], by rw [protection], fun other => causePresent_of_first (congrArg _ protection),
      ?flag, fun free => ?head, fun waiting => ?kept, active, waiting, fun trip active => ?record,
      fun empty => ?history, fun closed => ?closed, fun open' => ?opened, by rw [protection], by rw [protection],
      by rw [protection]; rfl, ?drift, by rw [protection], reportCause_trackers s c, reportCause_zones s c,
      fun d => reportCause_channel c d s, reportCause_key s c⟩
    case flag =>
      have rest : Notified 0 (openChain c s) t := by
        rw [made]
        have ends : Notified 0 (finishBoth .tripped (some (.protective c)) (placeDemand partDemand (openChain c s))) (tripMade c s) :=
          .same (by simp [tripMade, beginEcho]) (fun _ => by simp [tripMade, beginEcho]) (by simp [tripMade, beginEcho])
        exact .after (.abandon _ _) (.after ends (.after (.finishBoth _ _ _) (.placeDemand _ _)))
      exact rest.flagSet (Nat.zero_le 1) (flagSet_setFlag _ _)
    case head => 
      rw [queue, demandAhead, free]
      simp only [Bool.false_eq_true, if_false]
      split <;> rfl
    case kept => rw [queue, demandAhead, if_pos waiting]
    case record =>
      refine (finishBoth_finishes trip .tripped (some (.protective c)) _ (by rw [before]; exact active)).congr
        (congrArg _ before.symm) (congrArg _ before.symm) ?_ ?_ pipeline
      · simp [openChain]
      · simp [openChain]
    case history =>
      rw [pipeline]
      simp [finishBoth, finishActive, finishWaiting, empty, waits empty]
    case closed =>
      rw [made, abandon_closed (opened.trans closed), tables]
    case opened =>
      obtain ⟨result, valid, banks, -⟩ := abandon_opened (reason := .trip) (opened.trans open')
      rw [made]
      refine ⟨by rw [result, openSet_congr tables], valid, fun b => by rw [banks, bank_congr b tables]⟩
    case drift => rw [made]; simp [tripMade]

/-! ### The entry into STOPPING (R86, R121) -/

/-- The record of a controlled stop that begins at the last speed sent (R121). -/
def stopRecord (trip : Trip) (r : RegimeRow) (speed : Nat) : StopRecord :=
  { startSpeed := speed, rampValue := speed * 1000000, rampSpeed := speed, overRun := 0,
    deadline := { lengthMs := speed * 1000 / r.stopDecel + 2000, runUs := 0 },
    forward := decide (trip.direction = .forward) }

theorem beginStop_guard {trip : Trip} {s : State} {r : RegimeRow} (row : regimeRow trip.regime s = some r) :
    (beginStop trip s).guard = { s.guard with
      queue := s.guard.queue.filter fun f => decide (f.source ≠ some .controller)
      watch := none
      stop := some (stopRecord trip r s.guard.lastRef.magnitude) } := by
  have kept : regimeRow trip.regime (removeWaitingReference (stopWatch s)) = some r := by
    rw [← row]; simp [regimeRow, stopWatch]
  have guard := removeWaitingReference_guard (stopWatch s)
  simp only [beginStop, kept, guard]
  rfl

theorem beginStop_noController {trip : Trip} {s : State} {f : DownFrame} (waits : f ∈ (beginStop trip s).guard.queue) :
    f.source ≠ some .controller := by
  have queue : (beginStop trip s).guard.queue = s.guard.queue.filter fun f => decide (f.source ≠ some .controller) := by
    unfold beginStop; dsimp only; split <;> simp [removeWaitingReference_guard, stopWatch]
  rw [queue, List.mem_filter] at waits
  simpa using waits.2

/-- A trip whose drums move enters STOPPING: the waiting trip is DISCARDED and the controlled stop begins. -/
theorem enterStopping_moving {trip : Trip} {cause : TripCause} {s : State} (active : s.pipeline.active = some trip)
    (moving : movingDrumsAtRest trip s = false) :
    enterStopping cause s = beginStop trip (Machine.setFlag .stop (enterState .stopping
      (finishWaiting .discarded none (setActive (some { trip with cause := some cause }) s)))) := by
  have moving : movingDrumsAtRest trip (setActive (some { trip with cause := some cause }) s) = false := moving
  simp [enterStopping, active, moving]

/-- A trip whose drums stand still at its end is ABORTED at once. -/
theorem enterStopping_still {trip : Trip} {cause : TripCause} {s : State} (active : s.pipeline.active = some trip)
    (still : movingDrumsAtRest trip s = true) :
    enterStopping cause s = finishBoth .aborted (some cause)
      (Machine.setFlag .stop (enterState .stopping (setActive (some { trip with cause := some cause }) s))) := by
  have still : movingDrumsAtRest trip (setActive (some { trip with cause := some cause }) s) = true := still
  simp [enterStopping, active, still]

/-- The trip's entry into STOPPING as the statements tell it, its waiting trip apart. -/
def StopBegins (trip : Trip) (cause : TripCause) (s t : State) : Prop :=
  t.pipeline.active = some { trip with state := .stopping, cause := some cause } ∧ t.pipeline.waiting = none
    ∧ flagSet .stop t = true ∧ t.guard.watch = none
    ∧ (∀ r, regimeRow trip.regime s = some r → t.guard.stop = some (stopRecord trip r s.guard.lastRef.magnitude))
    ∧ ∀ f ∈ t.guard.queue, f.source ≠ some .controller

theorem enterState_lastRef (new : TripState) (s : State) : (enterState new s).guard.lastRef = s.guard.lastRef := by
  unfold enterState watchOn startWatch stopWatch setActive; (repeat' split) <;> rfl

theorem enterStopping_begins {trip : Trip} {cause : TripCause} {s : State} (active : s.pipeline.active = some trip)
    (moving : movingDrumsAtRest trip s = false) : StopBegins trip cause s (enterStopping cause s) := by
  rw [enterStopping_moving active moving]
  refine ⟨?_, ?_, ?_, beginStop_watch _ _, fun r row => ?_, fun f => beginStop_noController⟩
  · simp [enterState_slots, setActive]
  · simp [enterState_slots]
  · exact (Notified.beginStop (k := 0) trip _).flagSet (Nat.zero_le 1) (flagSet_setFlag _ _)
  · rw [beginStop_guard (r := r) (by rw [← row]; simp [regimeRow, setActive])]
    simp [enterState_lastRef, setActive]

/-- The waiting trip's record behind its finish (R94). -/
theorem finishWaiting_record {w : Trip} (outcome : TripOutcome) (cause : Option TripCause) {s : State}
    (waiting : s.pipeline.waiting = some w) : ∃ r, IsRecord r w outcome cause s
      ∧ (finishWaiting outcome cause s).pipeline.history = (r :: s.pipeline.history).take 2 := by
  refine ⟨_, historyRecord_isRecord w outcome cause s, ?_⟩
  simp [finishWaiting, waiting, placeRecord, setWaiting, Config.historyRecords]

theorem enterStopping_history {trip : Trip} {cause : TripCause} {s : State} (active : s.pipeline.active = some trip)
    (moving : movingDrumsAtRest trip s = false) :
    (s.pipeline.waiting = none → (enterStopping cause s).pipeline.history = s.pipeline.history)
      ∧ ∀ w, s.pipeline.waiting = some w → ∃ r, IsRecord r w .discarded none s
        ∧ (enterStopping cause s).pipeline.history = (r :: s.pipeline.history).take 2 := by
  rw [enterStopping_moving active moving]
  refine ⟨fun alone => ?_, fun w waits => ?_⟩
  · simp [enterState_history, finishWaiting, setActive, alone]
  · obtain ⟨r, isRecord, history⟩ := finishWaiting_record (s := setActive (some { trip with cause := some cause }) s)
      .discarded none waits
    exact ⟨r, isRecord, by simpa [enterState_history] using history⟩

/-- Standing still, the trip finishes ABORTED and the waiting one DISCARDED, with no controlled stop. -/
theorem enterStopping_ends {trip : Trip} {cause : TripCause} {s : State} (active : s.pipeline.active = some trip)
    (still : movingDrumsAtRest trip s = true) :
    FinishesBoth trip .aborted (some cause) s (enterStopping cause s) ∧ flagSet .stop (enterStopping cause s) = true
      ∧ (enterStopping cause s).guard.stop = none ∧ (enterStopping cause s).guard.watch = none := by
  rw [enterStopping_still active still]
  set u := Machine.setFlag .stop (enterState .stopping (setActive (some { trip with cause := some cause }) s)) with made
  have slots := enterState_slots .stopping (setActive (some { trip with cause := some cause }) s)
  have active' : u.pipeline.active = some { trip with state := .stopping, cause := some cause } := by
    rw [made, setFlag_pipeline, slots.1]; rfl
  have guard : (finishBoth .aborted (some cause) u).guard = { u.guard with watch := none, stop := none } := by
    rw [finishBoth_guard, active']; rfl
  have waiting : u.pipeline.waiting = s.pipeline.waiting := by rw [made, setFlag_pipeline, slots.2]; rfl
  have history : u.pipeline.history = s.pipeline.history := by rw [made, setFlag_pipeline, enterState_history]; rfl
  refine ⟨?_, ?_, by rw [guard], by rw [guard]⟩
  · refine FinishesBoth.congr (trip := { trip with state := .stopping, cause := some cause })
      (finishBoth_finishes _ .aborted (some cause) u active') waiting.symm
      history.symm (by simp [made, setActive]) (by simp [made, setActive]) rfl
  · exact (Notified.finishBoth (k := 0) _ _ u).flagSet (Nat.zero_le 1) (flagSet_setFlag _ _)

/-! ### The guard's timers (R87, R120, R124) and the echo timer (R140) -/

/-- A trip that is RUNNING or CREEPING is watched. -/
theorem watchRuns_of_state {trip : Trip} {s : State} (active : s.pipeline.active = some trip)
    (state : trip.state = .running ∨ trip.state = .creeping) : watchRuns s = true := by
  simpa [watchRuns, active] using state

/-- Settles O40, timer by timer: a stopped one brings nothing, and one that runs brings its entry into STOPPING, its
protective trip or its mark, each handed on. -/
theorem watchDeadlineAndEchoExpire : Obligations.WatchDeadlineAndEchoExpire := by
  intro s
  have watched : watchRuns (stopWatch s) = watchRuns s := rfl
  refine ⟨fun stopped => ?stoppedWatch, fun runs unwatched => ⟨handOn (stopWatch s), ?elsewhere⟩,
    fun trip r runs active state moving row => ⟨handOn (enterStopping .watch (stopWatch s)), ?watchEnds, ?watch⟩,
    fun stopped => ?stoppedDeadline, fun runs takes waits => ⟨handOn (reportCause .stopFail s), ?deadlineEnds, ?deadline⟩,
    fun stopped => ?stoppedEcho, fun runs => ?echo⟩
  case stoppedWatch => exact completes_of rfl (by simp [expireWatch, stopped])
  case stoppedDeadline => exact completes_of rfl (by simp [expireDeadline, stopped])
  case stoppedEcho => exact completes_of rfl (by simp [expireEcho, stopped])
  case echo => exact completes_of rfl (by simp [expireEcho, runs])
  case elsewhere => exact ⟨completes_of rfl (by simp [expireWatch, runs, watched, unwatched]), by simp, by simp, by simp⟩
  case watchEnds =>
    exact completes_of rfl (by simp [expireWatch, runs, watched, watchRuns_of_state active state])
  case watch =>
    obtain ⟨stopping, alone, flag, unwatched, record, queue⟩ :=
      enterStopping_begins (cause := .watch) (s := stopWatch s) active moving
    refine ⟨?_, ?_, ?_, flagSet_handOn_of_set flag, ?_, ?_, ?_, ?_, ?_⟩
    · rw [handOn_pipeline, stopping]
    · rw [handOn_pipeline, alone]
    · rw [handOn_guard, unwatched]
    · rw [handOn_guard, record r row]; rfl
    · rw [handOn_guard]; exact queue
    all_goals simp
  case deadlineEnds => exact completes_of rfl (by simp [expireDeadline, runs])
  case deadline =>
    obtain ⟨protection, active, waiting⟩ := reportCause_trips .stopFail takes
    refine ⟨?_, ?_, ?_, ?_, ?_, handOn_permitted (.inr (.inr active)), ?_, ?_, fun d => ?_⟩
    · rw [handOn_protection, protection]
    · rw [handOn_protection, protection]
    · rw [handOn_protection, protection]
    · rw [handOn_pipeline, active]
    · rw [handOn_pipeline, waiting]
    · simp
    · simp
    · rw [channel_congr d (handOn_drums _), reportCause_channel]

/-! ### TRIP ABORT (R85) -/

theorem waitingHas_iff {aim : Byte} {s : State} :
    waitingHas aim s = true ↔ aim ≠ 0 ∧ ∃ trip, s.pipeline.waiting = some trip ∧ trip.tag = aim := by
  simp [waitingHas, Option.any_eq_true]

/-- TRIP ABORT of the controller completes as its own rule answers it. -/
theorem answers_tripAbort {s after : State} (tag aim : Byte) {r : Reply} (ready : Ready .c s)
    (ruled : takeTripAbort [aim] s = (after, r)) : Answers (.tripAbort 1 tag [aim]) 1 0x07 tag s after r :=
  answers_of_ownRule (k := .tripAbort) rfl ready (by simp) rfl ruled

/-- An abort of the active trip acts on it alone, and is handed on. -/
theorem takeTripAbort_active {s : State} {aim : Byte} {trip : Trip} (active : s.pipeline.active = some trip)
    (aims : aim = 0 ∨ aim = trip.tag) (others : ∀ w, s.pipeline.waiting = some w → aim = 0 ∨ aim ≠ w.tag) :
    takeTripAbort [aim] s = (handOn (abortActive trip s), .ok) := by
  have unnamed : waitingHas aim s = false := by
    rw [Bool.eq_false_iff]
    intro named
    obtain ⟨nonzero, w, waiting, same⟩ := waitingHas_iff.mp named
    exact (others w waiting).elim nonzero fun other => other same.symm
  simp only [takeTripAbort, List.getD_cons_zero, unnamed, active, Bool.false_eq_true, if_false, if_pos aims]

theorem abortActive_moving {s : State} {trip : Trip}
    (state : trip.state = .running ∨ trip.state = .creeping ∨ trip.state = .settling) :
    abortActive trip s = enterStopping .abort s := by
  obtain h | h | h := state <;> simp [abortActive, h]

/-- Settles O52: the rows of the table, each the branch that the tag and the trip's state select. -/
theorem abortsFollowTheTable : Obligations.AbortsFollowTheTable := by
  intro s tag aim ready abort done
  have answer {after : State} {r : Reply} (ruled : takeTripAbort [aim] s = (after, r)) :
      Answers abort 1 0x07 tag s after r := answers_tripAbort tag aim ready ruled
  refine ⟨fun trip waiting aims nonzero => ⟨handOn (finishWaiting .aborted (some .abort) s), answer ?waitingRuled, ?waiting⟩,
    fun trip active aims others => ?active, fun notActive notWaiting => answer ?empty⟩
  case waitingRuled =>
    have named : waitingHas aim s = true := waitingHas_iff.mpr ⟨nonzero, trip, waiting, aims.symm⟩
    simp [takeTripAbort, named, Reply.ok, done]
  case waiting => simpa using finishWaiting_record .aborted (some .abort) waiting
  case active =>
    have ruled := takeTripAbort_active active aims others
    refine ⟨fun state => ⟨_, answer ruled, ?_⟩, fun state => ⟨_, answer ruled, ?_⟩, fun state => ?moves⟩
    · simp only [abortActive, state]
      exact (finishBoth_finishes trip .aborted (some .abort) s active).congr rfl rfl rfl rfl (handOn_pipeline _)
    · simp [abortActive, state]
    rw [abortActive_moving state] at ruled
    refine ⟨fun moving => ⟨_, answer ruled, ?_⟩, fun still => ⟨_, answer ruled, ?_⟩⟩
    case moves.refine_1 =>
      obtain ⟨stopping, alone, flag, unwatched, record, queue⟩ := enterStopping_begins (cause := .abort) active moving
      rw [handOn_pipeline, handOn_guard]
      exact ⟨stopping, alone, flagSet_handOn_of_set flag, unwatched, record, queue, enterStopping_history active moving⟩
    case moves.refine_2 =>
      obtain ⟨finishes, flag, stop, watch⟩ := enterStopping_ends (cause := .abort) active still
      rw [handOn_guard]
      exact ⟨finishes.congr rfl rfl rfl rfl (handOn_pipeline _), flagSet_handOn_of_set flag, stop, watch⟩
  case empty =>
    have unnamed : waitingHas aim s = false := by
      rw [Bool.eq_false_iff]
      intro named
      obtain ⟨-, w, waiting, same⟩ := waitingHas_iff.mp named
      exact notWaiting w waiting same.symm
    cases active : s.pipeline.active with
    | none => simp [takeTripAbort, unnamed, active, Reply.bare]
    | some trip =>
      have other : ¬(aim = 0 ∨ aim = trip.tag) := not_or.mpr (notActive trip active)
      simp only [takeTripAbort, List.getD_cons_zero, unnamed, active, Bool.false_eq_true, if_false, if_neg other, Reply.bare]

end Sys2Proof.Machine

/-! PROOF. Requests of the stations on the zones and the readings (9.3 to 9.5, 11.4), and RESTART (11.7). -/

namespace Sys2Proof.Machine

/-! ### A request of a station 1 to 15 (R177) -/

/-- A request open to the stations completes as its own rule answers it. -/
theorem answers_of_station {i : Instr} {k : RequestKind} {origin tag : Byte} {params : List Byte} {s after : State} {r : Reply}
    (run : exec i s = .next (deliverRequest origin k.code tag params s)) (ready : Ready .c s) (least : 1 ≤ origin.toNat)
    (most : origin.toNat ≤ 15) (panels : k.openToPanels = true) (size : params.length ≤ 54)
    (fits : lengthFits k params = true) (ruled : ownRule k origin params s = (after, r)) :
    Answers i origin k.code tag s after r := by
  have may : originMayUse origin k = true := by
    rw [originMayUse_iff]
    obtain one | more := Nat.eq_or_lt_of_le least
    · exact .inl (BitVec.eq_of_toNat_eq one.symm)
    · exact .inr ⟨more, most, panels⟩
  have answered : answerRequest origin k.code params s = (after, r) := (answerRequest_of_passed s may fits).trans ruled
  rw [Answers, run, deliverRequest_of_ready _ _ _ ready size, serveRequest, answered]

theorem field_second (a b : Byte) (rest : List Byte) : field (a :: b :: rest) 1 1 = b.toNat := by simp [field, fieldBytes, be]

theorem field_first (a : Byte) (rest : List Byte) : field (a :: rest) 0 1 = a.toNat := by simp [field, fieldBytes, be]

theorem byteOf_toNat (b : Byte) : byteOf b.toNat = b := by simp [byteOf]

/-! ### STATUS READ and POSITION READ (R182, R183) -/

theorem signedField4_length (v : Int) : (signedField4 v).length = 4 := by
  unfold signedField4; split <;> simp

theorem unsignedField4_length (n : Nat) : (unsignedField4 n).length = 4 := by
  unfold unsignedField4; split <;> simp

theorem recordBytes_length (r : Option HistoryRecord) : (recordBytes r).length = 12 := by
  cases r <;> simp [recordBytes, signedField4_length]

theorem activeBytes_length (s : State) : (activeBytes s).length = 2 := by
  unfold activeBytes; split <;> rfl

theorem resultBytes_length (r : ValidationResult) : (resultBytes r).length = 5 := by cases r <;> rfl

theorem statusBytes_length (s : State) : (statusBytes s).length = 48 := by
  simp [statusBytes, bankBytes, recordBytes_length, activeBytes_length, resultBytes_length]

/-- Settles O58: the rule's two cases, and the fields at the two ends of the 48 bytes. -/
theorem statusReadClearsTheFlags : Obligations.StatusReadClearsTheFlags := by
  intro s origin tag ready least most
  refine ⟨answers_of_station (k := .statusRead) rfl ready least most rfl (by simp) rfl rfl, statusBytes_length s, rfl, ?flags,
    ?causes⟩
  case flags =>
    have front : (statusBytes s).length - (beBytes 2 s.requests.flags.toNat).length = 46 := by simp [statusBytes_length]
    have last : (statusBytes s).drop 46 = beBytes 2 s.requests.flags.toNat := by
      rw [← front]; unfold statusBytes; rw [List.length_append, Nat.add_sub_cancel, List.drop_left]
    rw [last, be_beBytes_of_lt (by have := s.requests.flags.isLt; omega)]
  case causes =>
    have second : ((statusBytes s).drop 2).take 2 = beBytes 2 s.protection.causes.toNat := rfl
    rw [second, be_beBytes_of_lt (by have := s.protection.causes.isLt; omega)]

theorem occupancyBytes_length (o : Occupancy) : (occupancyBytes o).length = 2 := by cases o <;> rfl

theorem positionBytes_length (c : Conveyance) (s : State) : (positionBytes c s).length = 28 := by
  simp [positionBytes, envelopeBytes, signedField4_length, unsignedField4_length, occupancyBytes_length]

/-- The reported depth stands behind P, the three envelopes and the conveyance. -/
theorem positionBytes_reported (c : Conveyance) (s : State) :
    fieldBytes (positionBytes c s) 9 4 = signedField4 (tracker c s).reported := by
  set front := beBytes 2 s.envelope.permitted ++ envelopeBytes s.envelope.envelopes.skip
    ++ envelopeBytes s.envelope.envelopes.cage ++ envelopeBytes s.envelope.envelopes.counterweight ++ [byteOf c.index] with at_front
  have size : front.length = 9 := by simp [at_front, envelopeBytes]
  have apart : ∃ rest, positionBytes c s = front ++ (signedField4 (tracker c s).reported ++ rest) := by
    unfold positionBytes
    dsimp only
    rw [← at_front]
    simp only [List.append_assoc]
    exact ⟨_, rfl⟩
  obtain ⟨rest, bytes⟩ := apart
  rw [fieldBytes, bytes, List.drop_left' size, List.take_left' (signedField4_length _)]

/-- Settles O59: the code names a conveyance or it does not, and the fields read back from the 28 bytes. -/
theorem positionReadShowsTheTracker : Obligations.PositionReadShowsTheTracker := by
  intro s origin tag code ready least most
  have answer {after : State} {r : Reply} (ruled : takePositionRead [code] s = (after, r)) :
      Answers (.positionRead origin tag [code]) origin 0x0E tag s after r :=
    answers_of_station (k := .positionRead) rfl ready least most rfl (by simp) rfl ruled
  refine ⟨fun none => answer ?_, fun c named => ⟨answer ?_, positionBytes_length c s, fun fits => ?_, fun lo hi => ?_⟩⟩
  · simp [takePositionRead, field_first, none]; rfl
  · simp [takePositionRead, field_first, named]
  · exact field_beBytes_append (by omega) _
  · rw [signedField, field, positionBytes_reported, signedField4, if_pos ⟨lo, hi⟩]
    exact signed_signedBytes (by omega) (by omega)

/-! ### ZONE HOLD and ZONE RELEASE (R156, R158) -/

theorem zoneExists_iff (z : Nat) (s : State) : zoneExists z s = true ↔ z < (zoneList s).length := by simp [zoneExists]

theorem takeZoneHold_missing {zone : Byte} {s : State} (origin : Byte) (missing : (zoneList s).length ≤ zone.toNat) :
    takeZoneHold origin [zone] s = (s, .outOfRange 1) := by
  simp [takeZoneHold, field_first, zoneExists, missing]

theorem takeZoneHold_refused {zone : Byte} {s : State} {r : Reply} (origin : Byte) (here : zone.toNat < (zoneList s).length)
    (refused : holdRefusal zone.toNat s = some r) : takeZoneHold origin [zone] s = (s, r) := by
  simp [takeZoneHold, field_first, zoneExists, here, refused]

/-- Settles O56: each summary by its own row of the refusals. -/
theorem holdsNeedAClearZone : Obligations.HoldsNeedAClearZone := by
  intro s origin tag zone ready least most z hold refused
  have answer {after : State} {r : Reply} (ruled : takeZoneHold origin [zone] s = (after, r)) :
      Answers hold origin 0x0B tag s after r :=
    answers_of_station (k := .zoneHold) rfl ready least most rfl (by simp) rfl ruled
  refine ⟨fun missing => answer (takeZoneHold_missing origin missing), fun here => ⟨fun clear => answer ?clear, ?_, ?_, ?_, ?_, ?_⟩⟩
  case clear =>
    have free : holdRefusal zone.toNat s = none := by simp only [holdRefusal]; rw [clear]
    simp [takeZoneHold, field_first, zoneExists, here, free, setHolder, z, Reply.ok]
  all_goals
    intros
    refine answer (takeZoneHold_refused origin here ?_)
    simp_all [holdRefusal, Reply.bare, z]

theorem takeZoneRelease_missing {zone : Byte} {s : State} (origin : Byte) (missing : (zoneList s).length ≤ zone.toNat) :
    takeZoneRelease origin [zone] s = (s, .outOfRange 1) := by
  simp [takeZoneRelease, field_first, zoneExists, missing]

/-- On a zone that exists, a release turns on the holder. -/
theorem takeZoneRelease_here {zone : Byte} {s : State} (origin : Byte) (here : zone.toNat < (zoneList s).length) :
    takeZoneRelease origin [zone] s = match holderOf zone.toNat s with
      | none => (s, .bare .empty)
      | some h => if origin = h ∨ origin = 1 then (setHolder zone.toNat none s, .ok) else (s, .bare .origin) := by
  simp only [takeZoneRelease, field_first, zoneExists, here, decide_true, Bool.not_true, Bool.false_eq_true, if_false]
  rfl

/-- Settles O57: the zone's holder and the origin decide. -/
theorem releasesFreeTheZone : Obligations.ReleasesFreeTheZone := by
  intro s origin tag zone ready least most z release
  have answer {after : State} {r : Reply} (ruled : takeZoneRelease origin [zone] s = (after, r)) :
      Answers release origin 0x0C tag s after r :=
    answers_of_station (k := .zoneRelease) rfl ready least most rfl (by simp) rfl ruled
  refine ⟨fun missing => answer (takeZoneRelease_missing origin missing),
    fun here => ⟨fun free => answer ?_, fun h held stranger panel => answer ?_, fun h held may => answer ?_⟩⟩
  all_goals rw [takeZoneRelease_here origin here]
  · rw [free]; rfl
  · rw [held]; exact if_neg (not_or.mpr ⟨stranger, panel⟩)
  · rw [held]; exact if_pos may

/-! ### ZONE INQUIRY (R151 to R154) -/

theorem takeZoneInquiry_missing {zone option : Byte} {s : State} (origin : Byte)
    (missing : (zoneList s).length ≤ zone.toNat) : takeZoneInquiry origin [zone, option] s = (s, .outOfRange 1) := by
  simp [takeZoneInquiry, field_first, zoneExists, missing]

/-- With the option clear an inquiry only looks (R151). -/
theorem takeZoneInquiry_off {zone : Byte} {s : State} (origin : Byte) (here : zone.toNat < (zoneList s).length) :
    takeZoneInquiry origin [zone, 0] s = (s, inquiryReply zone.toNat .none s) := by
  simp [takeZoneInquiry, field_first, field_second, zoneExists, here]

/-- With the option set it withdraws or watches (R152). -/
theorem takeZoneInquiry_on {zone : Byte} {s t : State} {origin : Byte} {action : ZoneAction}
    (here : zone.toNat < (zoneList s).length) (done : withdraw zone.toNat origin s = (t, action)) :
    takeZoneInquiry origin [zone, 1] s = (t, inquiryReply zone.toNat action t) := by
  simp [takeZoneInquiry, field_first, field_second, zoneExists, here, done]

theorem takeZoneInquiry_above {zone option : Byte} {s : State} (origin : Byte) (here : zone.toNat < (zoneList s).length)
    (above : 2 ≤ option.toNat) : takeZoneInquiry origin [zone, option] s = (s, .outOfRange 2) := by
  simp only [takeZoneInquiry, field_first, field_second, zoneExists, here, decide_true, Bool.not_true, Bool.false_eq_true, if_false]
  split
  · omega
  · omega
  · rfl

/-- A watch asked for: of one that stands, of one more than the list holds, and of a new one (R154). -/
theorem watchZone_cases (z : Nat) (station : Byte) (s : State) :
    let e : WatchEntry := { zone := z, station }
    (e ∈ s.zones.watchList → watchZone z station s = (s, .watched))
      ∧ (e ∉ s.zones.watchList → 4 ≤ s.zones.watchList.length → watchZone z station s = (s, .watchFull))
      ∧ (e ∉ s.zones.watchList → s.zones.watchList.length < 4 →
        watchZone z station s = ({ s with zones.watchList := s.zones.watchList ++ [e] }, .watched)) := by
  refine ⟨fun stands => ?_, fun new full => ?_, fun new room => ?_⟩
  · simp [watchZone, addWatch, isWatched, stands]
  · simp [watchZone, addWatch, isWatched, new, Config.watchListPlaces, Nat.not_lt.mpr full]
  · simp [watchZone, addWatch, isWatched, new, Config.watchListPlaces, room]

/-- Settles O55: the option, and with it set the zone's summary, select the branch. -/
theorem inquiriesLookWithdrawOrWatch : Obligations.InquiriesLookWithdrawOrWatch := by
  intro s origin tag zone option ready least most z inquiry looks entry
  have answer {after : State} {r : Reply} (ruled : takeZoneInquiry origin [zone, option] s = (after, r)) :
      Answers inquiry origin 0x0A tag s after r :=
    answers_of_station (k := .zoneInquiry) rfl ready least most rfl (by simp) rfl ruled
  have shows (t : State) (action : ZoneAction) : inquiryReply z action t = looks t action.code := by
    simp [inquiryReply, looks, z, byteOf_toNat]
  refine ⟨fun missing => answer (takeZoneInquiry_missing origin missing),
    fun here => ⟨fun above => answer (takeZoneInquiry_above origin here above), fun off => ?off, fun on => ?on⟩⟩
  case off =>
    subst off
    exact answer ((takeZoneInquiry_off origin here).trans (congrArg (s, ·) (shows s .none)))
  case on =>
    subst on
    have done {t : State} {action : ZoneAction} (withdrawn : withdraw z origin s = (t, action)) :
        Answers inquiry origin 0x0A tag s t (looks t action.code) :=
      shows t action ▸ answer (takeZoneInquiry_on here withdrawn)
    have watches (busy : summaryOf z s = .occupied ∨ summaryOf z s = .plannedActive ∧ s.zones.activeState ≠ some .waiting) :
        withdraw z origin s = watchZone z origin s := by
      obtain occupied | ⟨planned, under⟩ := busy
      · simp [withdraw, occupied]
      · simp [withdraw, planned, under]
    obtain ⟨stands, full, room⟩ := watchZone_cases z origin s
    refine ⟨fun idle => done (action := .none) ?idle, 
      fun planned => ⟨handOn (finishWaiting .withdrawn none s), done (action := .withdrawn) ?waits, ?waiting⟩,
      fun planned unstarted => ⟨handOn (finishBoth .withdrawn none s), done (action := .withdrawn) ?stands, ?active⟩,
      fun busy => ⟨fun listed => done (action := .watched) ((watches busy).trans (stands listed)),
        fun new long => done (action := .watchFull) ((watches busy).trans (full new long)),
        fun new short => done (action := .watched) ((watches busy).trans (room new short))⟩⟩
    case idle => obtain h | h | h := idle <;> simp [withdraw, h]
    case waits => simp only [withdraw, planned]
    case waiting =>
      rw [handOn_pipeline]
      exact ⟨by simp, by simp, fun w waits => finishWaiting_record .withdrawn none waits⟩
    case stands => simp only [withdraw, planned, unstarted, if_true]
    case active =>
      refine ⟨by simp, by simp, fun trip active => ?_⟩
      exact (finishBoth_finishes trip .withdrawn none s active).congr rfl rfl rfl rfl (handOn_pipeline _)

/-! ### KEY (R28) -/

/-- A change of KEY to LOCKED abandons what is open. -/
theorem turnKey_locked {s : State} (free : s.key = .unlocked) : turnKey .locked s = abandon .key { s with key := .locked } := by
  simp [turnKey, free]

/-- Settles O48: the two positions, and an abandonment only of an open commitment. -/
theorem keyLockAbandons : Obligations.KeyLockAbandons := by
  intro s locked
  have same : commitmentOpen locked = commitmentOpen s := rfl
  refine ⟨fun wasLocked => completes_of rfl (by simp [turnKey, wasLocked]), fun free closed => completes_of rfl ?_,
    fun free opened => ⟨setResult (.abandoned (openSet s) .key) (closeCommitment locked), completes_of rfl ?_,
      fun b => by cases b <;> rfl, rfl, rfl, rfl⟩⟩
  · rw [turnKey_locked free, abandon_closed (same.trans closed)]
  · rw [turnKey_locked free, abandon, if_pos (same.trans opened)]
    rfl

/-! ### RESTART (R188) -/

/-- RESTART of the controller completes as its own rule answers it. -/
theorem answers_restart {s after : State} (tag : Byte) {r : Reply} (ready : Ready .c s)
    (ruled : takeRestart s = (after, r)) : Answers (.restart 1 tag []) 1 0x09 tag s after r :=
  answers_of_ownRule (k := .restart) rfl ready (by simp) rfl ruled

/-- With the watch list empty a hand-on offers nothing, so that flags and counters stay. -/
theorem handOn_requests_of_unwatched {s : State} (unwatched : s.zones.watchList = []) : (handOn s).requests = s.requests := by
  simp [handOn, handOnZones, judgeWatchList, takeHandOn, recomputeSpeed, unwatched]

/-- The fresh shift's flags and counters: START alone, and no event counted, while its notice finds room. -/
theorem restarted_requests {s : State} (room : s.line.queue.length < 16) :
    (restarted s).requests.flags = 1 ∧ (restarted s).requests.counters = State.resetCounters := by
  have queue : (restartWrites s).line.queue = s.line.queue := by simp [restartWrites]
  have clear : flagSet .start (restartWrites s) = false := by simp [restartWrites, flagSet]
  have free : upRoom .part (markFlag .start (restartWrites s)) = true := by
    simpa [upRoom, queue, Config.upQueuePlaces] using room
  simp only [restarted, Machine.setFlag, clear, Bool.false_eq_true, if_false, offerUp_of_room _ free]
  exact ⟨by simp [markFlag, restartWrites, Flag.index]; rfl, rfl⟩

/-- Settles O54: the refusals of the rule, and its writes one by one behind the hand-on. -/
theorem restartBeginsAFreshShift : Obligations.RestartBeginsAFreshShift := by
  intro s tag ready restart
  refine ⟨fun unmet => answers_restart tag ready ?refused,
    fun takes still empty => ⟨handOn (restarted s), answers_restart tag ready ?accepted, ?fresh⟩⟩
  case refused => 
    obtain state | moving | busy := unmet
    · have other : s.protection.state ≠ .undatumed ∧ s.protection.state ≠ .armed := not_or.mp state
      simp [takeRestart, other, Reply.bare]
    · simp [takeRestart, moving, Reply.bare]
    · simp [takeRestart, busy, Reply.bare]
  case accepted => 
    have state : ¬(s.protection.state ≠ .undatumed ∧ s.protection.state ≠ .armed) := by
      obtain h | h := takes <;> simp [h]
    simp [takeRestart, still, empty, if_neg state, restartPart_eq_handOn, Reply.ok]
  case fresh =>
    have unwatched : (restarted s).zones.watchList = [] := by simp [restarted, restartWrites]
    have slots : (restarted s).pipeline.active = none := by
      simpa [restarted, restartWrites] using (pipelineEmpty_iff.mp empty).1
    have tracked (c : Conveyance) : tracker c (handOn (restarted s)) = (tracker c s).undatumed := by
      rw [tracker_congr c (handOn_trackers _), ← tracker_undatumAll]
      exact tracker_congr c (by simp [restarted, restartWrites])
    refine ⟨?_, ?_, handOn_permitted (.inr (.inr slots)), fun c => ?_, ?_, ?_, ?_, fun room => ?_, ?_⟩
    · simp [restarted]
    · simp [restarted]
    · rw [tracked]; exact ⟨rfl, rfl, rfl⟩
    · simp [restarted, restartWrites]
    · simp [handOn, handOnZones_zones, recomputeSpeed, unwatched]
    · exact flagSet_handOn_of_set (flagSet_setFlag _ _)
    · rw [handOn_requests_of_unwatched unwatched, (restarted_requests room).1, (restarted_requests room).2]
      exact ⟨rfl, by decide⟩
    · simp [restarted, restartWrites]

end Sys2Proof.Machine

/-! PROOF. The Table Store's requests: loading and reading rows, preparing and confirming a commitment (2.2, 2.3, 2.6). -/

namespace Sys2Proof.Machine

/-! ### ROW LOAD (R21) -/

/-- ROW LOAD of the controller completes as its own rule answers it. -/
theorem answers_rowLoad {s after : State} (tag : Byte) {params : List Byte} {r : Reply} (ready : Ready .c s)
    (size : params.length ≤ 54) (ruled : takeRowLoad params s = (after, r)) :
    Answers (.rowLoad 1 tag params) 1 0x01 tag s after r :=
  answers_of_ownRule (k := .rowLoad) rfl ready size rfl ruled

/-- The row that a load accepts is appended at the fill count, or stands alone as row 0 of an emptied bank. -/
theorem loadRow_accepted {s : State} {t : TableId} {table row : Byte} {content : List Byte} {r : Row}
    (loading : (bank t s).state = .loading) (below : row.toNat < capacity t)
    (inOrder : row.toNat = (bank t s).shadow.length ∨ row.toNat = 0)
    (accepted : judgeRow t row.toNat (bank t s).shadow content = .ok r) :
    loadRow t table row content s = (setBank t ((bank t s).stored row.toNat r) s, .ok) := by
  have ordered : ¬(row.toNat ≠ (bank t s).shadow.length ∧ row.toNat ≠ 0) := by tauto
  simp [loadRow, loading, Nat.not_le.mpr below, ordered, accepted]

/-- Settles O42: the conditions in their order, each with those before it met. -/
theorem rowLoadFillsTheShadow : Obligations.RowLoadFillsTheShadow := by
  refine ⟨fun s tag table row content ready size => ⟨fun unknown => ?_, ?_, ?_⟩,
    ?loads⟩
  case refine_1 => exact answers_rowLoad tag ready (by simp; omega) (by simp [takeRowLoad, unknown, rowLoadRange])
  case refine_2 => exact answers_rowLoad tag ready (by simp) rfl
  case refine_3 => exact answers_rowLoad tag ready (by simp) rfl
  case loads =>
    intro s tag table row content b ready size known load held inOrder
    have answer {after : State} {r : Reply} (ruled : loadRow b table row content s = (after, r)) :
        Answers load 1 0x01 tag s after r := answers_rowLoad tag ready (by simp; omega) (by simpa [takeRowLoad, known] using ruled)
    refine ⟨fun busy => answer ?busy, fun loading above => ⟨Config.rowNumberPosition table row, answer ?above⟩,
    fun loading below gap nonzero => answer ?order,
      fun p loading ordered refused => answer ?refused, fun r loading ordered accepted => ⟨fun next => answer ?_, fun first => answer ?_⟩⟩
    case busy => simp [loadRow, busy, Reply.bare]
    case above => simp [loadRow, loading, above, rowLoadRange]
    case order => simp [loadRow, loading, Nat.not_le.mpr below, gap, nonzero, held, Reply.bare]
    case refused =>
      have ordered' : ¬(row.toNat ≠ held.length ∧ row.toNat ≠ 0) := by tauto
      simp only [loadRow, loading, Nat.not_le.mpr ordered.1, ordered', refused, held]
      rfl
    case refine_1 =>
      rw [loadRow_accepted loading ordered.1 ordered.2 accepted, Bank.stored, if_pos next]
      rfl
    case refine_2 =>
      rw [loadRow_accepted loading ordered.1 ordered.2 accepted, Bank.stored]
      split
      · next empty =>
        have none : held = [] := List.eq_nil_of_length_eq_zero (empty.symm.trans first)
        rw [show (bank b s).shadow = [] from none]
        rfl
      · rfl

/-! ### ROW READ (R22) -/

/-- ROW READ of the controller completes as its own rule answers it. -/
theorem answers_rowRead {s after : State} (tag table which row : Byte) {r : Reply} (ready : Ready .c s)
    (ruled : takeRowRead [table, which, row] s = (after, r)) :
    Answers (.rowRead 1 tag [table, which, row]) 1 0x02 tag s after r :=
  answers_of_ownRule (k := .rowRead) rfl ready (by simp) rfl ruled

theorem takeRowRead_bank {s : State} {table which row : Byte} {b : TableId} (known : TableId.ofByte table = some b)
    (bank : which.toNat < 2) : takeRowRead [table, which, row] s = (s, readRow b (decide (which = 0)) row s) := by
  have either : which = 0 ∨ which = 1 := by bv_omega
  obtain rfl | rfl := either
  · simp [takeRowRead, known, field_second]
  · simp [takeRowRead, known, field_second]

/-- Settles O43: the three fields judged in order, and then the row that stands there. -/
theorem rowReadReturnsTheRow : Obligations.RowReadReturnsTheRow := by
  intro s tag table which row ready read
  have answer {r : Reply} (ruled : takeRowRead [table, which, row] s = (s, r)) : Answers read 1 0x02 tag s s r :=
    answers_rowRead tag table which row ready ruled
  refine ⟨fun unknown => answer (by simp [takeRowRead, unknown, Reply.outOfRange]), fun b known => ⟨fun above => answer ?above,
    fun bank full => ?full, fun bank below => ?rows⟩⟩
  case above =>
    simp only [takeRowRead, List.getD_cons_zero, known, field_second]
    split
    · omega
    · omega
    · rfl
  case full =>
    refine answer ((takeRowRead_bank known bank).trans ?_)
    simp [readRow, full, Reply.outOfRange]
  case rows =>
    intro rows
    have reads {r : Row} (here : rows[row.toNat]? = some r) : takeRowRead [table, which, row] s
        = (s, { result := .done, data := readBytes (decide (which = 0)) rows row.toNat r s }) := by
      rw [takeRowRead_bank known bank]
      simp only [rows] at here
      simp only [readRow, decide_eq_true_eq, Nat.not_le.mpr below, if_false, here, rows]
    refine ⟨fun short => answer ?_, fun r here plain => answer ?_, fun m here shadow => answer ?_, fun m here active => answer ?_⟩
    · have none := List.getElem?_eq_none short
      simp only [rows] at none
      rw [takeRowRead_bank known bank]
      simp only [readRow, decide_eq_true_eq, Nat.not_le.mpr below, if_false, none]
      rfl
    · rw [reads here]
      cases r with
      | marker m => exact absurd rfl (plain m)
      | _ => rfl
    · rw [reads here]; subst shadow; rfl
    · rw [reads here]; subst active; rfl

/-! ### COMMIT PREPARE (R23, R24) -/

/-- COMMIT PREPARE of the controller completes as its own rule answers it. -/
theorem answers_commitPrepare {s after : State} (tag set : Byte) {r : Reply} (ready : Ready .c s)
    (ruled : takeCommitPrepare [set] s = (after, r)) : Answers (.commitPrepare 1 tag [set]) 1 0x03 tag s after r :=
  answers_of_ownRule (k := .commitPrepare) rfl ready (by simp) rfl ruled

theorem closed_of_loading {s : State} (loading : ∀ b, (bank b s).state = .loading) : commitmentOpen s = false := by
  rw [Bool.eq_false_iff, ne_eq, commitmentOpen_iff]
  simpa using loading

/-- The set that a byte from 1 to 7 names. -/
theorem readTableSet_of {set : Byte} (nonzero : set ≠ 0) (below : set.toNat < 8) :
    readTableSet set = some { shaft := set.getLsbD 0, profile := set.getLsbD 1, drum := set.getLsbD 2 } := by
  have inRange : ¬(set = 0 ∨ 8 ≤ set.toNat) := by simp only [not_or, not_le]; exact ⟨nonzero, below⟩
  rw [readTableSet, if_neg inRange]

theorem has_named (set : Byte) (b : TableId) :
    TableSet.has { shaft := set.getLsbD 0, profile := set.getLsbD 1, drum := set.getLsbD 2 } b = set.getLsbD b.code := by
  cases b <;> rfl

/-- Every table in a set of the NO-TABLES state is the set 7. -/
theorem all_named_iff {set : Byte} (below : set.toNat < 8) :
    (set.getLsbD 0 && set.getLsbD 1 && set.getLsbD 2) = true ↔ set = 7 := by
  revert set
  decide

/-- The first table named that is short of its minimum (R23). -/
theorem shortTable_eq_some {named : TableSet} {s : State} {b : TableId} (has : named.has b = true)
    (short : (bank b s).shadow.length < minimumRows b)
    (before : ∀ b', b'.code < b.code → named.has b' = true → minimumRows b' ≤ (bank b' s).shadow.length) :
    shortTable named s = some b := by
  have long (b' : TableId) (earlier : b'.code < b.code) :
      (named.has b' && decide ((bank b' s).shadow.length < minimumRows b')) = false := by
    cases names : named.has b' with
    | false => rfl
    | true => simpa using before b' earlier names
  have here : (named.has b && decide ((bank b s).shadow.length < minimumRows b)) = true := by simp [has, short]
  unfold shortTable
  cases b with
  | shaft => simp only [List.find?_cons, here]
  | profile => simp only [List.find?_cons, long .shaft (by decide), here]
  | drum => simp only [List.find?_cons, long .shaft (by decide), long .profile (by decide), here]

theorem shortTable_eq_none {named : TableSet} {s : State}
    (long : ∀ b, named.has b = true → minimumRows b ≤ (bank b s).shadow.length) : shortTable named s = none := by
  rw [shortTable, List.find?_eq_none]
  intro b _ both
  simp only [Bool.and_eq_true, decide_eq_true_eq] at both
  exact absurd (long b both.1) (Nat.not_le.mpr both.2)

/-- What frees the part for a commitment, as the rule tests it (R23). -/
theorem commitmentFree {s : State}
    (free : s.key = .unlocked ∧ (∀ b, (bank b s).state = .loading) ∧ s.protection.state ≠ .tripped
      ∧ (s.protection.state = .noTables ∨ (winderAtRest s = true ∧ pipelineEmpty s = true))) :
    s.key = .unlocked ∧ commitmentOpen s = false ∧ s.protection.state ≠ .tripped ∧ restAllows s = true :=
  ⟨free.1, closed_of_loading free.2.1, free.2.2.1, by simpa [restAllows] using free.2.2.2⟩

/-- Settles O44: R23's conditions in order, and a start of validation that touches the named banks' states alone. -/
theorem prepareStartsValidation : Obligations.PrepareStartsValidation := by
  intro s tag set ready prepare free
  have answer {after : State} {r : Reply} (ruled : takeCommitPrepare [set] s = (after, r)) :
      Answers prepare 1 0x03 tag s after r := answers_commitPrepare tag set ready ruled
  set named : TableSet := { shaft := set.getLsbD 0, profile := set.getLsbD 1, drum := set.getLsbD 2 } with at_named
  have read (nonzero : set ≠ 0) (below : set.toNat < 8) : readTableSet set = some named := readTableSet_of nonzero below
  have nameable_of (below : set.toNat < 8) (all : s.protection.state = .noTables → set = 7) : nameable named s = true := by
    by_cases noTables : s.protection.state = .noTables
    · have whole := (all_named_iff below).mpr (all noTables)
      simp only [nameable, noTables, at_named, whole, Bool.or_true]
    · simp [nameable, noTables]
  refine ⟨fun locked => answer ?locked, fun key busy => answer ?busy, fun key loading tripped => answer ?tripped,
    fun key loading state moves => answer ?moves, fun h outside => answer ?outside,
    fun h nonzero below all b has short before => answer ?short,
    fun h nonzero below all long => ⟨startValidation named s, answer ?starts, fun b => ?banks, rfl, rfl, rfl⟩⟩
  case locked => simp [takeCommitPrepare, locked, Reply.bare]
  case busy => simp [takeCommitPrepare, key, (commitmentOpen_iff s).mpr busy, Reply.bare]
  case tripped => simp [takeCommitPrepare, key, closed_of_loading loading, tripped, Reply.bare]
  case moves =>
    have barred : restAllows s = false := by
      obtain h | h := moves <;> simp [restAllows, state, h]
    simp [takeCommitPrepare, key, closed_of_loading loading, barred, Reply.bare]
  case outside =>
    obtain ⟨key, closed, state, allowed⟩ := commitmentFree h
    by_cases inRange : set ≠ 0 ∧ set.toNat < 8
    · obtain ⟨nonzero, below⟩ := inRange
      have partly : s.protection.state = .noTables ∧ set ≠ 7 := by
        obtain zero | above | partly := outside
        · exact absurd zero nonzero
        · omega
        · exact partly
      have unnameable : nameable named s = false := by
        have part := mt (all_named_iff below).mp partly.2
        simp only [Bool.not_eq_true] at part
        simp only [nameable, partly.1, at_named, part, ne_eq, not_true, decide_false, Bool.or_false]
      simp [takeCommitPrepare, key, closed, state, allowed, read nonzero below, unnameable, Reply.outOfRange]
    · have unread : readTableSet set = none := by
        rw [readTableSet, if_pos]
        rw [not_and_or, not_not, not_lt] at inRange
        exact inRange
      simp [takeCommitPrepare, key, closed, state, allowed, unread, Reply.outOfRange]
  case short =>
    obtain ⟨key, closed, state, allowed⟩ := commitmentFree h
    simp [takeCommitPrepare, key, closed, state, allowed, read nonzero below, nameable_of below all,
      shortTable_eq_some (named := named) ((has_named set b).trans has) short fun b' earlier names =>
        before b' earlier ((has_named set b').symm.trans names)]
  case starts =>
    obtain ⟨key, closed, state, allowed⟩ := commitmentFree h
    simp [takeCommitPrepare, key, closed, state, allowed, read nonzero below, nameable_of below all, Reply.ok,
      shortTable_eq_none (named := named) fun b names => long b ((has_named set b).symm.trans names)]
  case banks =>
    have loading : bank b s = { bank b s with state := .loading } := by rw [← h.2.1 b]
    have started : bank b (startValidation named s) = Bank.startedIf (named.has b) (bank b s) := by cases b <;> rfl
    rw [started, has_named, Bank.startedIf]
    split
    · rfl
    · exact loading

/-! ### COMMIT CONFIRM (R30 to R32, R160) -/

/-- COMMIT CONFIRM of the controller completes as its own rule answers it. -/
theorem answers_commitConfirm {s after : State} (tag : Byte) {r : Reply} (ready : Ready .c s)
    (ruled : takeCommitConfirm s = (after, r)) : Answers (.commitConfirm 1 tag []) 1 0x04 tag s after r :=
  answers_of_ownRule (k := .commitConfirm) rfl ready (by simp) rfl ruled

theorem someValidating_iff {s : State} : anyValidating s = true ↔ ∃ b, (bank b s).state = .validating := by
  rw [← Bool.not_eq_false, noneValidating_iff]
  simp

theorem someValidated_iff {s : State} : anyValidated s = true ↔ ∃ b, (bank b s).state = .validated := by
  constructor
  · intro any
    simp only [anyValidated, Bool.or_eq_true, decide_eq_true_eq] at any
    obtain (shaft | profile) | drum := any
    exacts [⟨.shaft, shaft⟩, ⟨.profile, profile⟩, ⟨.drum, drum⟩]
  · rintro ⟨b, state⟩
    cases b <;> simp only [bank] at state <;> simp [anyValidated, state]

/-- A recomputation writes depths, and neither datum nor offset nor load. -/
theorem tracker_recomputeTracker (c c' : Conveyance) (s : State) :
    (tracker c (recomputeTracker c' s)).datumed = (tracker c s).datumed
      ∧ (tracker c (recomputeTracker c' s)).expected = (tracker c s).expected
      ∧ (tracker c (recomputeTracker c' s)).offset = (tracker c s).offset
      ∧ (tracker c (recomputeTracker c' s)).load = (tracker c s).load := by
  unfold recomputeTracker
  by_cases same : c = c'
  · subst same; rw [tracker_setTracker_same]; exact ⟨rfl, rfl, rfl, rfl⟩
  · rw [tracker_setTracker_other _ _ same]; exact ⟨rfl, rfl, rfl, rfl⟩

/-- A tracker UNDATUMED, with the offset and load of one before. -/
def LosesDatum (before after : Tracker) : Prop :=
  after.datumed = false ∧ after.expected = none ∧ after.offset = before.offset ∧ after.load = before.load

theorem LosesDatum.recompute {t : Tracker} {c : Conveyance} {s : State} (h : LosesDatum t (tracker c s)) (c' : Conveyance) :
    LosesDatum t (tracker c (recomputeTracker c' s)) := by
  obtain ⟨datumed, expected, offset, load⟩ := tracker_recomputeTracker c c' s
  rw [LosesDatum, datumed, expected, offset, load]
  exact h

theorem tracker_confirmUndatums (c : Conveyance) (s : State) : tracker c (confirmUndatums s) = (tracker c s).undatumed := by
  rw [← tracker_undatumAll]
  exact tracker_congr c (by unfold confirmUndatums; dsimp only; split <;> rfl)

/-- The trackers of a confirmed SHAFT or DRUM table are UNDATUMED, their offsets and loads kept (R32, R69). -/
theorem confirmWrites_undatums {s : State} (tables : s.tables.shaft.state = .validated ∨ s.tables.drum.state = .validated)
    (c : Conveyance) : LosesDatum (tracker c s) (tracker c (confirmWrites s)) := by
  have opened : tracker c (if s.protection.state = .noTables then firstConfirm (swapBanks s) else swapBanks s)
      = tracker c s := tracker_congr c (by split <;> rfl)
  unfold confirmWrites
  simp only [if_pos tables]
  set u := if s.protection.state = .noTables then firstConfirm (swapBanks s) else swapBanks s
  have lost : LosesDatum (tracker c s) (tracker c (confirmUndatums u)) := by
    rw [tracker_confirmUndatums, opened]; exact ⟨rfl, rfl, rfl, rfl⟩
  split
  · exact ((lost.recompute .skip).recompute .cage).recompute .counterweight
  · exact lost

/-- With neither table confirmed the trackers stay. -/
theorem confirmWrites_trackers {s : State} (neither : ¬(s.tables.shaft.state = .validated ∨ s.tables.drum.state = .validated)) :
    (confirmWrites s).trackers = s.trackers := by
  rw [confirmWrites_of_neither neither]
  split <;> rfl

/-- Only the first confirm writes the drums: the applied positions and the watches (R32). -/
theorem confirmWrites_drums (s : State) :
    (confirmWrites s).drums = if s.protection.state = .noTables then (firstConfirm (swapBanks s)).drums else s.drums := by
  unfold confirmWrites confirmUndatums confirmShaft
  simp only
  (repeat' split) <;> simp [swapBanks]

theorem confirmWrites_state {s : State} (tables : s.tables.shaft.state = .validated ∨ s.tables.drum.state = .validated) :
    (confirmWrites s).protection.state ≠ .armed := by
  obtain ⟨first, later⟩ := confirmWrites_protection s
  by_cases state : s.protection.state = .noTables
  · simp [first state]
  · rw [later state]
    dsimp only
    split
    · simp
    · next other => exact fun armed => other ⟨tables, armed⟩

/-- Settles O46: the refusals in order, and the confirm's writes one by one behind the hand-on. -/
theorem confirmSwapsTheBanks : Obligations.ConfirmSwapsTheBanks := by
  refine ⟨fun s tag ready => ?refusals, fun s tag ready key ruled some rest =>
    ⟨handOn (confirmWrites s), answers_commitConfirm tag ready ?accepted, fun b => ?banks, ?result, fun shaft => ?fresh,
      fun notShaft => ?kept, fun tables => ?undatums, fun neither => ?trackers, fun noTables => ?first, fun later => ?drums,
      ?pipeline, ?key, ?guard⟩⟩
  case refusals =>
    intro refused validating validated
    have answer {r : Result} (ruled : takeCommitConfirm s = (s, .bare r)) : refused r := answers_commitConfirm tag ready ruled
    have none (h : ¬validating) : anyValidating s = false := by rw [← Bool.not_eq_true, someValidating_iff]; exact h
    refine ⟨fun locked => answer ?_, fun key busy => answer ?_, fun key free idle => answer ?_,
      fun key free some later moves => answer ?_⟩
    · simp [takeCommitConfirm, locked]
    · simp [takeCommitConfirm, key, someValidating_iff.mpr busy]
    · have unruled : anyValidated s = false := by rw [← Bool.not_eq_true, someValidated_iff]; exact idle
      simp [takeCommitConfirm, key, none free, unruled]
    · have barred : restAllows s = false := by
        obtain h | h | h := moves <;> simp [restAllows, pipelineEmpty, later, h, Option.isSome_iff_ne_none]
      simp [takeCommitConfirm, key, none free, someValidated_iff.mpr some, barred]
  case accepted =>
    have allowed : restAllows s = true := by simpa [restAllows] using rest
    simp [takeCommitConfirm, key, ruled, some, allowed, confirm_eq_handOn, Reply.ok]
  case banks =>
    rw [bank_congr b (handOn_tables _), bank_congr b (confirmWrites_tables s)]
    cases b <;> rfl
  case result => rw [handOn_tables, confirmWrites_tables]; rfl
  case fresh =>
    rw [handOn_tables, confirmWrites_tables, handOn_holders, confirmWrites_holders, if_pos shaft]
    refine ⟨if_pos shaft, ?_, fun h mem => List.eq_of_mem_replicate mem⟩
    simp [handOn, handOnZones_zones, recomputeSpeed, confirmWrites_emptied shaft]
  case kept =>
    rw [handOn_tables, confirmWrites_tables, handOn_holders, confirmWrites_holders, if_neg notShaft]
    exact ⟨if_neg notShaft, rfl⟩
  case undatums =>
    rw [handOn_protection]
    refine ⟨confirmWrites_state tables, fun c => ?_⟩
    rw [tracker_congr c (handOn_trackers _)]
    exact confirmWrites_undatums tables c
  case trackers => rw [handOn_trackers, confirmWrites_trackers neither]
  case first =>
    have drums (d : Drum) : channel d (handOn (confirmWrites s)) = channel d (firstConfirm (swapBanks s)) :=
      channel_congr d (by rw [handOn_drums, confirmWrites_drums, if_pos noTables])
    have row : drumRow (handOn (confirmWrites s)) = drumRow (swapBanks s) := by
      simp only [drumRow, handOn_tables, confirmWrites_tables]
    rw [handOn_protection, (confirmWrites_protection s).1 noTables, row]
    refine ⟨rfl, rfl, fun d => ⟨?_, fun r there => ?_⟩⟩
    · rw [drums]; cases d <;> rfl
    · rw [drums]; cases d <;> simp [channel, firstConfirm, there, startTimer]
  case drums => rw [handOn_drums, confirmWrites_drums, if_neg later]
  case pipeline => rw [handOn_pipeline, (confirmWrites_frame s).2.2.1]
  case key => simp
  case guard => simp

end Sys2Proof.Machine

/-! PROOF. Rows: accepted exactly when their fields stand in their ranges, and read back as loaded (1.2 to 1.5). -/

namespace Sys2Proof.Machine

/-! ### Fields of a run of bytes (R172) -/

theorem fieldBytes_join (b : List Byte) (o m n : Nat) : fieldBytes b o m ++ fieldBytes b (o + m) n = fieldBytes b o (m + n) := by
  rw [fieldBytes, fieldBytes, fieldBytes, ← List.drop_drop, ← List.take_add]

theorem fieldBytes_whole {b : List Byte} {n : Nat} (size : b.length = n) : fieldBytes b 0 n = b := by
  rw [fieldBytes, List.drop_zero, ← size, List.take_length]

theorem fieldBytes_length {b : List Byte} {o n : Nat} (fits : o + n ≤ b.length) : (fieldBytes b o n).length = n := by
  simp [fieldBytes]; omega

/-- A field's bytes are its value, written in its size. -/
theorem beBytes_field {b : List Byte} {o n : Nat} (fits : o + n ≤ b.length) : beBytes n (field b o n) = fieldBytes b o n := by
  have bytes := beBytes_be (fieldBytes b o n)
  rwa [fieldBytes_length fits] at bytes

theorem signedBytes_signed (n v : Nat) (fits : v < 256 ^ n) : signedBytes n (signed n v) = beBytes n v := by
  rw [signedBytes]
  congr 1
  have below : (v : Int) < (256 ^ n : Nat) := by exact_mod_cast fits
  unfold signed; split
  · rw [Int.emod_eq_of_lt (Int.natCast_nonneg v) below, Int.toNat_natCast]
  · rw [Int.sub_emod_right, Int.emod_eq_of_lt (Int.natCast_nonneg v) below, Int.toNat_natCast]

theorem field_lt (b : List Byte) (o n : Nat) : field b o n < 256 ^ n := by
  refine lt_of_lt_of_le (be_lt _) (Nat.pow_le_pow_right (by decide) ?_)
  simp [fieldBytes]

theorem signedBytes_signedField {b : List Byte} {o n : Nat} (fits : o + n ≤ b.length) :
    signedBytes n (signedField b o n) = fieldBytes b o n := by
  rw [signedField, signedBytes_signed _ _ (field_lt b o n), beBytes_field fits]

theorem byte_field {b : List Byte} {o : Nat} (fits : o + 1 ≤ b.length) : [BitVec.ofNat 8 (field b o 1)] = fieldBytes b o 1 :=
  beBytes_field fits

/-! ### Fields of bytes written one after another -/

theorem field_behind {front : List Byte} {o : Nat} (before : front.length ≤ o) (rest : List Byte) (n : Nat) :
    field (front ++ rest) o n = field rest (o - front.length) n := by
  rw [field, field, fieldBytes, fieldBytes, List.drop_append, List.drop_eq_nil_of_le before, List.nil_append]

theorem field_front {front : List Byte} {n : Nat} (size : front.length = n) (rest : List Byte) :
    field (front ++ rest) 0 n = be front := by
  rw [field, fieldBytes, List.drop_zero, List.take_left' size]

theorem field_all {bytes : List Byte} {n : Nat} (size : bytes.length = n) : field bytes 0 n = be bytes := by
  rw [field, fieldBytes_whole size]

/-! ### Judging fields (R3) -/

theorem firstFailing_eq_none_iff (tests : List Bool) : firstFailing tests = none ↔ ∀ test ∈ tests, test = true := by
  induction tests with
  | nil => simp [firstFailing]
  | cons test rest ih => cases test <;> simp [firstFailing, ih]

/-- A row is accepted exactly when every test of its fields passes. -/
theorem judged_eq_ok_iff {tests : List Bool} {row r : Row} :
    judged tests row = .ok r ↔ (∀ test ∈ tests, test = true) ∧ row = r := by
  rw [← firstFailing_eq_none_iff]
  unfold judged; split
  · next p failing => simp [failing]
  · next passed => simp [passed]

theorem depthInRange_iff (d : Int) : depthInRange d = true ↔ IsDepth d := by simp [depthInRange, IsDepth]

theorem ofCode_index (c : Conveyance) : Conveyance.ofCode c.index = some c := by cases c <;> rfl

theorem index_of_ofCode {n : Nat} {c : Conveyance} (named : Conveyance.ofCode n = some c) : n = c.index := by
  unfold Conveyance.ofCode at named
  split at named <;> cases named <;> rfl

/-! ### The rows of the SHAFT table -/

theorem judgeShaftRow_accepts {fits : Bool} {b : List Byte} {row : Row} (size : b.length = 9) (kind : field b 0 1 = 0)
    (ok : judgeShaftRow fits b = .ok row) :
    ∃ r, row = .shaft r ∧ fits = true ∧ FieldsInRange (.shaft r) ∧ rowBytes (.shaft r) = b := by
  obtain ⟨tests, rfl⟩ := judged_eq_ok_iff.mp ok
  simp only [List.forall_mem_cons, within, decide_eq_true_eq] at tests
  obtain ⟨fit, sum, tolerance, margin, -⟩ := tests
  refine ⟨_, rfl, fit, ⟨sum.2, tolerance.1, tolerance.2, margin.2⟩, ?_⟩
  have first : [(0 : Byte)] = fieldBytes b 0 1 := by rw [← byte_field (by omega), kind]; rfl
  simp only [rowBytes]
  rw [first, beBytes_field (by omega), beBytes_field (by omega), beBytes_field (by omega), fieldBytes_join, fieldBytes_join,
    fieldBytes_join, fieldBytes_whole size]

theorem judgeShaftRow_rowBytes {r : ShaftRow} (range : FieldsInRange (.shaft r)) :
    judgeShaftRow true (rowBytes (.shaft r)) = .ok (.shaft r) := by
  obtain ⟨sum, least, most, margin⟩ := range
  have pairSum : field (rowBytes (.shaft r)) 1 4 = r.pairSum := be_beBytes_of_lt (n := 4) (by omega)
  have pairTolerance : field (rowBytes (.shaft r)) 5 2 = r.pairTolerance := be_beBytes_of_lt (n := 2) (by omega)
  have followerMargin : field (rowBytes (.shaft r)) 7 2 = r.followerMargin := be_beBytes_of_lt (n := 2) (by omega)
  refine judged_eq_ok_iff.mpr ?_
  simp only [pairSum, pairTolerance, followerMargin]
  simp [within, *]

theorem judgeCompartmentRow_accepts {fits : Bool} {wanted : Conveyance} {b : List Byte} {row : Row} (size : b.length = 26)
    (kind : field b 0 1 = 1) (ok : judgeCompartmentRow fits wanted b = .ok row) :
    ∃ r, row = .compartment r ∧ fits = true ∧ r.compartment = wanted ∧ FieldsInRange (.compartment r)
      ∧ rowBytes (.compartment r) = b := by
  obtain ⟨tests, rfl⟩ := judged_eq_ok_iff.mp ok
  simp only [List.forall_mem_cons, within, Bool.and_eq_true, depthInRange_iff, decide_eq_true_eq] at tests
  obtain ⟨fit, named, top, ⟨bottom, order⟩, above, below, sheave, compliance, window, distance, slack, -⟩ := tests
  refine ⟨_, rfl, fit, rfl, ⟨top, bottom, order, above.2, below.2, sheave.2, compliance.2, window.1, window.2, distance.1,
    distance.2, slack.2⟩, ?_⟩
  have first : [(1 : Byte), BitVec.ofNat 8 wanted.index] = fieldBytes b 0 2 := by
    rw [← fieldBytes_join b 0 1 1, ← byte_field (by omega), ← byte_field (by omega), kind, index_of_ofCode named]; rfl
  simp only [rowBytes]
  rw [first, signedBytes_signedField (by omega), signedBytes_signedField (by omega)]
  repeat rw [beBytes_field (by omega)]
  repeat rw [fieldBytes_join]
  exact fieldBytes_whole size

/-- The compartment and the two limits in a COMPARTMENT row's bytes. -/
theorem rowBytes_compartment_limits {r : CompartmentRow} (top : IsDepth r.topLimit) (bottom : IsDepth r.bottomLimit) :
    field (rowBytes (.compartment r)) 1 1 = r.compartment.index
      ∧ signedField (rowBytes (.compartment r)) 2 4 = r.topLimit ∧ signedField (rowBytes (.compartment r)) 6 4 = r.bottomLimit := by
  obtain ⟨topLeast, topMost⟩ := top
  obtain ⟨bottomLeast, bottomMost⟩ := bottom
  exact ⟨be_beBytes_of_lt (n := 1) (by cases r.compartment <;> decide), signed_signedBytes (n := 4) (by omega) (by omega),
    signed_signedBytes (n := 4) (by omega) (by omega)⟩

/-- The body, the sheave and the compliance in a COMPARTMENT row's bytes. -/
theorem rowBytes_compartment_rope {r : CompartmentRow} (above : r.bodyAbove ≤ 30000) (below : r.bodyBelow ≤ 30000)
    (sheave : r.sheaveHeight ≤ 200000) (compliance : r.compliance ≤ 1000) :
    field (rowBytes (.compartment r)) 10 2 = r.bodyAbove ∧ field (rowBytes (.compartment r)) 12 2 = r.bodyBelow
      ∧ field (rowBytes (.compartment r)) 14 4 = r.sheaveHeight ∧ field (rowBytes (.compartment r)) 18 2 = r.compliance :=
  ⟨be_beBytes_of_lt (n := 2) (by omega), be_beBytes_of_lt (n := 2) (by omega), be_beBytes_of_lt (n := 4) (by omega),
    be_beBytes_of_lt (n := 2) (by omega)⟩

/-- The three distances of the checks in a COMPARTMENT row's bytes. -/
theorem rowBytes_compartment_checks {r : CompartmentRow} (window : r.syncWindow ≤ 2000) (distance : r.missDistance ≤ 10000)
    (slack : r.slackThreshold ≤ 20000) :
    field (rowBytes (.compartment r)) 20 2 = r.syncWindow ∧ field (rowBytes (.compartment r)) 22 2 = r.missDistance
      ∧ field (rowBytes (.compartment r)) 24 2 = r.slackThreshold :=
  ⟨be_beBytes_of_lt (n := 2) (by omega), be_beBytes_of_lt (n := 2) (by omega), be_beBytes_of_lt (n := 2) (by omega)⟩

theorem judgeCompartmentRow_rowBytes {r : CompartmentRow} (range : FieldsInRange (.compartment r)) :
    judgeCompartmentRow true r.compartment (rowBytes (.compartment r)) = .ok (.compartment r) := by
  obtain ⟨top, bottom, order, above, below, sheave, elastic, leastWindow, mostWindow, leastDistance, mostDistance, slack⟩ := range
  obtain ⟨compartment, topLimit, bottomLimit⟩ := rowBytes_compartment_limits top bottom
  obtain ⟨bodyAbove, bodyBelow, sheaveHeight, compliance⟩ := rowBytes_compartment_rope above below sheave elastic
  obtain ⟨syncWindow, missDistance, slackThreshold⟩ := rowBytes_compartment_checks mostWindow mostDistance slack
  refine judged_eq_ok_iff.mpr ?_
  simp only [compartment, topLimit, bottomLimit, bodyAbove, bodyBelow, sheaveHeight, compliance, syncWindow, missDistance,
    slackThreshold, List.forall_mem_cons, within, Bool.and_eq_true, depthInRange_iff, decide_eq_true_eq, ofCode_index]
  exact ⟨⟨trivial, trivial, top, ⟨bottom, order⟩, ⟨Nat.zero_le _, above⟩, ⟨Nat.zero_le _, below⟩, ⟨Nat.zero_le _, sheave⟩,
    ⟨Nat.zero_le _, elastic⟩, ⟨leastWindow, mostWindow⟩, ⟨leastDistance, mostDistance⟩, ⟨Nat.zero_le _, slack⟩,
    List.forall_mem_nil _⟩, trivial⟩

theorem judgeMarkerRow_accepts {fits : Bool} {b : List Byte} {row : Row} (size : b.length = 9) (kind : field b 0 1 = 2)
    (ok : judgeMarkerRow fits b = .ok row) :
    ∃ r, row = .marker r ∧ fits = true ∧ FieldsInRange (.marker r) ∧ rowBytes (.marker r) = b := by
  obtain ⟨tests, rfl⟩ := judged_eq_ok_iff.mp ok
  simp only [List.forall_mem_cons, within, depthInRange_iff, decide_eq_true_eq, Option.isSome_iff_exists] at tests
  obtain ⟨fit, ⟨c, named⟩, id, depth, flags, -⟩ := tests
  refine ⟨_, rfl, fit, ⟨id.1, id.2, depth⟩, ?_⟩
  have first : [(2 : Byte), BitVec.ofNat 8 c.index] = fieldBytes b 0 2 := by
    rw [← fieldBytes_join b 0 1 1, ← byte_field (by omega), ← byte_field (by omega), kind, index_of_ofCode named]; rfl
  have flag : (decide (field b 8 1 = 1)).toNat = field b 8 1 := by
    obtain none | one : field b 8 1 = 0 ∨ field b 8 1 = 1 := by omega
    · rw [none]; rfl
    · rw [one]; rfl
  simp only [rowBytes, named, Option.getD_some, flag]
  rw [first, beBytes_field (by omega), signedBytes_signedField (by omega), byte_field (by omega)]
  repeat rw [fieldBytes_join]
  exact fieldBytes_whole size

theorem judgeMarkerRow_rowBytes {r : MarkerRow} (range : FieldsInRange (.marker r)) :
    judgeMarkerRow true (rowBytes (.marker r)) = .ok (.marker r) := by
  obtain ⟨least, most, shallow, deep⟩ := range
  set b := rowBytes (.marker r) with bytes
  have compartment : field b 1 1 = r.compartment.index := be_beBytes_of_lt (n := 1) (by cases r.compartment <;> decide)
  have markerId : field b 2 2 = r.markerId := be_beBytes_of_lt (n := 2) (by omega)
  have depth : signedField b 4 4 = r.depth := signed_signedBytes (n := 4) (by omega) (by omega)
  have flags : field b 8 1 = r.unreliable.toNat := be_beBytes_of_lt (n := 1) (by cases r.unreliable <;> decide)
  refine judged_eq_ok_iff.mpr ?_
  simp only [compartment, markerId, depth, flags, ofCode_index]
  cases flag : r.unreliable <;> simp [within, depthInRange, *] <;> rw [← flag]

theorem judgeZoneRow_accepts {fits : Bool} {b : List Byte} {row : Row} (size : b.length = 12) (kind : field b 0 1 = 3)
    (ok : judgeZoneRow fits b = .ok row) :
    ∃ r, row = .zone r ∧ fits = true ∧ FieldsInRange (.zone r) ∧ rowBytes (.zone r) = b := by
  obtain ⟨tests, rfl⟩ := judged_eq_ok_iff.mp ok
  simp only [List.forall_mem_cons, within, Bool.and_eq_true, depthInRange_iff, decide_eq_true_eq, Option.isSome_iff_exists] at tests
  obtain ⟨fit, ⟨c, named⟩, top, ⟨bottom, order⟩, ceiling, -⟩ := tests
  refine ⟨_, rfl, fit, ⟨top, bottom, order, ceiling.1, ceiling.2⟩, ?_⟩
  have first : [(3 : Byte), BitVec.ofNat 8 c.index] = fieldBytes b 0 2 := by
    rw [← fieldBytes_join b 0 1 1, ← byte_field (by omega), ← byte_field (by omega), kind, index_of_ofCode named]; rfl
  simp only [rowBytes, named, Option.getD_some]
  rw [first, signedBytes_signedField (by omega), signedBytes_signedField (by omega), beBytes_field (by omega)]
  repeat rw [fieldBytes_join]
  exact fieldBytes_whole size

theorem judgeZoneRow_rowBytes {r : ZoneRow} (range : FieldsInRange (.zone r)) :
    judgeZoneRow true (rowBytes (.zone r)) = .ok (.zone r) := by
  obtain ⟨⟨topLeast, topMost⟩, ⟨bottomLeast, bottomMost⟩, order, least, most⟩ := range
  set b := rowBytes (.zone r) with bytes
  have compartment : field b 1 1 = r.compartment.index := be_beBytes_of_lt (n := 1) (by cases r.compartment <;> decide)
  have top : signedField b 2 4 = r.top := signed_signedBytes (n := 4) (by omega) (by omega)
  have bottom : signedField b 6 4 = r.bottom := signed_signedBytes (n := 4) (by omega) (by omega)
  have ceiling : field b 10 2 = r.ceiling := be_beBytes_of_lt (n := 2) (by omega)
  refine judged_eq_ok_iff.mpr ?_
  simp only [compartment, top, bottom, ceiling, ofCode_index]
  simp [within, depthInRange, *]

theorem judgeStationRow_accepts {fits : Bool} {b : List Byte} {row : Row} (size : b.length = 9) (kind : field b 0 1 = 4)
    (ok : judgeStationRow fits b = .ok row) :
    ∃ r, row = .station r ∧ fits = true ∧ FieldsInRange (.station r) ∧ rowBytes (.station r) = b := by
  obtain ⟨tests, rfl⟩ := judged_eq_ok_iff.mp ok
  simp only [List.forall_mem_cons, within, depthInRange_iff, decide_eq_true_eq] at tests
  obtain ⟨fit, served, stop, window, allowed, -⟩ := tests
  obtain ⟨c, named, which⟩ : ∃ c, Conveyance.ofCode (field b 1 1) = some c ∧ (c = .skip ∨ c = .cage) := by
    obtain h | h := served
    exacts [⟨_, h, .inl rfl⟩, ⟨_, h, .inr rfl⟩]
  refine ⟨_, rfl, fit, ⟨by simpa [named] using which, stop, window.1, window.2, ?_⟩, ?_⟩
  · rw [BitVec.toNat_ofNat]; omega
  have first : [(4 : Byte), BitVec.ofNat 8 c.index] = fieldBytes b 0 2 := by
    rw [← fieldBytes_join b 0 1 1, ← byte_field (by omega), ← byte_field (by omega), kind, index_of_ofCode named]; rfl
  simp only [rowBytes, named, Option.getD_some]
  rw [first, signedBytes_signedField (by omega), beBytes_field (by omega), byte_field (by omega)]
  repeat rw [fieldBytes_join]
  exact fieldBytes_whole size

theorem judgeStationRow_rowBytes {r : StationRow} (range : FieldsInRange (.station r)) :
    judgeStationRow true (rowBytes (.station r)) = .ok (.station r) := by
  obtain ⟨which, ⟨shallow, deep⟩, least, most, regimes⟩ := range
  set b := rowBytes (.station r) with bytes
  have compartment : field b 1 1 = r.compartment.index := be_beBytes_of_lt (n := 1) (by cases r.compartment <;> decide)
  have stopDepth : signedField b 2 4 = r.stopDepth := signed_signedBytes (n := 4) (by omega) (by omega)
  have window : field b 6 2 = r.window := be_beBytes_of_lt (n := 2) (by omega)
  have allowed : field b 8 1 = r.allowed.toNat := by
    have byte : [r.allowed] = beBytes 1 r.allowed.toNat := by simp [beBytes]
    exact (congrArg be byte).trans (be_beBytes_of_lt (n := 1) (by omega))
  refine judged_eq_ok_iff.mpr ?_
  simp only [compartment, stopDepth, window, allowed, ofCode_index]
  simp [within, depthInRange, *]

/-! ### The rows of the PROFILE and DRUM tables -/

theorem judgeTimingRow_accepts {b : List Byte} {row : Row} (size : b.length = 6) (ok : judgeTimingRow b = .ok row) :
    ∃ r, row = .timing r ∧ FieldsInRange (.timing r) ∧ rowBytes (.timing r) = b := by
  obtain ⟨tests, rfl⟩ := judged_eq_ok_iff.mp ok
  simp only [List.forall_mem_cons, within, decide_eq_true_eq] at tests
  obtain ⟨watch, speed, time, -⟩ := tests
  refine ⟨_, rfl, ⟨watch.1, watch.2, speed.1, speed.2, time.1, time.2⟩, ?_⟩
  simp only [rowBytes]
  repeat rw [beBytes_field (by omega)]
  repeat rw [fieldBytes_join]
  exact fieldBytes_whole size

theorem judgeTimingRow_rowBytes {r : TimingRow} (range : FieldsInRange (.timing r)) :
    judgeTimingRow (rowBytes (.timing r)) = .ok (.timing r) := by
  obtain ⟨leastWatch, mostWatch, leastSpeed, mostSpeed, leastTime, mostTime⟩ := range
  set b := rowBytes (.timing r) with bytes
  have refWatch : field b 0 2 = r.refWatch := be_beBytes_of_lt (n := 2) (by omega)
  have restSpeed : field b 2 2 = r.restSpeed := be_beBytes_of_lt (n := 2) (by omega)
  have restTime : field b 4 2 = r.restTime := be_beBytes_of_lt (n := 2) (by omega)
  refine judged_eq_ok_iff.mpr ?_
  simp only [refWatch, restSpeed, restTime]
  simp [within, *]

theorem judgeRegimeRow_accepts {b : List Byte} {row : Row} (size : b.length = 13) (ok : judgeRegimeRow b = .ok row) :
    ∃ r, row = .regime r ∧ FieldsInRange (.regime r) ∧ rowBytes (.regime r) = b := by
  obtain ⟨tests, rfl⟩ := judged_eq_ok_iff.mp ok
  simp only [List.forall_mem_cons, within, decide_eq_true_eq] at tests
  obtain ⟨vMax, decel, vCreep, dCreep, marginAbs, marginPct, stopDecel, -⟩ := tests
  refine ⟨_, rfl, ⟨vMax.1, vMax.2, decel.1, decel.2, vCreep.1, vCreep.2, dCreep.2, marginAbs.1, marginAbs.2, marginPct.2,
    stopDecel.1, stopDecel.2⟩, ?_⟩
  simp only [rowBytes]
  repeat rw [beBytes_field (by omega)]
  repeat rw [fieldBytes_join]
  exact fieldBytes_whole size

theorem judgeRegimeRow_rowBytes {r : RegimeRow} (range : FieldsInRange (.regime r)) :
    judgeRegimeRow (rowBytes (.regime r)) = .ok (.regime r) := by
  obtain ⟨leastMax, mostMax, leastDecel, mostDecel, leastCreep, mostCreep, distance, leastAbs, mostAbs, pct, leastStop, mostStop⟩ := range
  set b := rowBytes (.regime r) with bytes
  have vMax : field b 0 2 = r.vMax := be_beBytes_of_lt (n := 2) (by omega)
  have decel : field b 2 2 = r.decel := be_beBytes_of_lt (n := 2) (by omega)
  have vCreep : field b 4 2 = r.vCreep := be_beBytes_of_lt (n := 2) (by omega)
  have dCreep : field b 6 2 = r.dCreep := be_beBytes_of_lt (n := 2) (by omega)
  have marginAbs : field b 8 2 = r.marginAbs := be_beBytes_of_lt (n := 2) (by omega)
  have marginPct : field b 10 1 = r.marginPct := be_beBytes_of_lt (n := 1) (by omega)
  have stopDecel : field b 11 2 = r.stopDecel := be_beBytes_of_lt (n := 2) (by omega)
  refine judged_eq_ok_iff.mpr ?_
  simp only [vMax, decel, vCreep, dCreep, marginAbs, marginPct, stopDecel]
  simp [within, *]

theorem judgeDrumRow_accepts {b : List Byte} {row : Row} (size : b.length = 11) (ok : judgeDrumRow b = .ok row) :
    ∃ r, row = .drum r ∧ FieldsInRange (.drum r) ∧ rowBytes (.drum r) = b := by
  obtain ⟨tests, rfl⟩ := judged_eq_ok_iff.mp ok
  simp only [List.forall_mem_cons, within, decide_eq_true_eq] at tests
  obtain ⟨period, watch, disagree, hold, drift, -⟩ := tests
  refine ⟨_, rfl, ⟨period.1, period.2, watch.1, watch.2, disagree.1, disagree.2, hold.1, hold.2, drift.1, drift.2⟩, ?_⟩
  simp only [rowBytes]
  repeat rw [beBytes_field (by omega)]
  repeat rw [fieldBytes_join]
  exact fieldBytes_whole size

theorem judgeDrumRow_rowBytes {r : DrumRow} (range : FieldsInRange (.drum r)) :
    judgeDrumRow (rowBytes (.drum r)) = .ok (.drum r) := by
  obtain ⟨leastPeriod, mostPeriod, leastWatch, mostWatch, leastDisagree, mostDisagree, leastHold, mostHold, leastDrift, mostDrift⟩ := range
  set b := rowBytes (.drum r) with bytes
  have samplePeriod : field b 0 2 = r.samplePeriod := be_beBytes_of_lt (n := 2) (by omega)
  have sampleWatch : field b 2 1 = r.sampleWatch := be_beBytes_of_lt (n := 1) (by omega)
  have disagreeLimit : field b 3 4 = r.disagreeLimit := be_beBytes_of_lt (n := 4) (by omega)
  have holdLimit : field b 7 2 = r.holdLimit := be_beBytes_of_lt (n := 2) (by omega)
  have driftLimit : field b 9 2 = r.driftLimit := be_beBytes_of_lt (n := 2) (by omega)
  refine judged_eq_ok_iff.mpr ?_
  simp only [samplePeriod, sampleWatch, disagreeLimit, holdLimit, driftLimit]
  simp [within, *]

/-! ### The layer rows (R18, R19) -/

theorem signedField4_range (b : List Byte) (o : Nat) : -(2 ^ 31) ≤ signedField b o 4 ∧ signedField b o 4 < 2 ^ 31 := by
  have below := field_lt b o 4
  unfold signedField signed
  split <;> omega

theorem layerBytes_zero : layerBytes { startCount := 0, scale := 0 } = List.replicate 8 0 := by decide

/-- A layer in use reads back as sent, one beyond the count as zeros. -/
theorem layerBytes_layerField {b : List Byte} {i : Nat} (k : Nat) (fits : 9 + 8 * i ≤ b.length) :
    layerBytes (layerField b k i) = if i < k then fieldBytes b (1 + 8 * i) 8 else List.replicate 8 0 := by
  unfold layerField; split
  · have next : 5 + 8 * i = 1 + 8 * i + 4 := by omega
    simp only [layerBytes]
    rw [signedBytes_signedField (by omega), beBytes_field (by omega), next, fieldBytes_join]
  · exact layerBytes_zero

/-- The four layers of a layer row. -/
def LayerRow.all (r : LayerRow) : List Layer := [r.layer0, r.layer1, r.layer2, r.layer3]

theorem judgeLayerRow_accepts {b : List Byte} {row : Row} (size : b.length = 33) (ok : judgeLayerRow b = .ok row) :
    ∃ r, row = .layers r ∧ FieldsInRange (.layers r)
      ∧ rowBytes (.layers r) = b.take (1 + 8 * r.layerCount) ++ List.replicate (8 * (4 - r.layerCount)) 0 := by
  obtain ⟨tests, rfl⟩ := judged_eq_ok_iff.mp ok
  simp only [List.forall_mem_cons, within, Bool.or_eq_true, decide_eq_true_eq] at tests
  obtain ⟨⟨least, most⟩, -, scale0, -, scale1, -, scale2, -, scale3, -⟩ := tests
  set k := field b 0 1 with count
  have layer {i : Nat} (scale : k ≤ i ∨ 1 ≤ field b (5 + 8 * i) 4 ∧ field b (5 + 8 * i) 4 ≤ 1048575) :
      (i < k → -(2 ^ 31) ≤ (layerField b k i).startCount ∧ (layerField b k i).startCount < 2 ^ 31
        ∧ 1 ≤ (layerField b k i).scale ∧ (layerField b k i).scale ≤ 1048575)
      ∧ (k ≤ i → layerField b k i = { startCount := 0, scale := 0 }) := by
    refine ⟨fun used => ?_, fun beyond => if_neg (by omega)⟩
    obtain ⟨lo, hi⟩ := signedField4_range b (1 + 8 * i)
    obtain beyond | ⟨positive, bound⟩ := scale
    · omega
    · simp only [layerField, if_pos used]; exact ⟨lo, hi, positive, bound⟩
  refine ⟨_, rfl, ⟨least, most, fun i l there => ?_⟩, ?_⟩
  case refine_1 =>
    match i with
    | 0 => cases there; exact layer scale0
    | 1 => cases there; exact layer scale1
    | 2 => cases there; exact layer scale2
    | 3 => cases there; exact layer scale3
    | n + 4 => simp at there
  case refine_2 =>
    have written : b.take (1 + 8 * k) = fieldBytes b 0 (1 + 8 * k) := rfl
    simp only [rowBytes]
    rw [written, count, beBytes_field (by omega), ← count]
    repeat rw [layerBytes_layerField _ (by omega)]
    have join0 : fieldBytes b 0 1 ++ fieldBytes b 1 8 = fieldBytes b 0 9 := fieldBytes_join b 0 1 8
    have join1 : fieldBytes b 0 9 ++ fieldBytes b 9 8 = fieldBytes b 0 17 := fieldBytes_join b 0 9 8
    have join2 : fieldBytes b 0 17 ++ fieldBytes b 17 8 = fieldBytes b 0 25 := fieldBytes_join b 0 17 8
    have join3 : fieldBytes b 0 25 ++ fieldBytes b 25 8 = fieldBytes b 0 33 := fieldBytes_join b 0 25 8
    obtain one | two | three | four : k = 1 ∨ k = 2 ∨ k = 3 ∨ k = 4 := by omega
    · norm_num [one, join0, List.append_assoc]
    · norm_num [two, join0, join1, List.append_assoc]
    · norm_num [three, join0, join1, join2, List.append_assoc]
    · norm_num [four, join0, join1, join2, join3, List.append_assoc]

theorem judgeLayerRow_rowBytes {r : LayerRow} (range : FieldsInRange (.layers r)) :
    judgeLayerRow (rowBytes (.layers r)) = .ok (.layers r) := by
  obtain ⟨least, most, layers⟩ := range
  set b := rowBytes (.layers r) with bytes
  have count : field b 0 1 = r.layerCount := be_beBytes_of_lt (n := 1) (by omega)
  have layer {i : Nat} {l : Layer} (there : r.all[i]? = some l) (start : field b (1 + 8 * i) 4 = be (signedBytes 4 l.startCount))
      (scale : field b (5 + 8 * i) 4 = be (beBytes 4 l.scale)) :
      layerField b r.layerCount i = l ∧ (r.layerCount ≤ i ∨ 1 ≤ field b (5 + 8 * i) 4 ∧ field b (5 + 8 * i) 4 ≤ 1048575) := by
    obtain ⟨used, beyond⟩ := layers i l there
    by_cases inUse : i < r.layerCount
    · obtain ⟨lo, hi, positive, bound⟩ := used inUse
      rw [be_beBytes_of_lt (n := 4) (by omega)] at scale
      have startCount : signedField b (1 + 8 * i) 4 = l.startCount := by
        rw [signedField, start]; exact signed_signedBytes (n := 4) (by omega) (by omega)
      simp only [layerField, if_pos inUse, startCount, scale]
      exact ⟨trivial, .inr ⟨positive, bound⟩⟩
    · rw [layerField, if_neg inUse, beyond (by omega)]
      exact ⟨rfl, .inl (by omega)⟩
  obtain ⟨layer0, scale0⟩ := layer (i := 0) rfl rfl rfl
  obtain ⟨layer1, scale1⟩ := layer (i := 1) rfl rfl rfl
  obtain ⟨layer2, scale2⟩ := layer (i := 2) rfl rfl rfl
  obtain ⟨layer3, scale3⟩ := layer (i := 3) rfl rfl rfl
  refine judged_eq_ok_iff.mpr ⟨?_, ?_⟩
  · simp only [List.forall_mem_cons, within, Bool.or_eq_true, decide_eq_true_eq, count]
    exact ⟨⟨least, most⟩, trivial, scale0, trivial, scale1, trivial, scale2, trivial, scale3, by simp⟩
  · rw [count, layer0, layer1, layer2, layer3]

/-! ### Rows at their numbers (R3, R4, R174) -/

theorem sized_eq_ok_iff {length : Nat} {b : List Byte} {judge : List Byte → Except Nat Row} {row : Row} :
    sized length b judge = .ok row ↔ b.length = length ∧ judge b = .ok row := by
  unfold sized; split <;> simp_all

/-- What an accepted row's bytes are: the content, or a layer row's as far as its layers are in use (R19). -/
def ReadsBack (row : Row) (content : List Byte) : Prop :=
  match row with
  | .layers r => content.length = 33
      ∧ rowBytes row = content.take (1 + 8 * r.layerCount) ++ List.replicate (8 * (4 - r.layerCount)) 0
  | _ => rowBytes row = content

theorem judgeEntryRow_accepts {held : List Row} {content : List Byte} {row : Row} (n : Nat)
    (ok : judgeEntryRow held content = .ok row) :
    FieldsInRange row ∧ StandsAt .shaft (n + 4) held row ∧ ReadsBack row content := by
  cases content with
  | nil => cases ok
  | cons kind rest =>
    have first : field (kind :: rest) 0 1 = kind.toNat := field_first kind rest
    simp only [judgeEntryRow] at ok
    split at ok
    case h_1 is =>
      obtain ⟨size, ok⟩ := sized_eq_ok_iff.mp ok
      obtain ⟨r, -, fits, -⟩ := judgeShaftRow_accepts size (first.trans is) ok
      cases fits
    case h_2 is =>
      obtain ⟨size, ok⟩ := sized_eq_ok_iff.mp ok
      obtain ⟨r, -, fits, -⟩ := judgeCompartmentRow_accepts size (first.trans is) ok
      cases fits
    case h_3 is =>
      obtain ⟨size, ok⟩ := sized_eq_ok_iff.mp ok
      obtain ⟨r, rfl, fits, range, bytes⟩ := judgeMarkerRow_accepts size (first.trans is) ok
      have below := of_decide_eq_true fits
      exact ⟨range, below, bytes⟩
    case h_4 is =>
      obtain ⟨size, ok⟩ := sized_eq_ok_iff.mp ok
      obtain ⟨r, rfl, fits, range, bytes⟩ := judgeZoneRow_accepts size (first.trans is) ok
      have below := of_decide_eq_true fits
      exact ⟨range, below, bytes⟩
    case h_5 is =>
      obtain ⟨size, ok⟩ := sized_eq_ok_iff.mp ok
      obtain ⟨r, rfl, fits, range, bytes⟩ := judgeStationRow_accepts size (first.trans is) ok
      have below := of_decide_eq_true fits
      exact ⟨range, below, bytes⟩
    case h_6 => cases ok

/-- An accepted row has its fields in their ranges, stands at its number and reads back. -/
theorem judgeRow_accepts {table : TableId} {n : Nat} {held : List Row} {content : List Byte} {row : Row}
    (ok : judgeRow table n held content = .ok row) :
    FieldsInRange row ∧ StandsAt table n held row ∧ ReadsBack row content := by
  have compartment {wanted : Conveyance} (ok : sized 26 content
        (judgeCompartmentRow (decide (field content 0 1 = 1)) wanted) = .ok row) :
      ∃ r, row = .compartment r ∧ r.compartment = wanted ∧ FieldsInRange (.compartment r) ∧ rowBytes (.compartment r) = content := by
    obtain ⟨size, ok⟩ := sized_eq_ok_iff.mp ok
    have fits : field content 0 1 = 1 := by
      obtain ⟨tests, -⟩ := judged_eq_ok_iff.mp ok
      simpa using tests _ (List.mem_cons_self ..)
    obtain ⟨r, is, -, rest⟩ := judgeCompartmentRow_accepts size fits ok
    exact ⟨r, is, rest⟩
  cases table with
  | shaft =>
    match n with
    | 0 =>
      obtain ⟨size, ok⟩ := sized_eq_ok_iff.mp ok
      have fits : field content 0 1 = 0 := by
        obtain ⟨tests, -⟩ := judged_eq_ok_iff.mp ok
        simpa using tests _ (List.mem_cons_self ..)
      obtain ⟨r, rfl, -, range, bytes⟩ := judgeShaftRow_accepts size fits ok
      exact ⟨range, trivial, bytes⟩
    | 1 | 2 | 3 =>
      obtain ⟨r, rfl, named, range, bytes⟩ := compartment ok
      exact ⟨range, named, bytes⟩
    | n + 4 => exact judgeEntryRow_accepts n ok
  | profile =>
    match n with
    | 0 =>
      obtain ⟨size, ok⟩ := sized_eq_ok_iff.mp ok
      obtain ⟨r, rfl, range, bytes⟩ := judgeTimingRow_accepts size ok
      exact ⟨range, trivial, bytes⟩
    | n + 1 =>
      obtain ⟨size, ok⟩ := sized_eq_ok_iff.mp ok
      obtain ⟨r, rfl, range, bytes⟩ := judgeRegimeRow_accepts size ok
      exact ⟨range, trivial, bytes⟩
  | drum =>
    match n with
    | 0 =>
      obtain ⟨size, ok⟩ := sized_eq_ok_iff.mp ok
      obtain ⟨r, rfl, range, bytes⟩ := judgeDrumRow_accepts size ok
      exact ⟨range, trivial, bytes⟩
    | n + 1 =>
      obtain ⟨size, ok⟩ := sized_eq_ok_iff.mp ok
      obtain ⟨r, rfl, range, bytes⟩ := judgeLayerRow_accepts size ok
      exact ⟨range, trivial, size, bytes⟩

/-- The length of a kind's layout (R172). -/
def rowLength : Row → Nat
  | .shaft _ | .marker _ | .station _ => 9
  | .compartment _ => 26
  | .zone _ => 12
  | .timing _ => 6
  | .regime _ => 13
  | .drum _ => 11
  | .layers _ => 33

theorem rowBytes_length (row : Row) : (rowBytes row).length = rowLength row := by
  cases row <;> simp [rowBytes, layerBytes, rowLength]

/-- A row of its layout's length is accepted as its kind's judgement accepts it. -/
theorem sized_rowBytes {row : Row} {judge : List Byte → Except Nat Row} (ok : judge (rowBytes row) = .ok row) :
    sized (rowLength row) (rowBytes row) judge = .ok row :=
  sized_eq_ok_iff.mpr ⟨rowBytes_length row, ok⟩

/-- An entry row is accepted from its own bytes while its kind has room. -/
theorem judgeEntryRow_rowBytes {n : Nat} {held : List Row} {row : Row} (range : FieldsInRange row)
    (stands : StandsAt .shaft (n + 4) held row) : judgeEntryRow held (rowBytes row) = .ok row := by
  cases row with
  | marker r =>
    have room := decide_eq_true (p := (markerRows held).length < 96) stands
    exact sized_rowBytes (row := .marker r) (room ▸ judgeMarkerRow_rowBytes range)
  | zone r =>
    have room := decide_eq_true (p := (zoneRows held).length < 64) stands
    exact sized_rowBytes (row := .zone r) (room ▸ judgeZoneRow_rowBytes range)
  | station r =>
    have room := decide_eq_true (p := (stationRows held).length < 32) stands
    exact sized_rowBytes (row := .station r) (room ▸ judgeStationRow_rowBytes range)
  | _ => exact stands.elim

/-- A COMPARTMENT row is accepted where its compartment stands. -/
theorem sized_compartment {c : Conveyance} {r : CompartmentRow} (range : FieldsInRange (.compartment r))
    (stands : r.compartment = c) : sized 26 (rowBytes (.compartment r))
      (judgeCompartmentRow (decide (field (rowBytes (.compartment r)) 0 1 = 1)) c) = .ok (.compartment r) := by
  have kind : decide (field (rowBytes (.compartment r)) 0 1 = 1) = true := by
    rw [decide_eq_true_eq, rowBytes]; exact field_first 1 _
  rw [kind, ← stands]
  exact sized_rowBytes (row := .compartment r) (judgeCompartmentRow_rowBytes range)

/-- A row in range at its number is accepted from its own bytes. -/
theorem judgeRow_rowBytes {table : TableId} {n : Nat} {held : List Row} {row : Row} (range : FieldsInRange row)
    (stands : StandsAt table n held row) : judgeRow table n held (rowBytes row) = .ok row := by
  cases table with
  | shaft =>
    match n with
    | 0 =>
      cases row with
      | shaft r => exact sized_rowBytes (row := .shaft r) (judgeShaftRow_rowBytes range)
      | _ => exact stands.elim
    | 1 | 2 | 3 =>
      cases row with
      | compartment r => exact sized_compartment range stands
      | _ => exact stands.elim
    | n + 4 => exact judgeEntryRow_rowBytes range stands
  | profile =>
    match n with
    | 0 =>
      cases row with
      | timing r => exact sized_rowBytes (row := .timing r) (judgeTimingRow_rowBytes range)
      | _ => exact stands.elim
    | n + 1 =>
      cases row with
      | regime r => exact sized_rowBytes (row := .regime r) (judgeRegimeRow_rowBytes range)
      | _ => exact stands.elim
  | drum =>
    match n with
    | 0 =>
      cases row with
      | drum r => exact sized_rowBytes (row := .drum r) (judgeDrumRow_rowBytes range)
      | _ => exact stands.elim
    | n + 1 =>
      cases row with
      | layers r => exact sized_rowBytes (row := .layers r) (judgeLayerRow_rowBytes range)
      | _ => exact stands.elim

/-- Settles O41: what an accepted row is, kind by kind, and its acceptance from its own bytes. -/
theorem rowsReadBackAsLoaded : Obligations.RowsReadBackAsLoaded := by
  refine ⟨fun table n held content row ok => ?_, fun table n held row => judgeRow_rowBytes⟩
  obtain ⟨range, stands, reads⟩ := judgeRow_accepts ok
  refine ⟨range, stands, judgeRow_rowBytes range stands, fun plain => ?plain, fun r layers => ?layers⟩
  case plain =>
    cases row with
    | layers r => exact absurd rfl (plain r)
    | _ => exact reads
  case layers =>
    subst layers
    obtain ⟨size, bytes⟩ := reads
    have used : r.layerCount ≤ 4 := range.2.1
    have front : (content.take (1 + 8 * r.layerCount)).length = 1 + 8 * r.layerCount := by simp; omega
    rw [bytes, List.take_left' front, List.drop_left' front]
    exact ⟨rfl, size, fun b mem => List.eq_of_mem_replicate mem⟩

end Sys2Proof.Machine

/-! PROOF. Validation names the first failing check (2.4). -/

namespace Sys2Proof.Machine

/-! ### The last entry of a list that a function takes, and the first of a numbered list -/

/-- The last value taken stands at a place behind which none is taken. -/
theorem getLast?_filterMap_eq_some {α β : Type} (f : α → Option β) (l : List α) (x : β)
    (last : (l.filterMap f).getLast? = some x) :
    ∃ (m : Nat) (a : α), l[m]? = some a ∧ f a = some x ∧ ∀ (j : Nat) (b : α), m < j → l[j]? = some b → f b = none := by
  induction l using List.reverseRecOn with
  | nil => simp at last
  | append_singleton l a ih =>
    rw [List.filterMap_append] at last
    cases taken : f a with
    | some y =>
      have same : y = x := by simpa [taken] using last
      subst same
      refine ⟨l.length, a, by simp, taken, fun j b behind there => ?_⟩
      rw [List.getElem?_eq_none (by simp; omega)] at there
      cases there
    | none =>
      have earlier : (l.filterMap f).getLast? = some x := by simpa [taken] using last
      obtain ⟨m, a', at_m, is, none⟩ := ih earlier
      have inside : m < l.length := (List.getElem?_eq_some_iff.mp at_m).1
      refine ⟨m, a', by rw [List.getElem?_append_left inside, at_m], is, fun j b behind there => ?_⟩
      by_cases front : j < l.length
      · exact none j b behind (by rwa [List.getElem?_append_left front] at there)
      · rw [List.getElem?_append_right (by omega)] at there
        have : b = a := by
          cases zero : j - l.length with
          | zero => simpa [zero] using there.symm
          | succ k => simp [zero] at there
        rw [this, taken]

/-- A value taken at a place behind which none is taken is the last one. -/
theorem getLast?_filterMap_of_last {α β : Type} {f : α → Option β} {l : List α} {x : β} {m : Nat} {a : α}
    (at_m : l[m]? = some a) (taken : f a = some x) (none : ∀ (j : Nat) (b : α), m < j → l[j]? = some b → f b = none) :
    (l.filterMap f).getLast? = some x := by
  obtain ⟨inside, is⟩ := List.getElem?_eq_some_iff.mp at_m
  have cut : l = l.take m ++ a :: l.drop (m + 1) := by rw [← is, List.getElem_cons_drop, List.take_append_drop]
  have behind : (l.drop (m + 1)).filterMap f = [] := by
    rw [List.filterMap_eq_nil_iff]
    intro b mem
    obtain ⟨k, there⟩ := List.mem_iff_getElem?.mp mem
    rw [List.getElem?_drop] at there
    exact none _ b (by omega) there
  rw [cut, List.filterMap_append, List.filterMap_cons_some taken, behind]
  simp

theorem getLast?_filterMap_eq_none_iff {α β : Type} {f : α → Option β} {l : List α} :
    (l.filterMap f).getLast? = none ↔ ∀ (j : Nat) (a : α), l[j]? = some a → f a = none := by
  rw [List.getLast?_eq_none_iff, List.filterMap_eq_nil_iff]
  exact ⟨fun h j a there => h a (List.mem_of_getElem? there), fun h a mem =>
    let ⟨j, there⟩ := List.mem_iff_getElem?.mp mem
    h j a there⟩

theorem findSome?_zipIdx_eq_none_iff {α β : Type} {f : α × Nat → Option β} {l : List α} (k : Nat) :
    (l.zipIdx k).findSome? f = none ↔ ∀ (n : Nat) (a : α), l[n]? = some a → f (a, n + k) = none := by
  rw [List.findSome?_eq_none_iff]
  constructor
  · intro h n a there
    refine h (a, n + k) ?_
    rw [List.mem_zipIdx_iff_le_and_getElem?_sub]
    simpa using there
  · rintro h ⟨a, i⟩ mem
    rw [List.mem_zipIdx_iff_le_and_getElem?_sub] at mem
    obtain ⟨le, there⟩ := mem
    have := h (i - k) a there
    rwa [Nat.sub_add_cancel le] at this

/-- The first value found is at the lowest number that gives one. -/
theorem findSome?_zipIdx_eq_some {α β : Type} {f : α × Nat → Option β} {l : List α} {x : β} (k : Nat)
    (found : (l.zipIdx k).findSome? f = some x) :
    ∃ (n : Nat) (a : α), l[n]? = some a ∧ f (a, n + k) = some x
      ∧ ∀ (j : Nat) (b : α), j < n → l[j]? = some b → f (b, j + k) = none := by
  induction l generalizing k with
  | nil => simp at found
  | cons a rest ih =>
    rw [List.zipIdx_cons, List.findSome?_cons] at found
    cases first : f (a, k) with
    | some y =>
      rw [first] at found
      cases found
      exact ⟨0, a, rfl, by simpa using first, fun j b below => absurd below (Nat.not_lt_zero j)⟩
    | none =>
      rw [first] at found
      obtain ⟨n, a', there, is, before⟩ := ih (k + 1) found
      refine ⟨n + 1, a', by simpa using there, by rw [← is]; congr 2; omega, fun j b below at_j => ?_⟩
      cases j with
      | zero => cases at_j; simpa using first
      | succ j => rw [← before j b (by omega) (by simpa using at_j)]; congr 2; omega

theorem getElem?_take_eq_some {α : Type} {l : List α} {n j : Nat} {a : α} : (l.take n)[j]? = some a ↔ j < n ∧ l[j]? = some a := by
  rw [List.getElem?_take]
  split <;> simp_all

/-! ### ENTRY-ORDER (R25) -/

theorem entryAt_iff {rows : List Row} {n kind : Nat} {c : Conveyance} {depth : Int} :
    EntryAt rows n kind c depth ↔ ∃ row, rows[n]? = some row ∧ entryKey row = some (kind, c.index, depth) := by
  have inj {c c' : Conveyance} : c.index = c'.index ↔ c = c' := by cases c <;> cases c' <;> decide
  constructor
  · rintro (⟨rfl, r, there, rfl, rfl⟩ | ⟨rfl, r, there, rfl, rfl⟩ | ⟨rfl, r, there, rfl, rfl⟩) <;> exact ⟨_, there, rfl⟩
  · rintro ⟨row, there, key⟩
    cases row with
    | marker r => simp only [entryKey, Option.some.injEq, Prod.mk.injEq, inj] at key; exact .inl ⟨key.1.symm, r, there, key.2⟩
    | zone r => simp only [entryKey, Option.some.injEq, Prod.mk.injEq, inj] at key; exact .inr (.inl ⟨key.1.symm, r, there, key.2⟩)
    | station r => simp only [entryKey, Option.some.injEq, Prod.mk.injEq, inj] at key; exact .inr (.inr ⟨key.1.symm, r, there, key.2⟩)
    | _ => cases key

/-- A row's key if it is of a kind. -/
def keyOfKind (kind : Nat) (row : Row) : Option (Nat × Nat × Int) := (entryKey row).filter fun k => k.1 = kind

theorem keyOfKind_eq_some_iff {kind : Nat} {row : Row} {k : Nat × Nat × Int} :
    keyOfKind kind row = some k ↔ entryKey row = some k ∧ k.1 = kind := by
  simp [keyOfKind, Option.filter_eq_some_iff]

theorem lastOfKind_eq (kind : Nat) (rows : List Row) : lastOfKind kind rows = (rows.filterMap (keyOfKind kind)).getLast? := by
  have selected : rows.filterMap (keyOfKind kind) = (rows.filterMap entryKey).filter fun k => k.1 = kind := by
    rw [List.filter_filterMap]; rfl
  rw [lastOfKind, selected, ← List.head?_filter, List.filter_reverse, List.head?_reverse]

theorem conveyance_of_key {row : Row} {kind i : Nat} {depth : Int} (key : entryKey row = some (kind, i, depth)) :
    ∃ c : Conveyance, i = c.index := by
  cases row <;> cases key <;> exact ⟨_, rfl⟩

/-- No row of a kind stands between two places. -/
theorem none_between_iff {rows : List Row} {kind m n : Nat} :
    (∀ (j : Nat) (b : Row), m < j → (rows.take n)[j]? = some b → keyOfKind kind b = none)
      ↔ ∀ j c depth, m < j → j < n → ¬EntryAt rows j kind c depth := by
  constructor
  · intro h j c depth behind before entry
    obtain ⟨row, there, key⟩ := entryAt_iff.mp entry
    have := h j row behind (getElem?_take_eq_some.mpr ⟨before, there⟩)
    rw [keyOfKind_eq_some_iff.mpr ⟨key, rfl⟩] at this
    cases this
  · intro h j b behind there
    obtain ⟨before, there⟩ := getElem?_take_eq_some.mp there
    by_contra other
    obtain ⟨⟨kind', i, depth⟩, is⟩ := Option.ne_none_iff_exists'.mp other
    obtain ⟨key, rfl⟩ := keyOfKind_eq_some_iff.mp is
    obtain ⟨c, rfl⟩ := conveyance_of_key key
    exact h j c depth behind before (entryAt_iff.mpr ⟨b, there, key⟩)

theorem names_entryOrder_iff {rows : List Row} {n : Nat} {row : Row} (there : rows[n]? = some row) :
    Names .entryOrder .shaft rows n ↔ failsEntryOrder (rows.take n) row = true := by
  have index {c c' : Conveyance} : c' = c ↔ c'.index = c.index := by cases c <;> cases c' <;> decide
  unfold failsEntryOrder
  constructor
  · rintro ⟨-, m, kind, c, depth, c', depth', before, entry, previous, between, order⟩
    obtain ⟨row', there', key⟩ := entryAt_iff.mp entry
    cases there.symm.trans there'
    obtain ⟨rowM, thereM, keyM⟩ := entryAt_iff.mp previous
    have last : lastOfKind kind (rows.take n) = some (kind, c'.index, depth') := by
      rw [lastOfKind_eq]
      exact getLast?_filterMap_of_last (getElem?_take_eq_some.mpr ⟨before, thereM⟩) (keyOfKind_eq_some_iff.mpr ⟨keyM, rfl⟩)
        (none_between_iff.mpr between)
    simp only [key, last]
    rw [index] at order
    simpa [imp_iff_not_or] using order
  · intro fails
    split at fails
    · cases fails
    · next kind i depth key =>
      split at fails
      · cases fails
      · next kind' i' depth' last =>
        rw [lastOfKind_eq] at last
        obtain ⟨m, rowM, thereM, is, between⟩ := getLast?_filterMap_eq_some _ _ _ last
        obtain ⟨before, thereM⟩ := getElem?_take_eq_some.mp thereM
        obtain ⟨keyM, rfl⟩ := keyOfKind_eq_some_iff.mp is
        obtain ⟨c, rfl⟩ := conveyance_of_key key
        obtain ⟨c', rfl⟩ := conveyance_of_key keyM
        refine ⟨rfl, m, kind', c, depth, c', depth', before, entryAt_iff.mpr ⟨row, there, key⟩,
          entryAt_iff.mpr ⟨rowM, thereM, keyM⟩, none_between_iff.mp between, ?_⟩
        rw [index]
        simpa [imp_iff_not_or] using fails

/-! ### MARKER-ID (R25) -/

theorem names_markerId_iff {rows : List Row} {n : Nat} {row : Row} (there : rows[n]? = some row) :
    Names .markerId .shaft rows n ↔ failsMarkerId (rows.take n) row = true := by
  have mem {r : MarkerRow} {rows : List Row} : r ∈ markerRows rows ↔ Row.marker r ∈ rows := by
    rw [markerRows, List.mem_filterMap]
    constructor
    · rintro ⟨row, mem, is⟩
      cases row <;> cases is
      exact mem
    · exact fun mem => ⟨_, mem, rfl⟩
  constructor
  · rintro ⟨-, m, r, r', before, at_n, at_m, same⟩
    cases there.symm.trans at_n
    simp only [failsMarkerId, List.any_eq_true, decide_eq_true_eq]
    exact ⟨r', mem.mpr (List.mem_of_getElem? (getElem?_take_eq_some.mpr ⟨before, at_m⟩)), same⟩
  · intro fails
    cases row with
    | marker r =>
      simp only [failsMarkerId, List.any_eq_true, decide_eq_true_eq] at fails
      obtain ⟨r', earlier, same⟩ := fails
      obtain ⟨m, at_m⟩ := List.mem_iff_getElem?.mp (mem.mp earlier)
      obtain ⟨before, at_m⟩ := getElem?_take_eq_some.mp at_m
      exact ⟨rfl, m, r, r', before, there, at_m, same⟩
    | _ => cases fails

/-! ### ZONE-COVER (R25) -/

/-- A row as a ZONE row of a compartment. -/
def zoneIn (c : Conveyance) : Row → Option ZoneRow
  | .zone z => if z.compartment = c then some z else none
  | _ => none

theorem zoneIn_eq_some_iff {c : Conveyance} {row : Row} {z : ZoneRow} : zoneIn c row = some z ↔ row = .zone z ∧ z.compartment = c := by
  cases row with
  | zone z' =>
    simp only [zoneIn, Option.ite_none_right_eq_some, Option.some.injEq, Row.zone.injEq]
    constructor
    · rintro ⟨h, rfl⟩; exact ⟨rfl, h⟩
    · rintro ⟨rfl, h⟩; exact ⟨h, rfl⟩
  | _ => simp [zoneIn]

theorem zonesOf_eq (c : Conveyance) (rows : List Row) : zonesOf c rows = rows.filterMap (zoneIn c) := by
  rw [zonesOf, zoneRows, List.filter_filterMap]
  congr 1
  funext row
  cases row with
  | zone z => by_cases h : z.compartment = c <;> simp [zoneIn, Option.filter, h]
  | _ => rfl

theorem zoneBefore_of_last {c : Conveyance} {rows : List Row} {n : Nat} {z : ZoneRow}
    (last : (zonesOf c (rows.take n)).getLast? = some z) : ∃ m, ZoneBefore rows m n c z := by
  rw [zonesOf_eq] at last
  obtain ⟨m, row, at_m, is, between⟩ := getLast?_filterMap_eq_some _ _ _ last
  obtain ⟨before, at_m⟩ := getElem?_take_eq_some.mp at_m
  obtain ⟨rfl, here⟩ := zoneIn_eq_some_iff.mp is
  refine ⟨m, before, ⟨at_m, here⟩, fun j z' behind inside zone => ?_⟩
  have := between j (.zone z') behind (getElem?_take_eq_some.mpr ⟨inside, zone.1⟩)
  rw [zoneIn_eq_some_iff.mpr ⟨rfl, zone.2⟩] at this
  cases this

theorem last_of_zoneBefore {c : Conveyance} {rows : List Row} {m n : Nat} {z : ZoneRow} (h : ZoneBefore rows m n c z) :
    (zonesOf c (rows.take n)).getLast? = some z := by
  obtain ⟨before, ⟨at_m, here⟩, between⟩ := h
  rw [zonesOf_eq]
  refine getLast?_filterMap_of_last (getElem?_take_eq_some.mpr ⟨before, at_m⟩) (zoneIn_eq_some_iff.mpr ⟨rfl, here⟩)
    fun j b behind there => ?_
  obtain ⟨inside, there⟩ := getElem?_take_eq_some.mp there
  by_contra other
  obtain ⟨z', is⟩ := Option.ne_none_iff_exists'.mp other
  obtain ⟨rfl, here'⟩ := zoneIn_eq_some_iff.mp is
  exact between j z' behind inside ⟨there, here'⟩

theorem noZone_iff {c : Conveyance} {rows : List Row} {n : Nat} :
    (zonesOf c (rows.take n)).getLast? = none ↔ ∀ j z, j < n → ¬ZoneAt rows j c z := by
  rw [zonesOf_eq, getLast?_filterMap_eq_none_iff]
  constructor
  · intro h j z inside zone
    have := h j (.zone z) (getElem?_take_eq_some.mpr ⟨inside, zone.1⟩)
    rw [zoneIn_eq_some_iff.mpr ⟨rfl, zone.2⟩] at this
    cases this
  · intro h j b there
    obtain ⟨inside, there⟩ := getElem?_take_eq_some.mp there
    by_contra other
    obtain ⟨z, is⟩ := Option.ne_none_iff_exists'.mp other
    obtain ⟨rfl, here⟩ := zoneIn_eq_some_iff.mp is
    exact h j z inside ⟨there, here⟩

/-- Rows up to the table's own length are all of them. -/
theorem zonesOf_whole (c : Conveyance) (rows : List Row) : zonesOf c rows = zonesOf c (rows.take rows.length) := by
  rw [List.take_length]

theorem noZoneAtAll_iff {c : Conveyance} {rows : List Row} :
    (zonesOf c rows).getLast? = none ↔ ∀ j z, ¬ZoneAt rows j c z := by
  rw [zonesOf_whole, noZone_iff]
  refine ⟨fun h j z zone => h j z (List.getElem?_eq_some_iff.mp zone.1).1 zone, fun h j z _ => h j z⟩

theorem names_zoneCover_iff {rows : List Row} {n : Nat} {row : Row} (there : rows[n]? = some row) :
    Names .zoneCover .shaft rows n ↔ failsZoneCover rows (rows.take n) row = true := by
  constructor
  · rintro ⟨-, ⟨r, at_n, wrong⟩ | ⟨z, at_n, wrong⟩⟩
    · cases there.symm.trans at_n
      obtain none | ⟨m, z, last, bottom⟩ := wrong
      · simp [failsZoneCover, noZoneAtAll_iff.mpr none]
      · have := last_of_zoneBefore last
        rw [← zonesOf_whole] at this
        simpa [failsZoneCover, this] using bottom
    · cases there.symm.trans at_n
      obtain ⟨m, z', last, top⟩ | ⟨none, r, compartment, top⟩ := wrong
      · simpa [failsZoneCover, last_of_zoneBefore last] using top
      · simpa [failsZoneCover, noZone_iff.mpr none, compartment] using top
  · intro fails
    cases row with
    | compartment r =>
      refine ⟨rfl, .inl ⟨r, there, ?_⟩⟩
      simp only [failsZoneCover] at fails
      split at fails
      · next none => exact .inl (noZoneAtAll_iff.mp none)
      · next z last =>
        rw [zonesOf_whole] at last
        obtain ⟨m, before⟩ := zoneBefore_of_last last
        exact .inr ⟨m, z, before, by simpa using fails⟩
    | zone z =>
      refine ⟨rfl, .inr ⟨z, there, ?_⟩⟩
      simp only [failsZoneCover] at fails
      split at fails
      · next z' last =>
        obtain ⟨m, before⟩ := zoneBefore_of_last last
        exact .inl ⟨m, z', before, by simpa using fails⟩
      · next none =>
        split at fails
        · next r compartment => exact .inr ⟨noZone_iff.mp none, r, compartment, by simpa using fails⟩
        · cases fails
    | _ => cases fails

/-! ### WITHIN-LIMITS and STATION-REGIME (R25) -/

theorem names_withinLimits_iff {rows : List Row} {n : Nat} {row : Row} (there : rows[n]? = some row) :
    Names .withinLimits .shaft rows n ↔ failsWithinLimits rows row = true := by
  constructor
  · rintro ⟨-, kind, c, depth, r, notZone, entry, compartment, outside⟩
    obtain ⟨rfl, m, at_n, rfl, rfl⟩ | ⟨rfl, -⟩ | ⟨rfl, st, at_n, rfl, rfl⟩ := entry
    · cases there.symm.trans at_n; simp [failsWithinLimits, compartment, outside]
    · exact absurd rfl notZone
    · cases there.symm.trans at_n; simp [failsWithinLimits, compartment, outside]
  · intro fails
    cases row with
    | marker m =>
      simp only [failsWithinLimits] at fails
      split at fails
      · next r compartment =>
        exact ⟨rfl, 2, m.compartment, m.depth, r, by decide, .inl ⟨rfl, m, there, rfl, rfl⟩, compartment, of_decide_eq_true fails⟩
      · cases fails
    | station st =>
      simp only [failsWithinLimits] at fails
      split at fails
      · next r compartment =>
        exact ⟨rfl, 4, st.compartment, st.stopDepth, r, by decide, .inr (.inr ⟨rfl, st, there, rfl, rfl⟩), compartment,
          of_decide_eq_true fails⟩
      · cases fails
    | _ => cases fails

theorem names_stationRegime_iff {rows : List Row} {n : Nat} {row : Row} (there : rows[n]? = some row) :
    Names .stationRegime .shaft rows n ↔ failsStationRegime row = true := by
  have tests (st : StationRow) : failsStationRegime (.station st) = true
      ↔ st.allowed.getLsbD 2 = true ∧ st.compartment ≠ .cage ∨ st.allowed.getLsbD 0 = true ∧ st.compartment ≠ .skip := by
    simp [failsStationRegime, StationRow.allows, Regime.index]
  constructor
  · rintro ⟨-, st, at_n, wrong⟩
    cases there.symm.trans at_n
    exact (tests st).mpr wrong
  · intro fails
    cases row with
    | station st => exact ⟨rfl, st, there, (tests st).mp fails⟩
    | _ => cases fails

/-! ### The layer checks (R26) -/

/-- Start counts fail to rise exactly where one is not below the next. -/
theorem startsRise_eq_false_iff (layers : List Layer) : startsRise layers = false
    ↔ ∃ (i : Nat) (a b : Layer), layers[i]? = some a ∧ layers[i + 1]? = some b ∧ b.startCount ≤ a.startCount := by
  induction layers with
  | nil => simp [startsRise]
  | cons a rest ih =>
    cases rest with
    | nil => simp [startsRise]
    | cons b rest =>
      rw [startsRise, Bool.and_eq_false_iff, ih, decide_eq_false_iff_not, not_lt]
      constructor
      · rintro (first | ⟨i, a', b', at_i, at_next, order⟩)
        · exact ⟨0, a, b, rfl, rfl, first⟩
        · exact ⟨i + 1, a', b', at_i, at_next, order⟩
      · rintro ⟨i, a', b', at_i, at_next, order⟩
        cases i with
        | zero => cases at_i; cases at_next; exact .inl order
        | succ i => exact .inr ⟨i, a', b', at_i, at_next, order⟩

theorem layersRise_eq_false_iff (r : LayerRow) : startsRise r.inUse = false
    ↔ ∃ (i : Nat) (a b : Layer), i + 1 < r.layerCount ∧ r.all[i]? = some a ∧ r.all[i + 1]? = some b ∧ b.startCount ≤ a.startCount := by
  have inUse : r.inUse = r.all.take r.layerCount := rfl
  rw [startsRise_eq_false_iff]
  constructor
  · rintro ⟨i, a, b, at_i, at_next, order⟩
    rw [inUse, getElem?_take_eq_some] at at_i at_next
    exact ⟨i, a, b, at_next.1, at_i.2, at_next.2, order⟩
  · rintro ⟨i, a, b, used, at_i, at_next, order⟩
    refine ⟨i, a, b, ?_, ?_, order⟩ <;> rw [inUse, getElem?_take_eq_some]
    · exact ⟨by omega, at_i⟩
    · exact ⟨used, at_next⟩

/-! ### The first failing check of a row (R27) -/

/-- A check names only rows that stand. -/
theorem row_of_names {check : Check} {t : TableId} {rows : List Row} {n : Nat} (names : Names check t rows n) :
    ∃ row, rows[n]? = some row := by
  cases check with
  | entryOrder =>
    obtain ⟨-, m, kind, c, depth, c', depth', -, entry, -⟩ := names
    obtain ⟨row, there, -⟩ := entryAt_iff.mp entry
    exact ⟨row, there⟩
  | markerId => obtain ⟨-, m, r, r', -, there, -⟩ := names; exact ⟨_, there⟩
  | zoneCover =>
    obtain ⟨-, ⟨r, there, -⟩ | ⟨z, there, -⟩⟩ := names
    exacts [⟨_, there⟩, ⟨_, there⟩]
  | withinLimits =>
    obtain ⟨-, kind, c, depth, r, -, entry, -⟩ := names
    obtain ⟨row, there, -⟩ := entryAt_iff.mp entry
    exact ⟨row, there⟩
  | stationRegime => obtain ⟨-, st, there, -⟩ := names; exact ⟨_, there⟩
  | creepMax => obtain ⟨-, r, there, -⟩ := names; exact ⟨_, there⟩
  | inspectionMax => obtain ⟨-, -, r, there, -⟩ := names; exact ⟨_, there⟩
  | recoverySpeeds => obtain ⟨-, -, r, there, -⟩ := names; exact ⟨_, there⟩
  | layerStart => obtain ⟨-, r, there, -⟩ := names; exact ⟨_, there⟩
  | layerOrder => obtain ⟨-, r, i, a, b, there, -⟩ := names; exact ⟨_, there⟩

/-- A check fails at row `n`, as the model tests it. -/
def failsAt (check : Check) (t : TableId) (rows : List Row) (n : Nat) (row : Row) : Bool :=
  match t, check, row with
  | .shaft, .entryOrder, _ => failsEntryOrder (rows.take n) row
  | .shaft, .markerId, _ => failsMarkerId (rows.take n) row
  | .shaft, .zoneCover, _ => failsZoneCover rows (rows.take n) row
  | .shaft, .withinLimits, _ => failsWithinLimits rows row
  | .shaft, .stationRegime, _ => failsStationRegime row
  | .profile, .creepMax, .regime r => decide (r.vMax < r.vCreep)
  | .profile, .inspectionMax, .regime r => decide (n = 4 ∧ 2000 < r.vMax)
  | .profile, .recoverySpeeds, .regime r => decide (n = 5 ∧ (1000 < r.vMax ∨ r.vMax ≠ r.vCreep))
  | .drum, .layerStart, .layers r => decide (r.layer0.startCount ≠ 0)
  | .drum, .layerOrder, .layers r => !startsRise r.inUse
  | _, _, _ => false

theorem names_regime_iff {rows : List Row} {n : Nat} {row : Row} (there : rows[n]? = some row) (p : RegimeRow → Prop) :
    (∃ r, rows[n]? = some (.regime r) ∧ p r) ↔ ∃ r, row = .regime r ∧ p r := by
  rw [there]
  simp only [Option.some.injEq]

theorem names_layers_iff {rows : List Row} {n : Nat} {row : Row} (there : rows[n]? = some row) (p : LayerRow → Prop) :
    (∃ r, rows[n]? = some (.layers r) ∧ p r) ↔ ∃ r, row = .layers r ∧ p r := by
  rw [there]
  simp only [Option.some.injEq]

/-- The statements' checks are the model's. -/
theorem names_iff {check : Check} {t : TableId} {rows : List Row} {n : Nat} {row : Row} (there : rows[n]? = some row) :
    Names check t rows n ↔ failsAt check t rows n row = true := by
  cases check with
  | entryOrder =>
    cases t with
    | shaft => exact names_entryOrder_iff there
    | profile | drum => simp [Names, failsAt]
  | markerId =>
    cases t with
    | shaft => exact names_markerId_iff there
    | profile | drum => simp [Names, failsAt]
  | zoneCover =>
    cases t with
    | shaft => exact names_zoneCover_iff there
    | profile | drum => simp [Names, failsAt]
  | withinLimits =>
    cases t with
    | shaft => exact names_withinLimits_iff there
    | profile | drum => simp [Names, failsAt]
  | stationRegime =>
    cases t with
    | shaft => exact names_stationRegime_iff there
    | profile | drum => simp [Names, failsAt]
  | creepMax =>
    cases t with
    | profile => simp only [Names, true_and, names_regime_iff there]; cases row <;> simp [failsAt]
    | shaft | drum => simp [Names, failsAt]
  | inspectionMax =>
    cases t with
    | profile => simp only [Names, true_and, names_regime_iff there]; cases row <;> simp [failsAt]
    | shaft | drum => simp [Names, failsAt]
  | recoverySpeeds =>
    cases t with
    | profile => simp only [Names, true_and, names_regime_iff there]; cases row <;> simp [failsAt]
    | shaft | drum => simp [Names, failsAt]
  | layerStart =>
    cases t with
    | drum => simp only [Names, true_and, names_layers_iff there]; cases row <;> simp [failsAt]
    | shaft | profile => simp [Names, failsAt]
  | layerOrder =>
    cases t with
    | drum =>
      have gather : Names .layerOrder .drum rows n
          ↔ ∃ r, rows[n]? = some (.layers r) ∧ startsRise r.inUse = false := by
        simp only [layersRise_eq_false_iff]
        constructor
        · rintro ⟨-, r, i, a, b, at_n, used, at_i, at_next, order⟩
          exact ⟨r, at_n, i, a, b, used, at_i, at_next, order⟩
        · rintro ⟨r, at_n, i, a, b, used, at_i, at_next, order⟩
          exact ⟨rfl, r, i, a, b, at_n, used, at_i, at_next, order⟩
      rw [gather, names_layers_iff there]
      cases row <;> simp [failsAt]
    | shaft | profile => simp [Names, failsAt]

/-- The checks, in the order of their codes. -/
def allChecks : List Check :=
  [.entryOrder, .markerId, .zoneCover, .withinLimits, .stationRegime, .creepMax, .inspectionMax, .recoverySpeeds, .layerStart,
    .layerOrder]

/-- The check that a row fails first is the first in the order of the codes. -/
theorem rowCheck_eq_find (t : TableId) (rows : List Row) (n : Nat) (row : Row) :
    rowCheck t rows n row = allChecks.find? fun check => failsAt check t rows n row := by
  cases t with
  | shaft =>
    simp only [rowCheck, shaftCheck, allChecks, List.find?_cons, failsAt, List.find?_nil]
    cases failsEntryOrder (rows.take n) row <;> simp only [Bool.false_eq_true, if_true, if_false]
    cases failsMarkerId (rows.take n) row <;> simp only [Bool.false_eq_true, if_true, if_false]
    cases failsZoneCover rows (rows.take n) row <;> simp only [Bool.false_eq_true, if_true, if_false]
    cases failsWithinLimits rows row <;> simp only [Bool.false_eq_true, if_true, if_false]
    cases failsStationRegime row <;> simp only [Bool.false_eq_true, if_true, if_false]
  | profile =>
    cases row with
    | regime r =>
      simp only [rowCheck, profileCheck, allChecks, List.find?_cons, failsAt, List.find?_nil]
      by_cases creep : r.vMax < r.vCreep
      · rw [if_pos creep, decide_eq_true creep]
      rw [if_neg creep, decide_eq_false creep]
      by_cases inspection : n = 4 ∧ 2000 < r.vMax
      · rw [if_pos inspection, decide_eq_true inspection]
      rw [if_neg inspection, decide_eq_false inspection]
      by_cases recovery : n = 5 ∧ (1000 < r.vMax ∨ r.vMax ≠ r.vCreep)
      · rw [if_pos recovery, decide_eq_true recovery]
      rw [if_neg recovery, decide_eq_false recovery]
    | _ => rfl
  | drum =>
    cases row with
    | layers r =>
      simp only [rowCheck, drumCheck, allChecks, List.find?_cons, failsAt, List.find?_nil]
      by_cases start : r.layer0.startCount ≠ 0
      · rw [if_pos start, decide_eq_true start]
      rw [if_neg start, decide_eq_false start]
      cases startsRise r.inUse <;> rfl
    | _ => rfl

/-- A row that fails no check is named by none, and one that fails a check first is named by it and by none before it. -/
theorem rowCheck_eq_none_iff {t : TableId} {rows : List Row} {n : Nat} {row : Row} (there : rows[n]? = some row) :
    rowCheck t rows n row = none ↔ ∀ check, ¬Names check t rows n := by
  rw [rowCheck_eq_find, List.find?_eq_none]
  simp only [names_iff there]
  exact ⟨fun h check => h check (by cases check <;> decide), fun h check _ => h check⟩

theorem rowCheck_eq_some {t : TableId} {rows : List Row} {n : Nat} {row : Row} {check : Check} (there : rows[n]? = some row)
    (fails : rowCheck t rows n row = some check) :
    Names check t rows n ∧ ∀ check', Names check' t rows n → check.code ≤ check'.code := by
  have rising : allChecks.Pairwise fun a b => a.code < b.code := by decide
  rw [rowCheck_eq_find, List.find?_eq_some_iff_append] at fails
  obtain ⟨here, before, behind, split, none⟩ := fails
  refine ⟨(names_iff there).mpr here, fun check' names => ?_⟩
  have listed : check' ∈ before ++ check :: behind := split ▸ (by cases check' <;> decide)
  rw [List.mem_append, List.mem_cons] at listed
  obtain earlier | rfl | later := listed
  · have fails := none check' earlier
    simp [(names_iff there).mp names] at fails
  · exact le_rfl
  · rw [split, List.pairwise_append, List.pairwise_cons] at rising
    exact le_of_lt (rising.2.1.1 check' later)

/-! ### The failure of the named banks (R27) -/

theorem tableFailure_eq_none_iff {t : TableId} {rows : List Row} :
    tableFailure t rows = none ↔ ∀ n check, ¬Names check t rows n := by
  rw [tableFailure, findSome?_zipIdx_eq_none_iff]
  simp only [Option.map_eq_none_iff, Nat.add_zero]
  constructor
  · intro h n check names
    obtain ⟨row, there⟩ := row_of_names names
    exact (rowCheck_eq_none_iff there).mp (h n row there) check names
  · exact fun h n row there => (rowCheck_eq_none_iff there).mpr (h n)

theorem tableFailure_eq_some {t : TableId} {rows : List Row} {n : Nat} {check : Check}
    (fails : tableFailure t rows = some (n, check)) :
    Names check t rows n ∧ ∀ n' check', Names check' t rows n' → n < n' ∨ n = n' ∧ check.code ≤ check'.code := by
  obtain ⟨m, row, there, is, before⟩ := findSome?_zipIdx_eq_some 0 fails
  obtain ⟨check', failed, same⟩ := Option.map_eq_some_iff.mp is
  cases same
  obtain ⟨names, first⟩ := rowCheck_eq_some there failed
  refine ⟨names, fun n' check' names' => ?_⟩
  obtain ⟨row', there'⟩ := row_of_names names'
  obtain earlier | rfl | later := Nat.lt_trichotomy n' m
  · have clean := before n' row' earlier there'
    exact absurd names' ((rowCheck_eq_none_iff there').mp (Option.map_eq_none_iff.mp clean) check')
  · exact .inr ⟨rfl, first check' names'⟩
  · exact .inl later

/-- One table's failure, if the set names it. -/
def namedFailure (named : TableSet) (s : State) (t : TableId) : Option (TableId × Nat × Check) :=
  if named.has t then (tableFailure t (bank t s).shadow).map fun f => (t, f) else none

theorem namedFailure_eq_none_iff {named : TableSet} {s : State} {t : TableId} :
    namedFailure named s t = none ↔ ∀ n check, named.has t = true → ¬Names check t (bank t s).shadow n := by
  unfold namedFailure
  split
  · next has => rw [Option.map_eq_none_iff, tableFailure_eq_none_iff]; exact ⟨fun h n check _ => h n check, fun h n check => h n check has⟩
  · next hasNot => exact ⟨fun _ n check has => absurd has hasNot, fun _ => rfl⟩

theorem namedFailure_eq_some {named : TableSet} {s : State} {t b : TableId} {n : Nat} {check : Check}
    (fails : namedFailure named s t = some (b, n, check)) :
    t = b ∧ named.has t = true ∧ tableFailure t (bank t s).shadow = some (n, check) := by
  unfold namedFailure at fails
  split at fails
  · next has =>
    obtain ⟨f, failed, same⟩ := Option.map_eq_some_iff.mp fails
    cases same
    exact ⟨rfl, has, failed⟩
  · cases fails

theorem validationFailure_eq (named : TableSet) (s : State) :
    validationFailure named s = [TableId.shaft, .profile, .drum].findSome? (namedFailure named s) := rfl

/-- The failure named is the first by table, then row, then check. -/
theorem validationFailure_eq_some {named : TableSet} {s : State} {b : TableId} {n : Nat} {check : Check}
    (fails : validationFailure named s = some (b, n, check)) :
    named.has b = true ∧ Names check b (bank b s).shadow n
      ∧ ∀ b' n' check', named.has b' = true → Names check' b' (bank b' s).shadow n' →
        b.code < b'.code ∨ (b = b' ∧ (n < n' ∨ (n = n' ∧ check.code ≤ check'.code))) := by
  have rising : [TableId.shaft, .profile, .drum].Pairwise fun a b => a.code < b.code := by decide
  rw [validationFailure_eq, List.findSome?_eq_some_iff] at fails
  obtain ⟨before, t, behind, split, here, none⟩ := fails
  obtain ⟨rfl, has, failed⟩ := namedFailure_eq_some here
  obtain ⟨names, first⟩ := tableFailure_eq_some failed
  refine ⟨has, names, fun b' n' check' has' names' => ?_⟩
  have listed : b' ∈ before ++ t :: behind := split ▸ (by cases b' <;> decide)
  rw [List.mem_append, List.mem_cons] at listed
  obtain earlier | rfl | later := listed
  · exact absurd names' (namedFailure_eq_none_iff.mp (none b' earlier) n' check' has')
  · exact .inr ⟨rfl, first n' check' names'⟩
  · rw [split, List.pairwise_append, List.pairwise_cons] at rising
    exact .inl (rising.2.1.1 b' later)

theorem validationFailure_eq_none_iff {named : TableSet} {s : State} : validationFailure named s = none
    ↔ ∀ b n check, named.has b = true → ¬Names check b (bank b s).shadow n := by
  rw [validationFailure_eq, List.findSome?_eq_none_iff]
  simp only [namedFailure_eq_none_iff]
  exact ⟨fun h b => h b (by cases b <;> decide), fun h b _ => h b⟩

/-- A named bank is VALIDATED, and one in LOADING stays. -/
theorem toValidated_eq (b : Bank) :
    b.toValidated = { b with state := if b.state = .loading then .loading else .validated } := by
  obtain ⟨active, shadow, state⟩ := b
  cases state <;> rfl

/-- The banks and the result when no check fails, before VALID is set. -/
def passedValidation (s : State) : State :=
  setResult (.passed (openSet s))
    { s with
      tables.shaft := s.tables.shaft.toValidated
      tables.profile := s.tables.profile.toValidated
      tables.drum := s.tables.drum.toValidated }

/-- Settles O45: the failure over the named banks is the first that a check names, and the operation's end rules by it. -/
theorem validationRules : Obligations.ValidationRules := by
  refine ⟨fun s named => ⟨validationFailure_eq_none_iff, fun b n check => validationFailure_eq_some⟩, fun s together =>
    ⟨fun idle => completes_of rfl (by simp [completeValidation, idle]), fun runs clean => ?passes, fun b n check runs fails => ?fails⟩⟩
  case passes =>
    refine ⟨passedValidation s, completes_of rfl (by simp only [completeValidation, runs, clean, if_true, passedValidation]),
      fun b => ?_, rfl, rfl, rfl⟩
    rw [← toValidated_eq]
    cases b <;> rfl
  case fails =>
    refine ⟨setResult (.failed (openSet s) b n check) (closeCommitment s),
      completes_of rfl (by simp only [completeValidation, runs, fails, if_true]), fun b => ?_, rfl, rfl, rfl⟩
    cases b <;> rfl

end Sys2Proof.Machine

/-! PROOF. The permitted speed and the overspeed thresholds (6.2 to 6.5). -/

namespace Sys2Proof.Machine

/-! ### What is evaluated (R103 to R105) -/

/-- Under an active trip, the Envelope Unit evaluates what the trip moves. -/
theorem computeEnvelope_active {s : State} {trip : Trip} {r : RegimeRow}
    (going : ¬(s.protection.state = .noTables ∨ s.protection.state = .tripped))
    (active : s.pipeline.active = some trip) (row : regimeRow trip.regime s = some r) :
    computeEnvelope s
      = { permitted := leastOf (presentEnvelopes (envelopesFor trip r s)), envelopes := envelopesFor trip r s
          thresholds := .of fun c => ((envelopesFor trip r s).get c).map (thresholdOf r) } := by
  simp only [computeEnvelope, if_neg going, active, row]

@[simp] theorem get_of {α : Type} (f : Conveyance → α) (c : Conveyance) : (PerConveyance.of f).get c = f c := by cases c <;> rfl

theorem envelopesFor_get (trip : Trip) (r : RegimeRow) (s : State) (c : Conveyance) :
    (envelopesFor trip r s).get c
      = if inMovingSet trip.movesAll c then (compartmentRow c s).map fun row => envelopeOf trip c r row s else none := get_of _ c

theorem envelopesFor_moving {trip : Trip} {r : RegimeRow} {s : State} {c : Conveyance} {row : CompartmentRow}
    (moves : inMovingSet trip.movesAll c = true) (there : compartmentRow c s = some row) :
    (envelopesFor trip r s).get c = some (envelopeOf trip c r row s) := by
  rw [envelopesFor_get, if_pos moves, there]; rfl

theorem mem_presentEnvelopes {e : PerConveyance (Option Nat)} {v : Nat} : v ∈ presentEnvelopes e ↔ ∃ c, e.get c = some v := by
  simp only [presentEnvelopes, List.mem_filterMap, List.mem_cons, List.not_mem_nil, or_false, id]
  constructor
  · rintro ⟨x, rfl | rfl | rfl, is⟩
    exacts [⟨.skip, is⟩, ⟨.cage, is⟩, ⟨.counterweight, is⟩]
  · rintro ⟨c, is⟩
    cases c
    exacts [⟨_, .inl rfl, is⟩, ⟨_, .inr (.inl rfl), is⟩, ⟨_, .inr (.inr rfl), is⟩]

theorem leastOf_mem {envelopes : List Nat} (present : envelopes ≠ []) : leastOf envelopes ∈ envelopes := by
  cases envelopes with
  | nil => exact absurd rfl present
  | cons n rest =>
    change least n rest ∈ n :: rest
    rw [List.mem_cons]
    exact least_mem n rest

/-- The Envelope Unit evaluates nothing, or what the active trip moves. -/
theorem computeEnvelope_cases (s : State) : computeEnvelope s = noEnvelope
    ∨ ∃ trip r, s.pipeline.active = some trip ∧ regimeRow trip.regime s = some r
      ∧ computeEnvelope s
        = { permitted := leastOf (presentEnvelopes (envelopesFor trip r s)), envelopes := envelopesFor trip r s
            thresholds := .of fun c => ((envelopesFor trip r s).get c).map (thresholdOf r) } := by
  by_cases going : s.protection.state = .noTables ∨ s.protection.state = .tripped
  · exact .inl (if_pos going)
  cases active : s.pipeline.active with
  | none => exact .inl (computeEnvelope_none (.inr (.inr active)))
  | some trip =>
    cases row : regimeRow trip.regime s with
    | none => exact .inl (by simp only [computeEnvelope, if_neg going, active, row])
    | some r => exact .inr ⟨trip, r, rfl, row, computeEnvelope_active going active row⟩

/-- P is no more than any envelope. -/
theorem permitted_le {s : State} {c : Conveyance} {e : Nat} (there : (computeEnvelope s).envelopes.get c = some e) :
    (computeEnvelope s).permitted ≤ e := by
  obtain none | ⟨trip, r, -, -, is⟩ := computeEnvelope_cases s
  · rw [none]; exact Nat.zero_le e
  · rw [is] at there ⊢
    exact leastOf_le (mem_presentEnvelopes.mpr ⟨c, there⟩)

/-- Of a moved conveyance with a COMPARTMENT row, P is no more than what constrains it, whatever the supervisor state. -/
theorem permitted_le_of_constrains {s : State} {trip : Trip} {r : RegimeRow} {c : Conveyance} {row : CompartmentRow} {v : Nat}
    (active : s.pipeline.active = some trip) (regime : regimeRow trip.regime s = some r)
    (moves : inMovingSet trip.movesAll c = true) (there : compartmentRow c s = some row) (constrains : Constrains v trip c r row s) :
    (computeEnvelope s).permitted ≤ v := by
  obtain none | ⟨trip', r', active', regime', is⟩ := computeEnvelope_cases s
  · rw [none]; exact Nat.zero_le v
  cases active.symm.trans active'
  cases regime.symm.trans regime'
  have envelope : (computeEnvelope s).envelopes.get c = some (envelopeOf trip c r row s) := by
    rw [is]; exact envelopesFor_moving moves there
  exact le_trans (permitted_le envelope) ((envelopeOf_least trip c r row s).2 v constrains)

/-- P is no more than the regime's ceiling. -/
theorem permitted_le_vMax {s : State} {trip : Trip} {r : RegimeRow} (active : s.pipeline.active = some trip)
    (regime : regimeRow trip.regime s = some r) : (computeEnvelope s).permitted ≤ r.vMax := by
  obtain none | ⟨trip', r', active', regime', is⟩ := computeEnvelope_cases s
  · rw [none]; exact Nat.zero_le _
  cases active.symm.trans active'
  cases regime.symm.trans regime'
  by_cases present : presentEnvelopes (envelopesFor trip r s) = []
  · rw [is, present]; exact Nat.zero_le _
  · obtain ⟨c, there⟩ := mem_presentEnvelopes.mp (leastOf_mem present)
    have envelope : (envelopesFor trip r s).get c = some (computeEnvelope s).permitted := by rw [is]; exact there
    rw [envelopesFor_get] at envelope
    split at envelope
    · obtain ⟨row, -, least⟩ := Option.map_eq_some_iff.mp envelope
      rw [← least]
      exact (envelopeOf_least trip c r row s).2 _ (.inl rfl)
    · cases envelope

/-! ### Overspeed (R105, R106) -/

/-- Exceeding the lowest of a drum's thresholds is exceeding one of them. -/
theorem overspeeds_iff (d : Drum) (s : State) : overspeeds d s = true
    ↔ ∃ c limit, drumOf c = d ∧ s.envelope.thresholds.get c = some limit ∧ limit < (channel d s).speed := by
  have named : (∃ c limit, drumOf c = d ∧ s.envelope.thresholds.get c = some limit ∧ limit < (channel d s).speed)
      ↔ ∃ c, drumOf c = d ∧ ∃ limit, s.envelope.thresholds.get c = some limit ∧ limit < (channel d s).speed := by
    constructor
    · rintro ⟨c, limit, h⟩; exact ⟨c, h.1, limit, h.2⟩
    · rintro ⟨c, h, limit, h'⟩; exact ⟨c, limit, h, h'⟩
  rw [named]
  cases d with
  | skip =>
    have only : (∃ c, drumOf c = .skip ∧ ∃ limit, s.envelope.thresholds.get c = some limit ∧ limit < (channel .skip s).speed)
        ↔ ∃ limit, s.envelope.thresholds.skip = some limit ∧ limit < (channel .skip s).speed := by
      constructor
      · rintro ⟨c, on, h⟩
        cases c with
        | skip => exact h
        | cage | counterweight => cases on
      · exact fun h => ⟨.skip, rfl, h⟩
    rw [only, overspeeds, drumThreshold]
    cases s.envelope.thresholds.skip <;> simp
  | cage =>
    have either : (∃ c, drumOf c = .cage ∧ ∃ limit, s.envelope.thresholds.get c = some limit ∧ limit < (channel .cage s).speed)
        ↔ (∃ limit, s.envelope.thresholds.cage = some limit ∧ limit < (channel .cage s).speed)
          ∨ ∃ limit, s.envelope.thresholds.counterweight = some limit ∧ limit < (channel .cage s).speed := by
      constructor
      · rintro ⟨c, on, h⟩
        cases c with
        | skip => cases on
        | cage => exact .inl h
        | counterweight => exact .inr h
      · rintro (h | h)
        exacts [⟨.cage, rfl, h⟩, ⟨.counterweight, rfl, h⟩]
    rw [either, overspeeds, drumThreshold]
    cases s.envelope.thresholds.cage <;> cases s.envelope.thresholds.counterweight <;> simp

/-- Settles O33: the two forms of the computation, with what constrains a conveyance below them. -/
theorem permittedSpeedIsBounded : Obligations.PermittedSpeedIsBounded := by
  refine ⟨fun s stopped => ?stopped, fun s trip R takes active regime => ?evaluated, fun s trip => ?distance,
    fun s trip r active regime => ⟨permitted_le_vMax active regime, fun c => ?thresholds, fun c e => permitted_le,
      fun c row z moves datumed there mem compartment top bottom => ?ceiling, fun row moves there reached => ?reached⟩,
    fun s d => ?overspeed⟩
  case stopped =>
    rw [computeEnvelope_none stopped]
    exact ⟨rfl, fun c => ⟨get_of _ c, get_of _ c⟩⟩
  case evaluated =>
    have going : ¬(s.protection.state = .noTables ∨ s.protection.state = .tripped) := by
      obtain h | h := takes <;> simp [h]
    rw [computeEnvelope_active going active regime]
    refine ⟨fun c still => ?_, fun c row moves there => ⟨_, envelopesFor_moving moves there, envelopeOf_least trip c R row s⟩,
      fun ⟨row, there⟩ => ?_⟩
    · rw [envelopesFor_get, if_neg (by simp [still])]
    · have skip : (envelopesFor trip R s).get .skip = some (envelopeOf trip .skip R row s) :=
        envelopesFor_moving (by simp [inMovingSet]) there
      have present : presentEnvelopes (envelopesFor trip R s) ≠ [] :=
        List.ne_nil_of_mem (mem_presentEnvelopes.mpr ⟨.skip, skip⟩)
      exact mem_presentEnvelopes.mp (leastOf_mem present)
  case distance =>
    refine ⟨fun k st kind at_k => ?_, fun length origin kind from_ => ⟨fun direction => ?_, fun direction => ?_⟩⟩
    · simp [distanceToTarget, kind, stopDepthOf, at_k]
    · simp [distanceToTarget, kind, travelDone, from_, direction, mm, Config.fineUnits]
    · simp [distanceToTarget, kind, travelDone, from_, direction, mm, Config.fineUnits]
  case thresholds =>
    obtain none | ⟨trip', r', active', regime', is⟩ := computeEnvelope_cases s
    · rw [none]; simp [noEnvelope]
    · cases active.symm.trans active'
      cases regime.symm.trans regime'
      rw [is]
      exact get_of _ c
  case ceiling =>
    exact permitted_le_of_constrains active regime moves there (.inr (.inl ⟨datumed, z, mem, compartment, top, bottom, rfl⟩))
  case reached =>
    refine Nat.le_zero.mp (permitted_le_of_constrains active regime moves there (.inr (.inr (.inl ⟨.inr rfl, ?_⟩))))
    rw [if_pos rfl]
    exact (isTargetConstraint_iff _ _ _).mpr (if_pos reached).symm
  case overspeed =>
    rw [judgeOverspeed]
    exact ⟨fun above => if_pos ((overspeeds_iff d s).mpr above), fun below => if_neg ((overspeeds_iff d s).not.mpr below)⟩

end Sys2Proof.Machine

/-! PROOF. What field frames and drum timers leave alone, a sample's count, payout by layers, and foreign marker reads
(chapters 1, 3 and 4). -/

namespace Sys2Proof.Machine

/-! ### What field frames and drum timers leave alone -/

/-- The parts that no field frame and no drum timer writes, as one value. -/
def leftAlone (s : State) :=
  (s.key, s.tables.shaft.active, s.tables.profile.active, s.tables.drum.active, s.zones.holders, s.line.cReceiver,
    s.line.dReceiver, s.line.transmitter, s.guard.transmitter, s.guard.lastRef)

theorem leavesAlone_iff {s t : State} : LeavesAlone s t ↔ leftAlone t = leftAlone s := by
  simp [LeavesAlone, leftAlone, Prod.mk.injEq]

section

variable (s : State)

theorem leftAlone_count (c : Counter) : leftAlone (count c s) = leftAlone s := by cases c <;> rfl

theorem leftAlone_offerUp (m : UpMark) (f : Frame) : leftAlone (offerUp m f s) = leftAlone s := by
  have drop (u : State) : leftAlone (raiseDrop u) = leftAlone u := by
    unfold raiseDrop; split
    · rfl
    · dsimp only; split
      · rfl
      · exact leftAlone_count _ _
  unfold offerUp; split
  · rfl
  · rw [drop, leftAlone_count]

theorem leftAlone_setFlag (f : Flag) : leftAlone (setFlag f s) = leftAlone s := by
  unfold setFlag; split
  · rfl
  · exact leftAlone_offerUp (markFlag f s) _ _

theorem leftAlone_placeRecord (r : HistoryRecord) : leftAlone (placeRecord r s) = leftAlone s := leftAlone_setFlag _ .finish

theorem leftAlone_finishActive (o : TripOutcome) (c : Option TripCause) : leftAlone (finishActive o c s) = leftAlone s := by
  unfold finishActive; split
  · rfl
  · exact leftAlone_placeRecord _ _

theorem leftAlone_finishWaiting (o : TripOutcome) (c : Option TripCause) : leftAlone (finishWaiting o c s) = leftAlone s := by
  unfold finishWaiting; split
  · rfl
  · exact leftAlone_placeRecord _ _

theorem leftAlone_finishBoth (o : TripOutcome) (c : Option TripCause) : leftAlone (finishBoth o c s) = leftAlone s := by
  rw [finishBoth, leftAlone_finishWaiting, leftAlone_finishActive]

theorem leftAlone_promote : leftAlone (promote s) = leftAlone s := by
  unfold promote; split
  · rfl
  · dsimp only
    split
    · exact leftAlone_finishActive _ _ _
    · split
      · exact leftAlone_finishActive _ _ _
      · rfl

theorem leftAlone_enterState (new : TripState) : leftAlone (enterState new s) = leftAlone s := by
  unfold enterState watchOn; (repeat' split) <;> rfl

theorem leftAlone_removeWaitingReference : leftAlone (removeWaitingReference s) = leftAlone s := by
  unfold removeWaitingReference; split
  · exact leftAlone_count _ _
  · rfl

theorem leftAlone_beginStop (t : Trip) : leftAlone (beginStop t s) = leftAlone s := by
  unfold beginStop; dsimp only
  split <;> exact leftAlone_removeWaitingReference (stopWatch s)

theorem leftAlone_enterStopping (cause : TripCause) : leftAlone (enterStopping cause s) = leftAlone s := by
  unfold enterStopping; split
  · rfl
  · dsimp only; split
    · rw [leftAlone_finishBoth, leftAlone_setFlag, leftAlone_enterState]; rfl
    · rw [leftAlone_beginStop, leftAlone_setFlag, leftAlone_enterState, leftAlone_finishWaiting]; rfl

theorem leftAlone_loseDown : leftAlone (loseDown s) = leftAlone s := by rw [loseDown, leftAlone_setFlag, leftAlone_count]

theorem leftAlone_coalesce (f : DownFrame) : leftAlone (coalesce f s) = leftAlone s := by
  unfold coalesce appendDown; (repeat' split)
  · exact leftAlone_count _ _
  · rfl
  · exact leftAlone_loseDown s

theorem leftAlone_placeDemand (f : Frame) : leftAlone (placeDemand f s) = leftAlone s := by
  unfold placeDemand; dsimp only; (repeat' split)
  · rfl
  · rfl
  · exact leftAlone_loseDown s

theorem leftAlone_abandon (reason : AbandonReason) : leftAlone (abandon reason s) = leftAlone s := by
  unfold abandon; split
  · exact leftAlone_setFlag _ _
  · rfl

theorem leftAlone_reportCause (c : Cause) : leftAlone (reportCause c s) = leftAlone s := by
  obtain ⟨-, same⟩ | ⟨-, trips⟩ | ⟨-, added⟩ := reportCause_cases c s
  · rw [same]
  · rw [trips, protectiveTrip, leftAlone_abandon]
    have opened : leftAlone (placeDemand partDemand (openChain c s)) = leftAlone s := by
      rw [leftAlone_placeDemand]; exact leftAlone_setFlag _ .trip
    exact (leftAlone_finishBoth _ _ _).trans opened
  · rw [added]; rfl

theorem leftAlone_armIfDatumed : leftAlone (armIfDatumed s) = leftAlone s := by
  unfold armIfDatumed; split
  · exact leftAlone_setFlag _ _
  · rfl

theorem leftAlone_handOn : leftAlone (handOn s) = leftAlone s := by
  have offered (n : WatchEntry → State → Frame) (due : List WatchEntry) (u : State) :
      leftAlone (due.foldl (fun v e => offerUp .part (n e v) v) u) = leftAlone u := by
    induction due generalizing u with
    | nil => rfl
    | cons e rest ih => rw [List.foldl_cons, ih, leftAlone_offerUp]
  exact offered zoneClearNotice _ _

end

/-- No operation of a field frame or a drum timer writes them. -/
theorem Reaches.leftAlone {k : Nat} {s t : State} (h : Reaches k s t) (low : k ≤ 1) : leftAlone t = leftAlone s := by
  induction h with
  | refl => rfl
  | trans _ _ first second => rw [second, first]
  | count c s => exact leftAlone_count s c
  | setFlag f s => exact leftAlone_setFlag s f
  | reportCause c s => exact leftAlone_reportCause s c
  | setRecord | clearDrift | addDrift | addDisagreement | addHold | driveSilent | stopWatch | stepRamp | chooseFreely
    | recomputeSpeed | hearDrive => rfl
  | setTracker c t s => rfl
  | setChannel d ch s => cases d <;> rfl
  | replaceImage new s => unfold accumulatorsOn; (repeat' split) <;> rfl
  | start s => exact leftAlone_enterState s _
  | creep s | settle s => exact leftAlone_enterState s _
  | enterStopping cause s => exact leftAlone_enterStopping s cause
  | finishBoth o c s => exact leftAlone_finishBoth s o c
  | promote o c s => rw [leftAlone_promote, leftAlone_finishActive]
  | completePlan c _ _ _ _ _ _ before =>
    rw [← before]; unfold datumMidTrip; (repeat' split) <;> rfl
  | armIfDatumed s => exact leftAlone_armIfDatumed s
  | abandon reason s => exact leftAlone_abandon s reason
  | coalesce f s => exact leftAlone_coalesce s f
  | _ => omega

theorem Ends.leavesAlone {s t : State} (h : Ends 1 s t) : LeavesAlone s t := by
  rw [leavesAlone_iff]
  obtain ⟨u, reached, rfl⟩ | ⟨reached, -⟩ := h
  · rw [leftAlone_handOn, reached.leftAlone (Nat.le_refl 1)]
  · exact reached.leftAlone (Nat.le_refl 1)

/-! ### What a movement and a loss keep of the channels -/

/-- The channels and the image, as one value: what follows from a movement or a loss writes neither. -/
def monitored (s : State) := (s.drums.skip, s.drums.cage, s.protection.image)

theorem channel_of_monitored {s t : State} (same : monitored t = monitored s) (d : Drum) : channel d t = channel d s := by
  simp only [monitored, Prod.mk.injEq] at same
  cases d
  exacts [same.1, same.2.1]

theorem image_of_monitored {s t : State} (same : monitored t = monitored s) : t.protection.image = s.protection.image := by
  simp only [monitored, Prod.mk.injEq] at same
  exact same.2.2

theorem monitored_of_same {s t : State} (drums : t.drums = s.drums) (protection : t.protection = s.protection) :
    monitored t = monitored s := by
  rw [monitored, drums, protection]; rfl

section

variable (s : State)

theorem monitored_reportCause (c : Cause) : monitored (reportCause c s) = monitored s := by
  have skip := reportCause_channel c .skip s
  have cage := reportCause_channel c .cage s
  have image : (reportCause c s).protection.image = s.protection.image := by
    obtain ⟨-, same⟩ | ⟨-, trips⟩ | ⟨-, added⟩ := reportCause_cases c s
    · rw [same]
    · rw [trips, protectiveTrip_protection]
    · rw [added]; rfl
  simp only [channel] at skip cage
  rw [monitored, skip, cage, image]; rfl

theorem monitored_reportIf (condition : Bool) (c : Cause) : monitored (reportIf condition c s) = monitored s := by
  unfold reportIf; split
  · exact monitored_reportCause s c
  · rfl

theorem monitored_handOn : monitored (handOn s) = monitored s := monitored_of_same (handOn_drums s) (handOn_protection s)

theorem monitored_offerUp (m : UpMark) (f : Frame) : monitored (offerUp m f s) = monitored s :=
  monitored_of_same (by simp) (by simp)

theorem monitored_abandonByMotion : monitored (abandonByMotion s) = monitored s := monitored_of_same (by simp) (by simp)

theorem monitored_noteMotion (delta : Int) : monitored (noteMotion delta s) = monitored s := by
  unfold noteMotion; split
  · rfl
  · exact monitored_abandonByMotion s

theorem monitored_accumulate (d : Drum) (relock : Bool) (delta : Int) : monitored (accumulate d relock delta s) = monitored s := by
  have relocked (u : State) : monitored (judgeRelock relock delta u) = monitored u := monitored_reportIf u _ _
  have disagrees (u : State) : monitored (judgeDisagreement d delta u) = monitored u := by
    rw [judgeDisagreement, monitored_reportIf]; unfold addDisagreement; (repeat' split) <;> rfl
  have holds (u : State) : monitored (judgeHold d delta u) = monitored u := by
    rw [judgeHold, monitored_reportIf]; unfold addHold; split <;> rfl
  have drifted (u : State) : monitored (judgeDrift delta u) = monitored u := by
    unfold judgeDrift; split
    · exact monitored_reportIf _ _ _
    · rfl
  rw [accumulate, drifted, holds, disagrees, relocked]

end

/-- The trackers' checks write neither. -/
theorem Reaches.monitored {s t : State} (h : Reaches 0 s t) : monitored t = monitored s := by
  induction h with
  | refl => rfl
  | trans _ _ first second => rw [second, first]
  | count c s => exact monitored_of_same (by simp) (by simp)
  | setFlag f s => exact monitored_of_same (by simp) (by simp)
  | reportCause c s => exact monitored_reportCause s c
  | setRecord i r s => exact monitored_of_same (by simp) (by simp)
  | setTracker c t s => exact monitored_of_same (by simp) (by simp)
  | _ => omega

section

variable (s : State)

theorem monitored_trackDrum (d : Drum) : monitored (trackDrum d s) = monitored s := (reaches_trackDrum d s).monitored

theorem monitored_pipelineMovement (d : Drum) (delta : Int) : monitored (pipelineMovement d delta s) = monitored s := by
  have starts (u : State) : monitored (judgeStart d delta u) = monitored u := by
    unfold judgeStart; (repeat' split)
    · rfl
    · have entered : monitored (enterState .running u) = monitored u := monitored_of_same (by simp) (by simp)
      exact entered
    · rfl
  have creeps (u : State) : monitored (judgeCreeping u) = monitored u := monitored_of_same (by simp) (by simp)
  have settles (u : State) : monitored (judgeSettling d u) = monitored u := monitored_of_same (by simp) (by simp)
  rw [pipelineMovement, settles, creeps, starts]

theorem monitored_takeMovement (d : Drum) (relock : Bool) (delta : Int) :
    monitored (takeMovement d relock delta s) = monitored s := by
  rw [takeMovement, monitored_pipelineMovement, monitored_trackDrum, monitored_accumulate, monitored_noteMotion]

theorem monitored_noteRest (before : Bool) : monitored (noteRest before s) = monitored s := by
  unfold noteRest; split <;> rfl

theorem monitored_finishAtRest : monitored (finishAtRest s) = monitored s := monitored_of_same (by simp) (by simp)

theorem monitored_takeRest (d : Drum) (x y : Bool) : monitored (takeRest d x y s) = monitored s := by
  unfold takeRest; dsimp only; split
  · rw [monitored_finishAtRest, monitored_noteRest]
  · exact monitored_noteRest s x

theorem monitored_recomputeSpeed : monitored (recomputeSpeed s) = monitored s := rfl

theorem monitored_judgeSpeed (d : Drum) (dt : Nat) : monitored (judgeSpeed d dt s) = monitored s := by
  have exceeds (u : State) : monitored (judgeOverspeed d u) = monitored u := by
    unfold judgeOverspeed; split
    · rw [monitored_recomputeSpeed, monitored_reportCause]
    · rfl
  have ramps (u : State) : monitored (rampStep d dt u) = monitored u := by
    unfold rampStep; (repeat' split)
    · rfl
    · dsimp only; split
      · rw [monitored_recomputeSpeed]; exact monitored_reportCause _ _
      · exact monitored_of_same (by simp) (by simp)
    · rfl
    · rfl
  rw [judgeSpeed, ramps, exceeds, monitored_recomputeSpeed]

theorem monitored_handOnMovement (d : Drum) (relock : Bool) (delta : Int) (dt : Nat) (x y : Bool) :
    monitored (handOnMovement d relock delta dt x y s) = monitored s := by
  have zones (u : State) : monitored (handOnZones u) = monitored u := monitored_of_same (by simp) (by simp)
  unfold handOnMovement; split
  · rw [zones, monitored_recomputeSpeed, monitored_takeRest]
  · rw [zones, monitored_judgeSpeed, monitored_takeRest, monitored_takeMovement]

theorem monitored_takeLoss (raises : Bool) : monitored (takeLoss raises s) = monitored s := by
  have lost (u : State) : monitored (pipelineLoss u) = monitored u := monitored_of_same (by simp) (by simp)
  obtain plain | ⟨-, -, first | second⟩ := takeLoss_cases raises (s := s)
  · rw [plain, monitored_reportIf, monitored_abandonByMotion, lost]
  · rw [first, monitored_reportCause, monitored_abandonByMotion, lost]; rfl
  · rw [second, lost, monitored_abandonByMotion, monitored_reportCause]; rfl

end

/-! ### A field frame observed (R167, R168) -/

/-- A D-link frame of a field class is observed and then offered upstream. -/
theorem completes_observed {cls origin target : Byte} {body : List Byte} {s : State} {i : Instr} (ready : Ready .d s)
    (runs : exec i s = .next (deliverFrame .d cls origin target body s)) (fits : body.length ≤ 56)
    (notRequest : classOf cls ≠ .request) :
    Forwards i (makeFrame cls origin target body) s (observe (makeFrame cls origin target body) s) := by
  rw [Forwards, runs, deliverFrame_of_idle _ _ _ ready fits]
  exact congrArg _ (takeFromD_of_field (f := makeFrame cls origin target body) s notRequest)

theorem leavesAlone_of_observed {s t : State} {m : UpMark} {f : Frame} (ends : Ends 1 s t) : LeavesAlone s (offerUp m f t) := by
  rw [leavesAlone_iff, leftAlone_offerUp]
  exact leavesAlone_iff.mp ends.leavesAlone

theorem ofCode_drumCode (d : Drum) : Drum.ofCode (drumCode d).toNat = some d := by cases d <;> rfl

theorem readSample_sampleBody (d : Drum) (seq : Byte) (n : BitVec 32) (stamp : BitVec 16) :
    readSample (sampleBody (drumCode d) seq n stamp) = some { drum := d, seq, count := n, stamp } := by
  have size : (sampleBody (drumCode d) seq n stamp).length = 8 := by simp [sampleBody]
  have drum : field (sampleBody (drumCode d) seq n stamp) 0 1 = (drumCode d).toNat := field_first _ _
  have number : field (sampleBody (drumCode d) seq n stamp) 1 1 = seq.toNat := field_second _ _ _
  have count : field (sampleBody (drumCode d) seq n stamp) 2 4 = n.toNat := be_beBytes_of_lt (n := 4) n.isLt
  have time : field (sampleBody (drumCode d) seq n stamp) 6 2 = stamp.toNat := be_beBytes_of_lt (n := 2) stamp.isLt
  simp [readSample, size, drum, number, count, time, ofCode_drumCode]

/-- A DRUM SAMPLE completes as its channel takes it. -/
theorem forwards_drumSample {s : State} (d : Drum) (origin target seq : Byte) (n : BitVec 32) (stamp : BitVec 16)
    (ready : Ready .d s) : Forwards (.drumSample origin target (sampleBody (drumCode d) seq n stamp))
      (makeFrame 0x20 origin target (sampleBody (drumCode d) seq n stamp)) s
      (observeSample { drum := d, seq, count := n, stamp } s) := by
  have observed : observe (makeFrame 0x20 origin target (sampleBody (drumCode d) seq n stamp)) s
      = observeSample { drum := d, seq, count := n, stamp } s := by
    have read := readSample_sampleBody d seq n stamp
    change (match readSample (sampleBody (drumCode d) seq n stamp) with | some x => observeSample x s | none => s) = _
    rw [read]
  rw [← observed]
  exact completes_observed ready rfl (by simp [sampleBody]) (by decide)

/-! ### The count brought forward (R35) -/

/-- A channel's position and count reference, the other channel and the image are kept. -/
def KeepsCount (d : Drum) (s t : State) : Prop :=
  (channel d t).countRef = (channel d s).countRef ∧ (channel d t).position = (channel d s).position
    ∧ channel (otherDrum d) t = channel (otherDrum d) s ∧ t.protection.image = s.protection.image

theorem KeepsCount.trans {d : Drum} {s t u : State} (first : KeepsCount d s t) (second : KeepsCount d t u) : KeepsCount d s u := by
  obtain ⟨ref, position, other, image⟩ := first
  obtain ⟨ref', position', other', image'⟩ := second
  exact ⟨ref'.trans ref, position'.trans position, other'.trans other, image'.trans image⟩

theorem KeepsCount.of_monitored {d : Drum} {s t : State} (same : monitored t = monitored s) : KeepsCount d s t := by
  have channels := channel_of_monitored same
  exact ⟨by rw [channels], by rw [channels], channels _, image_of_monitored same⟩

theorem otherDrum_ne (d : Drum) : otherDrum d ≠ d := by cases d <;> decide

theorem KeepsCount.setChannel {d : Drum} {s : State} {ch : Channel} (ref : ch.countRef = (channel d s).countRef)
    (position : ch.position = (channel d s).position) : KeepsCount d s (setChannel d ch s) := by
  refine ⟨?_, ?_, channel_setChannel_other _ _ (otherDrum_ne d), by simp⟩
  · rw [channel_setChannel_same, ref]
  · rw [channel_setChannel_same, position]

theorem KeepsCount.setLock (d : Drum) (lock : Lock) (baseline : Option Baseline) (s : State) :
    KeepsCount d s (setLock d lock baseline s) := .setChannel rfl rfl

theorem restOn_count (ch : Channel) (timing : Option TimingRow) :
    (ch.restOn timing).countRef = ch.countRef ∧ (ch.restOn timing).position = ch.position := by
  unfold Channel.restOn; (repeat' split) <;> exact ⟨rfl, rfl⟩

theorem KeepsCount.applyMovement (d : Drum) (relock : Bool) (own : Int) (dt : Nat) (s : State) :
    KeepsCount d s (applyMovement d relock own dt s) := by
  unfold Machine.applyMovement; split
  · exact .of_monitored rfl
  · dsimp only
    refine .trans (.setChannel ?_ ?_) (.of_monitored (monitored_handOnMovement _ _ _ _ _ _ _))
    · exact (restOn_count _ _).1
    · exact (restOn_count _ _).2

theorem KeepsCount.loseLock (d : Drum) (s : State) : KeepsCount d s (loseLock d s) := by
  unfold Machine.loseLock
  refine .trans (.setChannel (ch := (channel d s).lockLost) rfl rfl) (.of_monitored ?_)
  rw [monitored_handOn, monitored_takeLoss]

theorem KeepsCount.judgeSample (d : Drum) (r : DrumRow) (x : Sample) (own : Int) (s : State) :
    KeepsCount d s (judgeSample d r x own s) := by
  unfold Machine.judgeSample; dsimp only
  (repeat' split)
  · exact .setLock _ _ _ _
  · exact .trans (.setLock _ _ _ _) (.applyMovement _ _ _ _ _)
  · exact .setLock _ _ _ _
  · exact .trans (.setLock _ _ _ _) (.applyMovement _ _ _ _ _)
  · exact .loseLock d s
  · exact .setLock _ _ _ _

theorem KeepsCount.restartSampleWatch (d : Drum) (s : State) : KeepsCount d s (restartSampleWatch d s) := by
  unfold Machine.restartSampleWatch; split
  · exact .setChannel rfl rfl
  · exact .of_monitored rfl

/-- The count is brought forward once; all that follows keeps it. -/
theorem observeSample_count (x : Sample) (s : State) :
    KeepsCount x.drum (setChannel x.drum ((channel x.drum s).bringForward x.count).1 s) (observeSample x s) := by
  unfold observeSample; dsimp only; split
  · exact .restartSampleWatch _ _
  · exact .trans (.restartSampleWatch _ _) (.judgeSample _ _ _ _ _)

theorem bringForward_countRef (ch : Channel) (n : BitVec 32) : (ch.bringForward n).1.countRef = some n := by
  unfold Channel.bringForward; split <;> rfl

theorem bringForward_first {ch : Channel} (n : BitVec 32) (first : ch.countRef = none) :
    ch.bringForward n = ({ ch with position := n.toInt, applied := n.toInt, countRef := some n }, 0) := by
  rw [Channel.bringForward, first]

theorem bringForward_later {ch : Channel} {ref : BitVec 32} (n : BitVec 32) (later : ch.countRef = some ref) :
    ch.bringForward n = ({ ch with position := ch.position + (n - ref).toInt, countRef := some n }, (n - ref).toInt) := by
  rw [Channel.bringForward, later]

/-- Settles O19: what a sample writes first, and that nothing behind it writes it again. -/
theorem samplesBringTheCountForward : Obligations.SamplesBringTheCountForward := by
  intro s d origin target seq n stamp ready
  obtain ⟨ref, position, other, image⟩ := observeSample_count { drum := d, seq, count := n, stamp } s
  have offered (f : Frame) (u : State) : monitored (offerUp .field f u) = monitored u := monitored_offerUp u _ f
  refine ⟨_, forwards_drumSample d origin target seq n stamp ready, ?_, ?_, ?_,
    leavesAlone_of_observed (ends_observeSample (Nat.le_refl 1) _ s), ?_⟩
  · rw [channel_of_monitored (offered _ _), ref, channel_setChannel_same, bringForward_countRef]
  · rw [channel_of_monitored (offered _ _), position, channel_setChannel_same]
    dsimp only
    cases before : (channel d s).countRef with
    | none => rw [bringForward_first n before]
    | some r => rw [bringForward_later n before]
  · rw [channel_of_monitored (offered _ _), other, channel_setChannel_other _ _ (otherDrum_ne d)]
  · rw [image_of_monitored (offered _ _), image]; simp

/-! ### Payout by layers (R18, R40) -/

/-- The highest-numbered of some layers whose start count does not exceed a position. -/
def layerAmong (layers : List Layer) (p : Int) : Option Layer := layers.reverse.find? fun l => l.startCount ≤ p

theorem layerAmong_cons (l : Layer) (rest : List Layer) (p : Int) :
    layerAmong (l :: rest) p = (layerAmong rest p).or (if l.startCount ≤ p then some l else none) := by
  rw [layerAmong, List.reverse_cons, List.find?_append, layerAmong]
  congr 1
  by_cases start : l.startCount ≤ p <;> simp [start]

/-- With start counts that rise, none of the layers behind one that starts beyond a position has begun. -/
theorem layerAmong_eq_none {l : Layer} {rest : List Layer} {p : Int} (rise : startsRise (l :: rest) = true)
    (beyond : p < l.startCount) : layerAmong (l :: rest) p = none := by
  induction rest generalizing l with
  | nil => simp [layerAmong, beyond]
  | cons m rest ih =>
    rw [startsRise, Bool.and_eq_true, decide_eq_true_eq] at rise
    rw [layerAmong_cons, ih rise.2 (lt_trans beyond rise.1), if_neg (by omega)]
    rfl

theorem startsRise_tail {l : Layer} {rest : List Layer} (rise : startsRise (l :: rest) = true) : startsRise rest = true := by
  cases rest with
  | nil => rfl
  | cons m rest => rw [startsRise, Bool.and_eq_true] at rise; exact rise.2

/-- One count adds, of the further layers, what the last begun one has above the scale below. -/
theorem fineAbove_step (p : Int) (below : Nat) (layers : List Layer) (rise : startsRise layers = true) :
    fineAbove (p + 1) below layers - fineAbove p below layers
      = ((((layerAmong layers p).map Layer.scale).getD below : Nat) : Int) - below := by
  induction layers generalizing below with
  | nil => simp [fineAbove, layerAmong]
  | cons l rest ih =>
    have behind := ih l.scale (startsRise_tail rise)
    rw [fineAbove, fineAbove]
    by_cases begun : l.startCount ≤ p
    · have next : max 0 (p + 1 - l.startCount) = p - l.startCount + 1 := by omega
      have now : max 0 (p - l.startCount) = p - l.startCount := by omega
      rw [layerAmong_cons, if_pos begun, next, now]
      have last : (((layerAmong rest p).or (some l)).map Layer.scale).getD below
          = ((layerAmong rest p).map Layer.scale).getD l.scale := by
        cases layerAmong rest p <;> rfl
      rw [last]
      linarith
    · have next : max 0 (p + 1 - l.startCount) = 0 := by omega
      have now : max 0 (p - l.startCount) = 0 := by omega
      have none : layerAmong rest p = none := by
        have all := layerAmong_eq_none rise (not_le.mp begun)
        rw [layerAmong_cons, Option.or_eq_none_iff] at all
        exact all.1
      rw [layerAmong_eq_none rise (not_le.mp begun), next, now]
      rw [none] at behind
      simp only [Option.map_none, Option.getD_none] at behind ⊢
      linarith

/-- Settles O22: one count from a position on adds the scale of that position's layer. -/
theorem countStepsAreScaledByTheirLayer : Obligations.CountStepsAreScaledByTheirLayer := by
  intro L p least most start rise
  have inUse : L.inUse = L.layer0 :: L.inUse.drop 1 := by
    obtain ⟨n, count⟩ : ∃ n, L.layerCount = n + 1 := ⟨L.layerCount - 1, by omega⟩
    rw [LayerRow.inUse, count]; rfl
  have layer : layerOf L p = (layerAmong (L.inUse.drop 1) p).getD L.layer0 := by
    have whole : layerOf L p = (layerAmong (L.layer0 :: L.inUse.drop 1) p).getD L.layer0 := by rw [← inUse]; rfl
    rw [whole, layerAmong_cons]
    cases layerAmong (L.inUse.drop 1) p with
    | none => rw [Option.none_or]; split <;> rfl
    | some l => rfl
  have step := fineAbove_step p L.layer0.scale (L.inUse.drop 1) (startsRise_tail (inUse ▸ rise))
  have scale : ((layerAmong (L.inUse.drop 1) p).map Layer.scale).getD L.layer0.scale = (layerOf L p).scale := by
    rw [layer]; cases layerAmong (L.inUse.drop 1) p <;> rfl
  have forward : payoutChange L p (p + 1) = (layerOf L p).scale := by
    rw [scale] at step
    simp only [payoutChange, fineAt]
    linarith
  refine ⟨forward, ?_⟩
  rw [← forward]
  simp only [payoutChange]
  omega

/-! ### Foreign marker reads (R57) -/

theorem ofCode_byteOf_index (c : Conveyance) : Conveyance.ofCode (byteOf c.index).toNat = some c := by cases c <;> rfl

theorem readMarker_markerBody (c : Conveyance) (id : BitVec 16) {quality : Byte} (defined : quality = 1 ∨ quality = 2) :
    readMarker (markerBody (byteOf c.index) id quality)
      = some { conveyance := c, markerId := id.toNat, good := decide (quality = 1) } := by
  have size : (markerBody (byteOf c.index) id quality).length = 4 := by simp [markerBody]
  have conveyance : field (markerBody (byteOf c.index) id quality) 0 1 = (byteOf c.index).toNat := field_first _ _
  have number : field (markerBody (byteOf c.index) id quality) 1 2 = id.toNat := be_beBytes_of_lt (n := 2) id.isLt
  have judged : field (markerBody (byteOf c.index) id quality) 3 1 = quality.toNat := field_singleton quality
  have known : quality.toNat = 1 ∨ quality.toNat = 2 := by obtain rfl | rfl := defined <;> simp
  have good : (quality = 1) = (quality.toNat = 1) := by rw [← BitVec.toNat_inj]; rfl
  rw [readMarker, size, conveyance, number, judged, ofCode_byteOf_index, if_pos ⟨rfl, known⟩]
  simp only [good, Option.map_some]

/-- A MARKER EVENT completes as its tracker takes it. -/
theorem forwards_markerEvent {s : State} (c : Conveyance) (origin target : Byte) {quality : Byte} (id : BitVec 16)
    (ready : Ready .d s) (defined : quality = 1 ∨ quality = 2) :
    Forwards (.markerEvent origin target (markerBody (byteOf c.index) id quality))
      (makeFrame 0x21 origin target (markerBody (byteOf c.index) id quality)) s
      (observeMarker { conveyance := c, markerId := id.toNat, good := decide (quality = 1) } s) := by
  have observed : observe (makeFrame 0x21 origin target (markerBody (byteOf c.index) id quality)) s
      = observeMarker { conveyance := c, markerId := id.toNat, good := decide (quality = 1) } s := by
    have read := readMarker_markerBody c id defined
    change (match readMarker (markerBody (byteOf c.index) id quality) with | some x => observeMarker x s | none => s) = _
    rw [read]
  rw [← observed]
  exact completes_observed ready rfl (by simp [markerBody]) (by decide)

theorem findMarker_eq_some {id : Nat} {s : State} {i : Nat} {m : MarkerRow} (found : findMarker id s = some (i, m)) :
    (markers s)[i]? = some m ∧ m.markerId = id := by
  obtain ⟨⟨m', i'⟩, first, same⟩ := Option.map_eq_some_iff.mp found
  cases same
  refine ⟨?_, by simpa using List.find?_some first⟩
  have mem := List.mem_of_find?_eq_some first
  simpa [List.mem_zipIdx_iff_getElem?] using mem

/-- Settles O26: no marker of the conveyance's own has the id, so that the read is counted and no more. -/
theorem foreignReadsAreCounted : Obligations.ForeignReadsAreCounted := by
  intro s c origin target quality id ready defined foreign
  have counted : observeMarker { conveyance := c, markerId := id.toNat, good := decide (quality = 1) } s = count .foreign s := by
    unfold observeMarker; split
    · rfl
    · next i m found =>
      obtain ⟨there, same⟩ := findMarker_eq_some found
      exact if_neg (foreign m (List.mem_of_getElem? there) same)
  rw [← counted]
  exact forwards_markerEvent c origin target id ready defined

end Sys2Proof.Machine

/-! PROOF. How a trip finishes when its drums come to rest, what a lost lock brings, and the drum timers
(chapters 3 and 5). -/

namespace Sys2Proof.Machine

/-! ### The ground on which a trip is planned and judged -/

/-- Two states with the same SHAFT table, trackers, holders and payouts: finishes, plans and holds read nothing else. -/
def SameGround (s t : State) : Prop :=
  t.tables.shaft.active = s.tables.shaft.active ∧ t.trackers = s.trackers ∧ t.zones.holders = s.zones.holders
    ∧ ∀ d, (channel d t).payout = (channel d s).payout

theorem SameGround.symm {s t : State} (h : SameGround s t) : SameGround t s := by
  obtain ⟨tables, trackers, holders, payout⟩ := h
  exact ⟨tables.symm, trackers.symm, holders.symm, fun d => (payout d).symm⟩

theorem SameGround.trans {s t u : State} (first : SameGround s t) (second : SameGround t u) : SameGround s u := by
  obtain ⟨tables, trackers, holders, payout⟩ := first
  obtain ⟨tables', trackers', holders', payout'⟩ := second
  exact ⟨tables'.trans tables, trackers'.trans trackers, holders'.trans holders, fun d => (payout' d).trans (payout d)⟩

theorem SameGround.of_drums {s t : State} (tables : t.tables = s.tables) (trackers : t.trackers = s.trackers)
    (holders : t.zones.holders = s.zones.holders) (drums : t.drums = s.drums) : SameGround s t :=
  ⟨by rw [tables], trackers, holders, fun d => by rw [channel_congr d drums]⟩

theorem SameGround.isRecord {s t : State} (h : SameGround s t) (r : HistoryRecord) (trip : Trip) (outcome : TripOutcome)
    (cause : Option TripCause) : IsRecord r trip outcome cause t ↔ IsRecord r trip outcome cause s := by
  obtain ⟨tables, trackers, -, -⟩ := h
  simp only [IsRecord, tracker, stations, tables, trackers]

theorem SameGround.isRebased {s t : State} (h : SameGround s t) (b w : Trip) : IsRebased b w t ↔ IsRebased b w s := by
  obtain ⟨tables, trackers, -, payout⟩ := h
  have margin : followerMargin t = followerMargin s := by rw [followerMargin, shaftRow, tables]; rfl
  simp only [IsRebased, StartsHere, HeadsForStop, CarriesItsPlan, EndsAsPlanned, Claims, tracker, stations, zoneList,
    compartmentRow, margin, tables, trackers, payout]
  rfl

theorem SameGround.meetsHold {s t : State} (h : SameGround s t) (trip : Trip) : MeetsHold trip t ↔ MeetsHold trip s := by
  obtain ⟨tables, trackers, holders, -⟩ := h
  simp only [MeetsHold, tracker, zoneList, holderOf, tables, trackers, holders]

theorem SameGround.standsAtStop {s t : State} (h : SameGround s t) (trip : Trip) :
    StandsAtStop trip t ↔ StandsAtStop trip s := by
  obtain ⟨tables, trackers, -, -⟩ := h
  simp only [StandsAtStop, tracker, stations, tables, trackers]

/-- A finish with its promotion says the same of a state on the same ground with the same pipeline. -/
theorem FinishesAndPromotes.congr {trip : Trip} {outcome : TripOutcome} {s s' t t' : State}
    (h : FinishesAndPromotes trip outcome s t) (ground : SameGround s s') (before : s'.pipeline = s.pipeline)
    (result : t'.pipeline = t.pipeline) : FinishesAndPromotes trip outcome s' t' := by
  simpa only [FinishesAndPromotes, ground.isRecord, ground.isRebased, ground.meetsHold, ground.standsAtStop, before,
    result] using h

theorem FinishesBoth.on_same_ground {trip : Trip} {outcome : TripOutcome} {cause : Option TripCause} {s s' t t' : State}
    (h : FinishesBoth trip outcome cause s t) (ground : SameGround s s') (before : s'.pipeline = s.pipeline)
    (result : t'.pipeline = t.pipeline) : FinishesBoth trip outcome cause s' t' := by
  simpa only [FinishesBoth, ground.isRecord, before, result] using h

/-! ### The finish at rest (R83, R84) -/

theorem finishActive_pipeline {trip : Trip} {s : State} (outcome : TripOutcome) (cause : Option TripCause)
    (active : s.pipeline.active = some trip) :
    (finishActive outcome cause s).pipeline
      = { active := none, waiting := s.pipeline.waiting,
          history := (historyRecord trip outcome cause s :: s.pipeline.history).take 2 } := by
  simp [finishActive, active, placeRecord, endStop, setActive, Config.historyRecords]

/-- The finish of the active trip stands on the ground before it. -/
theorem finishActive_ground (outcome : TripOutcome) (cause : Option TripCause) (s : State) :
    SameGround s (finishActive outcome cause s) := .of_drums (by simp) (by simp) (by simp) (by simp)

/-- A finish and the promotion behind it, as the statements say them. -/
theorem promote_finishes {trip : Trip} (outcome : TripOutcome) {s : State} (active : s.pipeline.active = some trip) :
    FinishesAndPromotes trip outcome s (promote (finishActive outcome none s)) := by
  have first := finishActive_pipeline outcome none active
  have ground := finishActive_ground outcome none s
  refine ⟨promote_waiting _, historyRecord trip outcome none s, historyRecord_isRecord _ _ _ s, fun alone => ?_,
    fun w waits => ?_⟩
  · have unchanged : promote (finishActive outcome none s) = finishActive outcome none s := by
      simp [promote, alone]
    rw [unchanged, first]
    exact ⟨rfl, rfl⟩
  · have based := (ground.isRebased _ _).mp (rebased_isRebased w (finishActive outcome none s))
    refine ⟨rebased w (finishActive outcome none s), based, ?_⟩
    generalize rebased_is : rebased w (finishActive outcome none s) = b
    have waiting : (finishActive outcome none s).pipeline.waiting = some w := by rw [first]; exact waits
    have held : heldAgainst b (setActive (some b) (setWaiting none (finishActive outcome none s))) ≠ [] ↔ MeetsHold b s := by
      have iff := heldAgainst_eq_nil_iff b (setActive (some b) (setWaiting none (finishActive outcome none s)))
      have same : MeetsHold b (setActive (some b) (setWaiting none (finishActive outcome none s))) ↔ MeetsHold b s :=
        ground.meetsHold b
      rw [ne_eq, iff, same, not_not]
    have there : withinWindow b (setActive (some b) (setWaiting none (finishActive outcome none s))) = true ↔ StandsAtStop b s :=
      (withinWindow_iff b _).trans (ground.standsAtStop b)
    have second (o : TripOutcome) (c : Option TripCause) :
        (finishActive o c (setActive (some b) (setWaiting none (finishActive outcome none s)))).pipeline
          = { active := none, waiting := none,
              history := [historyRecord b o c s, historyRecord trip outcome none s] } := by
      rw [finishActive_pipeline (trip := b) o c rfl]
      have same : historyRecord b o c (setActive (some b) (setWaiting none (finishActive outcome none s)))
          = historyRecord b o c s := by
        simp [historyRecord, tracker, stopDepthOf, stations, setActive, setWaiting]
      rw [same]
      simp [setActive, setWaiting, first]
    refine ⟨fun meets => ?_, fun free at_stop => ?_, fun free away => ?_⟩
    · have run : promote (finishActive outcome none s)
          = finishActive .discarded (some .held) (setActive (some b) (setWaiting none (finishActive outcome none s))) := by
        simp only [promote, waiting, rebased_is]
        rw [if_pos (held.mpr meets)]
      rw [run, second]
      exact ⟨rfl, _, historyRecord_isRecord _ _ _ s, rfl⟩
    · have run : promote (finishActive outcome none s)
          = finishActive .landed none (setActive (some b) (setWaiting none (finishActive outcome none s))) := by
        simp only [promote, waiting, rebased_is]
        rw [if_neg (mt held.mp free), if_pos (there.mpr at_stop)]
      rw [run, second]
      exact ⟨rfl, _, historyRecord_isRecord _ _ _ s, rfl⟩
    · have run : promote (finishActive outcome none s)
          = setActive (some b) (setWaiting none (finishActive outcome none s)) := by
        simp only [promote, waiting, rebased_is]
        rw [if_neg (mt held.mp free), if_neg (mt there.mp away)]
      rw [run]
      simp [setActive, setWaiting, first]

/-- Every moving drum is at rest. -/
theorem movingDrumsAtRest_iff (trip : Trip) (s : State) :
    movingDrumsAtRest trip s = true ↔ ∀ x, isMovingDrum trip.movesAll x = true → (channel x s).atRest = true := by
  constructor
  · intro rest x
    cases x <;> cases movesAll : trip.movesAll <;> simp_all [movingDrumsAtRest, isMovingDrum, channel]
  · intro rest
    have skip := rest .skip
    have cage := rest .cage
    cases movesAll : trip.movesAll <;> simp_all [movingDrumsAtRest, isMovingDrum, channel]

section

variable {trip : Trip} {s : State} (active : s.pipeline.active = some trip)

include active

theorem finishAtRest_moving (moving : ¬movingDrumsAtRest trip s = true) : finishAtRest s = s := by
  simp [finishAtRest, active, moving]

/-- No trip but one in SETTLING or STOPPING finishes at rest. -/
theorem finishAtRest_other (settling : trip.state ≠ .settling) (stopping : trip.state ≠ .stopping) : finishAtRest s = s := by
  unfold finishAtRest
  simp only [active]
  split
  · cases state : trip.state with
    | settling => exact absurd state settling
    | stopping => exact absurd state stopping
    | _ => rfl
  · rfl

theorem finishAtRest_stopping (rest : movingDrumsAtRest trip s = true) (stopping : trip.state = .stopping) :
    finishAtRest s = finishBoth .aborted trip.cause s := by
  simp [finishAtRest, active, rest, stopping]

/-- A trip in SETTLING lands, completes, or is off its station, with the promotion behind the first two (R83). -/
theorem finishAtRest_settling (rest : movingDrumsAtRest trip s = true) (settling : trip.state = .settling) :
    finishAtRest s = (if settledOutcome trip s = .offStation then finishBoth .offStation none s
      else promote (finishActive (settledOutcome trip s) none s)) := by
  unfold finishAtRest
  simp only [active, rest, settling, if_true]
  cases settledOutcome trip s <;> rfl

theorem finishAtRest_settled (rest : movingDrumsAtRest trip s = true) (settling : trip.state = .settling) :
    FinishesSettled trip s (finishAtRest s) := by
  rw [finishAtRest_settling active rest settling]
  refine ⟨fun ⟨length, kind⟩ => ?_, fun k st kind there => ⟨fun stands => ?_, fun away => ?_⟩⟩
  · have outcome : settledOutcome trip s = .completed := by simp [settledOutcome, kind]
    rw [outcome]
    exact promote_finishes _ active
  · have outcome : settledOutcome trip s = .landed := by simp [settledOutcome, kind, (withinWindow_iff trip s).mpr stands]
    rw [outcome]
    exact promote_finishes _ active
  · have outcome : settledOutcome trip s = .offStation := by
      simp [settledOutcome, kind, Bool.eq_false_iff.mpr (mt (withinWindow_iff trip s).mp away)]
    rw [outcome]
    exact finishBoth_finishes trip _ _ s active

/-- A finish at rest ends the watch and the stop record. -/
theorem finishAtRest_ends (rest : movingDrumsAtRest trip s = true) (ends : trip.state = .settling ∨ trip.state = .stopping) :
    (finishAtRest s).guard.watch = none ∧ (finishAtRest s).guard.stop = none := by
  have both (o : TripOutcome) (c : Option TripCause) :
      (finishBoth o c s).guard.watch = none ∧ (finishBoth o c s).guard.stop = none := by
    simp [finishBoth_guard, active]
  obtain settling | stopping := ends
  · rw [finishAtRest_settling active rest settling]
    split
    · exact both _ _
    · exact promote_guard (by simp [finishActive_guard, active]) (by simp [finishActive_guard, active])
  · rw [finishAtRest_stopping active rest stopping]
    exact both _ _

end

theorem FinishesSettled.congr {trip : Trip} {s s' t t' : State} (h : FinishesSettled trip s t) (ground : SameGround s s')
    (before : s'.pipeline = s.pipeline) (result : t'.pipeline = t.pipeline) : FinishesSettled trip s' t' := by
  obtain ⟨travels, arrives⟩ := h
  have stations_same : stations s' = stations s := by rw [stations, ground.1]; rfl
  refine ⟨fun kind => (travels kind).congr ground before result, fun k st kind there => ?_⟩
  obtain ⟨lands, misses⟩ := arrives k st kind (stations_same ▸ there)
  exact ⟨fun stands => (lands ((ground.standsAtStop trip).mp stands)).congr ground before result,
    fun away => (misses (mt (ground.standsAtStop trip).mpr away)).on_same_ground ground before result⟩

/-! ### The rest timer (R44, R45) -/

/-- The drum stands at rest, with what that means for the winder. -/
def cameToRest (d : Drum) (s : State) : State := noteRest (winderAtRest s) (setChannel d { channel d s with atRest := true } s)

theorem expireRestTimer_runs {d : Drum} {s : State} (runs : (channel d s).restTimer ≠ none)
    (moving : (channel d s).atRest = false) : expireRestTimer d s = handOn (finishAtRest (cameToRest d s)) := by
  have some : (channel d s).restTimer.isSome = true := Option.isSome_iff_ne_none.mpr runs
  simp [expireRestTimer, some, moving, cameToRest]

theorem expireRestTimer_idle {d : Drum} {s : State} (idle : (channel d s).restTimer = none ∨ (channel d s).atRest = true) :
    expireRestTimer d s = s := by
  obtain stopped | rests := idle
  · simp [expireRestTimer, stopped]
  · simp [expireRestTimer, rests]

theorem cameToRest_monitored (d : Drum) (s : State) :
    monitored (cameToRest d s) = monitored (setChannel d { channel d s with atRest := true } s) := monitored_noteRest _ _

theorem cameToRest_atRest (d x : Drum) (s : State) :
    (channel x (cameToRest d s)).atRest = true ↔ x = d ∨ (channel x s).atRest = true := by
  rw [channel_of_monitored (cameToRest_monitored d s)]
  by_cases same : x = d
  · subst same; simp [channel_setChannel_same]
  · rw [channel_setChannel_other _ _ same]; simp [same]

theorem noteRest_ground (before : Bool) (s : State) : SameGround s (noteRest before s) := by
  unfold noteRest; split
  · exact ⟨rfl, rfl, rfl, fun d => by cases d <;> rfl⟩
  · exact ⟨rfl, rfl, rfl, fun _ => rfl⟩

theorem cameToRest_ground (d : Drum) (s : State) : SameGround s (cameToRest d s) := by
  refine .trans ⟨by simp, by simp, by simp, fun x => ?_⟩ (noteRest_ground _ _)
  by_cases same : x = d
  · subst same; rw [channel_setChannel_same]
  · rw [channel_setChannel_other _ _ same]

theorem cameToRest_pipeline (d : Drum) (s : State) : (cameToRest d s).pipeline = s.pipeline := by
  simp [cameToRest]

/-- Settles O24: the finish at rest, from the ground as the last drum finds it. -/
theorem restFinishesTheTrip : Obligations.RestFinishesTheTrip := by
  intro s d trip runs moving active last
  have ground := (cameToRest_ground d s).symm
  have pipeline := cameToRest_pipeline d s
  have active' : (cameToRest d s).pipeline.active = some trip := by rw [pipeline, active]
  have rests : movingDrumsAtRest trip (cameToRest d s) = true ↔ last := by
    simp only [movingDrumsAtRest_iff, isMovingDrum, cameToRest_atRest, Bool.or_eq_true, decide_eq_true_eq, last]
  refine ⟨_, completes_of rfl (expireRestTimer_runs runs moving), ?_, ?_, fun others => ?_, fun rest => ?_⟩
  · simp [cameToRest]
  · simp [cameToRest]
  · rw [handOn_pipeline, finishAtRest_moving active' (mt rests.mp others), pipeline]
  · have rest := rests.mpr rest
    have settled (settling : trip.state = .settling) : FinishesSettled trip s (handOn (finishAtRest (cameToRest d s))) :=
      (finishAtRest_settled active' rest settling).congr ground pipeline.symm (handOn_pipeline _)
    refine ⟨fun settling => (settled settling).1, fun k st kind there settling => (settled settling).2 k st kind there,
      fun stopping => ?_, fun ends => ?_, fun onward => ?_⟩
    · have finish := finishBoth_finishes trip .aborted trip.cause _ active'
      rw [← finishAtRest_stopping active' rest stopping] at finish
      exact finish.on_same_ground ground pipeline.symm (handOn_pipeline _)
    · rw [handOn_guard]
      exact finishAtRest_ends active' rest ends
    · have unfinished : finishAtRest (cameToRest d s) = cameToRest d s := by
        refine finishAtRest_other active' ?_ ?_ <;> (obtain h | h | h := onward <;> simp [h])
      rw [handOn_pipeline, unfinished, pipeline]

/-! ### What a reported cause does, with and without a trip in the pipeline (R135 to R138) -/

/-- A reported cause is in the cause set of a part that then stands in TRIPPED. -/
theorem reports_reportCause (c : Cause) (s : State) : Reports c s (reportCause c s) := by
  intro tables
  obtain ⟨noTables, -⟩ | ⟨takes, -⟩ | ⟨tripped, added⟩ := reportCause_cases c s
  · exact absurd noTables tables
  · obtain ⟨protection, -⟩ := reportCause_trips c takes
    exact ⟨by rw [protection], (causePresent_of_first (congrArg _ protection)).mpr rfl⟩
  · rw [added]
    exact ⟨tripped, by simp [causePresent_addCause]⟩

theorem reportCause_first {c : Cause} {s : State} (takes : TakesCauses s) :
    (reportCause c s).protection.state = .tripped ∧ (reportCause c s).protection.firstCause = some c
      ∧ (reportCause c s).protection.chainClosed = false := by
  rw [(reportCause_trips c takes).1]
  exact ⟨rfl, rfl, rfl⟩

/-- What a cause makes of the protection state depends on that state alone. -/
theorem reportCause_protection_congr (c : Cause) {s t : State} (same : t.protection = s.protection) :
    (reportCause c t).protection = (reportCause c s).protection := by
  obtain ⟨noTables, unchanged⟩ | ⟨takes, -⟩ | ⟨tripped, added⟩ := reportCause_cases c s
  · rw [unchanged, reportCause_noTables c (same ▸ noTables), same]
  · have takes' : TakesCauses t := by rwa [TakesCauses, same]
    rw [(reportCause_trips c takes).1, (reportCause_trips c takes').1, same]
  · rw [added, reportCause_tripped c (same ▸ tripped), addCause, addCause, same]

/-- The pipeline after a cause taken is that of the finish of both trips. -/
theorem reportCause_pipeline_taken {c : Cause} {s : State} (takes : TakesCauses s) :
    (reportCause c s).pipeline
        = (finishBoth .tripped (some (.protective c)) (placeDemand partDemand (openChain c s))).pipeline := by
  rw [reportCause_eq_abandon takes]
  simp [tripMade, beginEcho]

/-- A protective trip finishes the active trip TRIPPED with its cause (R90). -/
theorem reportCause_finishes {c : Cause} {s : State} {trip : Trip} (takes : TakesCauses s)
    (active : s.pipeline.active = some trip) :
    FinishesBoth trip .tripped (some (.protective c)) s (reportCause c s) := by
  have before : (placeDemand partDemand (openChain c s)).pipeline = s.pipeline := by simp [openChain]
  refine (finishBoth_finishes trip .tripped (some (.protective c)) _ (by rw [before]; exact active)).on_same_ground
    (.of_drums ?_ ?_ ?_ ?_) before.symm (reportCause_pipeline_taken takes) <;> simp [openChain]

/-- With both slots empty no trip finishes. -/
theorem finishBoth_of_empty {o : TripOutcome} {c : Option TripCause} {s : State} (active : s.pipeline.active = none)
    (waiting : s.pipeline.waiting = none) : finishBoth o c s = s := by
  simp [finishBoth, finishActive, finishWaiting, active, waiting]

/-- A cause leaves an empty pipeline as it is, with its history. -/
theorem reportCause_of_empty (c : Cause) {s : State} (active : s.pipeline.active = none)
    (waiting : s.pipeline.waiting = none) : (reportCause c s).pipeline = s.pipeline := by
  obtain ⟨-, unchanged⟩ | ⟨takes, -⟩ | ⟨-, added⟩ := reportCause_cases c s
  · rw [unchanged]
  · have before : (placeDemand partDemand (openChain c s)).pipeline = s.pipeline := by simp [openChain]
    rw [reportCause_pipeline_taken takes, finishBoth_of_empty (by rw [before, active]) (by rw [before, waiting]), before]
  · rw [added]; rfl

/-- With no commitment open, a cause leaves the tables as they are. -/
theorem reportCause_tables_of_closed (c : Cause) {s : State} (closed : commitmentOpen s = false) :
    (reportCause c s).tables = s.tables := by
  obtain ⟨-, unchanged⟩ | ⟨takes, -⟩ | ⟨-, added⟩ := reportCause_cases c s
  · rw [unchanged]
  · rw [reportCause_eq_abandon takes, abandon_closed ((commitmentOpen_congr (tripMade_tables c s)).trans closed),
      tripMade_tables]
  · rw [added]; rfl

theorem reportIf_false (c : Cause) (s : State) : reportIf false c s = s := rfl

theorem reportIf_true (c : Cause) (s : State) : reportIf true c s = reportCause c s := rfl

/-! ### The abandonment of an open commitment (R28, R29) -/

/-- The open commitment of a state is abandoned with a reason: its banks back in LOADING, the result and VALID. -/
def Abandoned (reason : AbandonReason) (s t : State) : Prop :=
  t.tables.result = .abandoned (openSet s) reason ∧ flagSet .valid t = true
    ∧ (∀ b, bank b t = { bank b s with state := .loading }) ∧ t.tables.markers = s.tables.markers

theorem Abandoned.closed {reason : AbandonReason} {s t : State} (h : Abandoned reason s t) : commitmentOpen t = false :=
  closed_of_loading fun b => by rw [h.2.2.1 b]

/-- An abandonment stands while the tables stay and no flag is cleared. -/
theorem Abandoned.keep {k : Nat} {reason : AbandonReason} {s t u : State} (h : Abandoned reason s t)
    (tables : u.tables = t.tables) (later : Notified k t u) (low : k ≤ 1) : Abandoned reason s u := by
  obtain ⟨result, valid, banks, records⟩ := h
  exact ⟨by rw [tables, result], later.flagSet low valid, fun b => by rw [bank_congr b tables, banks b], by rw [tables, records]⟩

theorem Abandoned.of_tables {reason : AbandonReason} {s s' t : State} (h : Abandoned reason s' t)
    (tables : s'.tables = s.tables) : Abandoned reason s t := by
  obtain ⟨result, valid, banks, records⟩ := h
  exact ⟨by rw [result, openSet_congr tables], valid, fun b => by rw [banks b, bank_congr b tables], by rw [records, tables]⟩

theorem Abandoned.handOn {reason : AbandonReason} {s t : State} (h : Abandoned reason s t) : Abandoned reason s (handOn t) := by
  obtain ⟨result, valid, banks, records⟩ := h
  have tables := handOn_tables t
  exact ⟨by rw [tables, result], flagSet_handOn_of_set valid, fun b => by rw [bank_congr b tables, banks b],
    by rw [tables, records]⟩

theorem abandonByMotion_abandons {s : State} (state : s.protection.state ≠ .noTables) (opened : commitmentOpen s = true) :
    Abandoned .motion s (abandonByMotion s) := by
  rw [abandonByMotion, if_neg state]
  exact abandon_opened opened

theorem abandonByMotion_ground (s : State) : SameGround s (abandonByMotion s) := by
  have rows : (abandonByMotion s).tables.shaft.active = s.tables.shaft.active := by
    rw [abandonByMotion]; split
    · rfl
    · exact congrArg (·.2.1) (leftAlone_abandon s .motion)
  exact ⟨rows, by simp, by simp, fun d => by rw [channel_congr d (abandonByMotion_drums s)]⟩

/-- A protective trip abandons an open commitment with reason TRIP (R28). -/
theorem reportCause_abandons {c : Cause} {s : State} (takes : TakesCauses s) (opened : commitmentOpen s = true) :
    Abandoned .trip s (reportCause c s) := by
  rw [reportCause_eq_abandon takes]
  have opened' : commitmentOpen (tripMade c s) = true := (commitmentOpen_congr (tripMade_tables c s)).trans opened
  exact Abandoned.of_tables (abandon_opened opened') (tripMade_tables c s)

/-! ### The loss of a lock (R38, R46, R89) -/

theorem pipelineLoss_of_active {s : State} {trip : Trip} (active : s.pipeline.active = some trip) :
    pipelineLoss s = if trip.state = .waiting then finishBoth .aborted (some .notReady) s else s := by
  simp [pipelineLoss, active]

theorem pipelineLoss_idle {s : State} (idle : ¬∃ trip, s.pipeline.active = some trip ∧ trip.state = .waiting) :
    pipelineLoss s = s := by
  unfold pipelineLoss; split
  · rfl
  · next trip active => exact if_neg fun waiting => idle ⟨trip, active, waiting⟩

/-- A loss is taken in one of two orders: the pipeline and the Table Store first, or, where a WAITING trip and a raised
SAMPLE meet, the cause first; but for the free choice made there. -/
theorem takeLoss_orders (raises : Bool) (s : State) :
    ∃ u, u.tables = s.tables ∧ u.protection = s.protection ∧ u.pipeline = s.pipeline ∧ SameGround s u ∧ Reaches 1 s u
      ∧ (takeLoss raises s = reportIf raises .sample (abandonByMotion (pipelineLoss u))
        ∨ (raises = true ∧ ∃ trip, s.pipeline.active = some trip ∧ trip.state = .waiting)
          ∧ takeLoss raises s = pipelineLoss (abandonByMotion (reportCause .sample u))) := by
  obtain plain | ⟨raised, waits, orders⟩ := takeLoss_cases raises (s := s)
  · exact ⟨s, rfl, rfl, rfl, .of_drums rfl rfl rfl rfl, .refl s, .inl plain⟩
  · refine ⟨{ s with freeCount := s.freeCount + 1 }, rfl, rfl, rfl, .of_drums rfl rfl rfl rfl, .chooseFreely s (Nat.le_refl 1), ?_⟩
    obtain ⟨trip, active, state⟩ := Option.map_eq_some_iff.mp waits
    obtain first | second := orders
    · exact .inl (by rw [first, raised, reportIf_true])
    · exact .inr ⟨⟨raised, trip, active, state⟩, second⟩

/-- The protection state after a loss is that after the cause alone. -/
theorem takeLoss_protection (raises : Bool) (s : State) :
    (takeLoss raises s).protection = (reportIf raises .sample s).protection := by
  obtain ⟨u, -, protection, -, -, -, first | ⟨⟨raised, -⟩, second⟩⟩ := takeLoss_orders raises s
  · rw [first]
    cases raises
    · simpa [reportIf_false] using protection
    · exact reportCause_protection_congr _ (by simpa using protection)
  · rw [second, raised, reportIf_true]
    simpa using reportCause_protection_congr .sample protection

section

variable {raises : Bool} {s : State} {trip : Trip} (active : s.pipeline.active = some trip)

include active

theorem pipelineLoss_aborts (waiting : trip.state = .waiting) : FinishesBoth trip .aborted (some .notReady) s (pipelineLoss s) := by
  rw [pipelineLoss_of_active active, if_pos waiting]
  exact finishBoth_finishes trip _ _ s active

/-- A WAITING trip finishes ABORTED at a loss, or with the protective trip where the cause came first. -/
theorem takeLoss_waiting (waiting : trip.state = .waiting) :
    FinishesBoth trip .aborted (some .notReady) s (takeLoss raises s)
      ∨ (raises = true ∧ (TakesCauses s → FinishesBoth trip .tripped (some (.protective .sample)) s (takeLoss raises s))) := by
  obtain ⟨u, -, protection, pipeline, ground, -, first | ⟨⟨raised, -⟩, second⟩⟩ := takeLoss_orders raises s
  · left
    have active' : u.pipeline.active = some trip := by rw [pipeline, active]
    obtain ⟨noActive, noWaiting, -⟩ := pipelineLoss_aborts active' waiting
    refine (pipelineLoss_aborts active' waiting).on_same_ground ground.symm pipeline.symm ?_
    rw [first, ← abandonByMotion_pipeline (s := pipelineLoss u)]
    cases raises
    · rfl
    · exact reportCause_of_empty _ (by simpa using noActive) (by simpa using noWaiting)
  · refine .inr ⟨raised, fun takes => ?_⟩
    have takes' : TakesCauses u := by rwa [TakesCauses, protection]
    have finish := reportCause_finishes (c := .sample) takes' (trip := trip) (by rw [pipeline, active])
    refine finish.on_same_ground ground.symm pipeline.symm ?_
    rw [second, pipelineLoss_idle, abandonByMotion_pipeline]
    rw [abandonByMotion_pipeline, finish.1]
    simp

/-- A trip under way finishes with the protective trip that a loss takes. -/
theorem takeLoss_underWay (away : trip.state ≠ .waiting) (raised : raises = true) (takes : TakesCauses s) :
    FinishesBoth trip .tripped (some (.protective .sample)) s (takeLoss raises s) := by
  have idle : ¬∃ x, s.pipeline.active = some x ∧ x.state = .waiting := by
    rintro ⟨x, is, waits⟩
    cases active.symm.trans is
    exact away waits
  obtain ⟨u, -, protection, pipeline, ground, -, first | ⟨⟨-, waits⟩, -⟩⟩ := takeLoss_orders raises s
  · have takes' : TakesCauses (abandonByMotion u) := by rwa [TakesCauses, abandonByMotion_protection, protection]
    rw [first, pipelineLoss_idle (by rwa [pipeline]), raised, reportIf_true]
    have finish := reportCause_finishes (c := .sample) takes' (trip := trip) (by rw [abandonByMotion_pipeline, pipeline, active])
    have same : s.pipeline = (abandonByMotion u).pipeline := by rw [abandonByMotion_pipeline, pipeline]
    exact finish.on_same_ground (ground.trans (abandonByMotion_ground u)).symm same rfl
  · exact absurd waits idle

end

/-- Where no trip waits, a loss that raises nothing leaves the pipeline. -/
theorem takeLoss_unraised {s : State} (idle : ¬∃ trip, s.pipeline.active = some trip ∧ trip.state = .waiting) :
    (takeLoss false s).pipeline = s.pipeline := by
  obtain ⟨u, -, -, pipeline, -, -, first | ⟨⟨raised, -⟩, -⟩⟩ := takeLoss_orders false s
  · rw [first, reportIf_false, abandonByMotion_pipeline, pipelineLoss_idle (by rwa [pipeline]), pipeline]
  · cases raised

theorem takeLoss_tables {raises : Bool} {s : State} (kept : s.protection.state = .noTables ∨ commitmentOpen s = false) :
    (takeLoss raises s).tables = s.tables := by
  have cause (u : State) (same : u.tables = s.tables) (protection : u.protection = s.protection) :
      (reportCause .sample u).tables = s.tables := by
    obtain noTables | closed := kept
    · rw [reportCause_noTables _ (by rw [protection, noTables]), same]
    · rw [reportCause_tables_of_closed _ ((commitmentOpen_congr same).trans closed), same]
  have store (u : State) (same : u.tables = s.tables) (protection : u.protection = s.protection) :
      abandonByMotion u = u :=
    abandonByMotion_of_none _ (by rwa [protection, commitmentOpen_congr same])
  obtain ⟨u, tables, protection, -, -, -, first | ⟨-, second⟩⟩ := takeLoss_orders raises s
  · have tables' : (pipelineLoss u).tables = s.tables := by simpa using tables
    have protection' : (pipelineLoss u).protection = s.protection := by simpa using protection
    rw [first, store _ tables' protection']
    cases raises
    · exact tables'
    · exact cause _ tables' protection'
  · have same := cause u tables protection
    have kept' : abandonByMotion (reportCause .sample u) = reportCause .sample u := by
      obtain noTables | closed := kept
      · refine abandonByMotion_of_none _ (.inl ?_)
        rw [reportCause_noTables _ (by rw [protection, noTables]), protection, noTables]
      · exact abandonByMotion_of_none _ (.inr ((commitmentOpen_congr same).trans closed))
    rw [second, pipelineLoss_tables, kept', same]

/-- An open commitment is abandoned at a loss, by the movement unless the cause came first. -/
theorem takeLoss_abandons {raises : Bool} {s : State} (state : s.protection.state ≠ .noTables)
    (opened : commitmentOpen s = true) :
    Abandoned .motion s (takeLoss raises s)
      ∨ (raises = true ∧ ∃ trip, s.pipeline.active = some trip ∧ trip.state = .waiting)
        ∧ Abandoned .trip s (takeLoss raises s) := by
  obtain ⟨u, tables, protection, -, -, -, first | ⟨waits, second⟩⟩ := takeLoss_orders raises s
  · left
    have tables' : (pipelineLoss u).tables = s.tables := by simpa using tables
    have abandoned : Abandoned .motion s (abandonByMotion (pipelineLoss u)) :=
      (abandonByMotion_abandons (by simpa [protection] using state)
        ((commitmentOpen_congr tables').trans opened)).of_tables tables'
    rw [first]
    cases raises
    · exact abandoned
    · exact abandoned.keep (reportCause_tables_of_closed _ abandoned.closed) (Reaches.reportCause (k := 0) _ _).notified (Nat.zero_le 1)
  · have opened' : commitmentOpen u = true := (commitmentOpen_congr tables).trans opened
    obtain ⟨noTables, -⟩ | ⟨takes, -⟩ | ⟨tripped, added⟩ := reportCause_cases .sample u
    · exact absurd (by rw [← protection, noTables]) state
    · have abandoned := (reportCause_abandons (c := .sample) takes opened').of_tables tables
      refine .inr ⟨waits, ?_⟩
      rw [second, abandonByMotion_of_none _ (.inr abandoned.closed)]
      exact abandoned.keep (by simp) (reaches_pipelineLoss (Nat.le_refl 1) _).notified (Nat.le_refl 1)
    · left
      have same : (reportCause .sample u).tables = s.tables := by rw [added]; exact tables
      have tripped' : (reportCause .sample u).protection.state ≠ .noTables := by rw [added, addCause, tripped]; decide
      have abandoned := (abandonByMotion_abandons tripped' ((commitmentOpen_congr same).trans opened)).of_tables same
      rw [second]
      exact abandoned.keep (by simp) (reaches_pipelineLoss (Nat.le_refl 1) _).notified (Nat.le_refl 1)

theorem leftAlone_setChannel (d : Drum) (ch : Channel) (s : State) : leftAlone (setChannel d ch s) = leftAlone s := by
  cases d <;> rfl

theorem tripMoving_of_pipeline {s t : State} (same : t.pipeline = s.pipeline) : tripMoving t = tripMoving s := by
  simp only [tripMoving, same]

/-- What a LOCKED channel's loss brings, whatever else its sample or its watch wrote to the channel. -/
theorem loseLock_follows (d : Drum) (s : State) {ch : Channel} (rest : ch.atRest = (channel d s).atRest)
    (payout : ch.payout = (channel d s).payout) :
    LossFollows d s (loseLock d (setChannel d ch s)) ∧ channel d (loseLock d (setChannel d ch s)) = ch.lockLost := by
  have left : leftAlone (loseLock d (setChannel d ch s)) = leftAlone s :=
    (leavesAlone_iff.mp (ends_loseLock (Nat.le_refl 1) d _).leavesAlone).trans (leftAlone_setChannel d ch s)
  generalize lost_is : setChannel d ch.lockLost s = lost
  have tables : lost.tables = s.tables := by rw [← lost_is]; simp
  have protection : lost.protection = s.protection := by rw [← lost_is]; simp
  have pipeline : lost.pipeline = s.pipeline := by rw [← lost_is]; simp
  have trackers : lost.trackers = s.trackers := by rw [← lost_is]; simp
  have moves : tripMoving (setChannel d ch s) = tripMoving s := tripMoving_of_pipeline (by simp)
  generalize raises_is : (tripMoving s || !(channel d s).atRest) = raises
  have run : loseLock d (setChannel d ch s) = handOn (takeLoss raises lost) := by
    rw [loseLock, channel_setChannel_same, setChannel_setChannel, lost_is, lossRaisesSample, moves, rest, raises_is]
  have raises_iff : tripMoving s = true ∨ (channel d s).atRest = false ↔ raises = true := by
    rw [← raises_is]; simp
  have same : monitored (handOn (takeLoss raises lost)) = monitored lost := by
    rw [monitored_handOn, monitored_takeLoss]
  have ground : SameGround lost s := by
    refine ⟨by rw [tables], trackers.symm, by rw [← lost_is]; simp, fun x => ?_⟩
    rw [← lost_is]
    by_cases own : x = d
    · subst own; rw [channel_setChannel_same]; exact payout.symm
    · rw [channel_setChannel_other _ _ own]
  rw [run] at left ⊢
  have cause : (handOn (takeLoss raises lost)).protection = (reportIf raises .sample lost).protection := by
    rw [handOn_protection, takeLoss_protection]
  have cause_same := reportCause_protection_congr .sample protection
  have finishes {trip : Trip} {o : TripOutcome} {c : Option TripCause} (h : FinishesBoth trip o c lost (takeLoss raises lost)) :
      FinishesBoth trip o c s (handOn (takeLoss raises lost)) := h.on_same_ground ground pipeline.symm (handOn_pipeline _)
  have waiting_moves {trip : Trip} (active : s.pipeline.active = some trip) (waits : trip.state = .waiting) :
      tripMoving s = false := by simp [tripMoving, active, waits, TripState.isMoving]
  have takes_lost (takes : TakesCauses s) : TakesCauses lost := by rwa [TakesCauses, protection]
  have abandons {reason : AbandonReason} (h : Abandoned reason lost (takeLoss raises lost)) :
      Abandoned reason s (handOn (takeLoss raises lost)) := (h.of_tables tables).handOn
  refine ⟨⟨?other, ?trackers, leavesAlone_iff.mpr left, fun takes raised => ?takes, fun tripped raised => ?joins, ?unraised,
    fun quiet idle => ?pipeline, fun trip active => ⟨fun takes moving => ?underWay, fun waits still => ?waiting,
    fun takes waits moving => ?either⟩, fun kept => ?kept, fun state opened => ?abandoned⟩, ?channel⟩
  case other => rw [channel_of_monitored same, ← lost_is, channel_setChannel_other _ _ (otherDrum_ne d)]
  case channel => rw [channel_of_monitored same, ← lost_is, channel_setChannel_same]
  case trackers =>
    rw [← run]; simp
  case takes =>
    rw [cause, raises_iff.mp raised, reportIf_true, cause_same]
    exact reportCause_first takes
  case joins =>
    have present := (reports_reportCause .sample s (by rw [tripped]; decide)).2
    rw [causePresent, cause, raises_iff.mp raised, reportIf_true, cause_same]
    exact present
  case unraised =>
    rintro (quiet | noTables)
    · rw [cause, Bool.eq_false_iff.mpr (mt raises_iff.mpr quiet), reportIf_false, protection]
    · have unchanged : reportIf raises .sample lost = lost := by
        cases raises
        · rfl
        · exact reportCause_noTables _ (by rw [protection, noTables])
      rw [cause, unchanged, protection]
  case pipeline =>
    rw [handOn_pipeline, Bool.eq_false_iff.mpr (mt raises_iff.mpr quiet), takeLoss_unraised (by rwa [pipeline]), pipeline]
  case underWay =>
    refine finishes (takeLoss_underWay (by rw [pipeline, active]) (fun waits => ?_) (raises_iff.mp (.inl moving)) (takes_lost takes))
    rw [waiting_moves active waits] at moving
    cases moving
  case waiting =>
    obtain aborts | ⟨raised, -⟩ := takeLoss_waiting (raises := raises) (s := lost) (by rw [pipeline, active]) waits
    · exact finishes aborts
    · have calm := raises_iff.mpr raised
      simp [waiting_moves active waits, still] at calm
  case either =>
    obtain aborts | ⟨-, trips⟩ := takeLoss_waiting (raises := raises) (s := lost) (by rw [pipeline, active]) waits
    · exact .inl (finishes aborts)
    · exact .inr (finishes (trips (takes_lost takes)))
  case kept =>
    rw [handOn_tables, takeLoss_tables (by rwa [protection, commitmentOpen_congr tables]), tables]
  case abandoned =>
    have motion_or := takeLoss_abandons (raises := raises) (by rwa [protection]) ((commitmentOpen_congr tables).trans opened)
    obtain motion | ⟨⟨raised, trip, active, waits⟩, onTrip⟩ := motion_or
    · obtain ⟨result, valid, banks, records⟩ := abandons motion
      exact ⟨banks, records, valid, .inl result, fun _ => result⟩
    · obtain ⟨result, valid, banks, records⟩ := abandons onTrip
      refine ⟨banks, records, valid, .inr result, fun calm => ?_⟩
      rw [pipeline] at active
      have moved := raises_iff.mpr raised
      rw [waiting_moves active waits] at moved
      exact absurd ⟨⟨trip, active, waits⟩, by simpa using moved⟩ calm

end Sys2Proof.Machine

/-! PROOF. The drum timers, and lock and sample watch at a sample (chapter 3). -/

namespace Sys2Proof.Machine

/-! ### The drum timers (R39, R44, R45) -/

theorem winderAtRest_iff (d : Drum) (s : State) :
    winderAtRest s = ((channel d s).atRest && (channel (otherDrum d) s).atRest) := by
  cases d
  · rfl
  · exact Bool.and_comm _ _

/-- The drift accumulator as the winder's second drum comes to rest (R45, R49). -/
theorem cameToRest_drift {d : Drum} {s : State} (moving : (channel d s).atRest = false) :
    (cameToRest d s).drums.drift = if (channel (otherDrum d) s).atRest then 0 else s.drums.drift := by
  have before : winderAtRest s = false := by rw [winderAtRest_iff d, moving]; rfl
  have after : winderAtRest (setChannel d { channel d s with atRest := true } s) = (channel (otherDrum d) s).atRest := by
    rw [winderAtRest_iff d, channel_setChannel_same, channel_setChannel_other _ _ (otherDrum_ne d)]; rfl
  rw [cameToRest, noteRest, before, after]
  cases (channel (otherDrum d) s).atRest
  · simp
  · rfl

/-- Settles O23: the branches of the two timers, the loss as `loseLock_follows` has it. -/
theorem drumTimersExpire : Obligations.DrumTimersExpire := by
  refine fun s d => ⟨fun stopped => ?stopped, fun runs unlocked => ?unlocked,
    fun runs locked => ⟨_, completes_of rfl rfl, ?lost⟩, fun idle => completes_of rfl (expireRestTimer_idle idle),
    fun runs moving => ⟨_, completes_of rfl (expireRestTimer_runs runs moving), ?rested⟩⟩
  case stopped => exact completes_of rfl (by simp [expireSampleWatch, stopped])
  case unlocked =>
    refine completes_of rfl ?_
    have some : (channel d s).watchTimer.isNone = false :=
      Option.isNone_eq_false_iff.mpr (Option.isSome_iff_ne_none.mpr runs)
    rw [expireSampleWatch, some, if_neg Bool.false_ne_true]
    dsimp only
    rw [channel_setChannel_same]
    cases lock : (channel d s).lock with
    | locked => exact absurd lock unlocked
    | unlocked => simp [setLock]
    | locking k => simp [setLock]
  case lost =>
    have some : (channel d s).watchTimer.isNone = false :=
      Option.isNone_eq_false_iff.mpr (Option.isSome_iff_ne_none.mpr runs)
    have run : expireSampleWatch d s = loseLock d (setChannel d { channel d s with watchTimer := none } s) := by
      rw [expireSampleWatch, some, if_neg Bool.false_ne_true]
      dsimp only
      rw [channel_setChannel_same, locked]
    rw [run]
    obtain ⟨follows, lost⟩ := loseLock_follows d s (ch := { channel d s with watchTimer := none }) rfl rfl
    exact ⟨lost, follows⟩
  case rested =>
    have same : monitored (handOn (finishAtRest (cameToRest d s)))
        = monitored (setChannel d { channel d s with atRest := true } s) := by
      rw [monitored_handOn, monitored_finishAtRest, cameToRest_monitored]
    have leaves := (ends_expireRestTimer (Nat.le_refl 1) d s).leavesAlone
    rw [expireRestTimer_runs runs moving] at leaves
    refine ⟨?_, ?_, ?_, leaves, ?_, ?_⟩
    · rw [channel_of_monitored same, channel_setChannel_same]
    · rw [channel_of_monitored same, channel_setChannel_other _ _ (otherDrum_ne d)]
    · simp [cameToRest]
    · simp [cameToRest]
    · rw [handOn_drums, finishAtRest_drums, cameToRest_drift moving]

/-! ### Lock and sample watch at a sample (R37, R39) -/

/-- What a movement keeps of its channel beside the count: lock, baseline and watch. -/
def KeepsLock (d : Drum) (s t : State) : Prop :=
  (channel d t).lock = (channel d s).lock ∧ (channel d t).baseline = (channel d s).baseline
    ∧ (channel d t).watchTimer = (channel d s).watchTimer

theorem restOn_lock (ch : Channel) (timing : Option TimingRow) :
    (ch.restOn timing).lock = ch.lock ∧ (ch.restOn timing).baseline = ch.baseline
      ∧ (ch.restOn timing).watchTimer = ch.watchTimer := by
  unfold Channel.restOn; (repeat' split) <;> exact ⟨rfl, rfl, rfl⟩

theorem applyMovement_keepsLock (d : Drum) (relock : Bool) (own : Int) (dt : Nat) (s : State) :
    KeepsLock d s (applyMovement d relock own dt s) := by
  unfold applyMovement; split
  · exact ⟨rfl, rfl, rfl⟩
  · dsimp only
    rw [KeepsLock, channel_of_monitored (monitored_handOnMovement _ _ _ _ _ _ _), channel_setChannel_same]
    exact restOn_lock _ _

theorem loseLock_watchTimer (d : Drum) (s : State) : (channel d (loseLock d s)).watchTimer = (channel d s).watchTimer := by
  unfold loseLock
  rw [channel_of_monitored ((monitored_handOn _).trans (monitored_takeLoss _ _)), channel_setChannel_same]
  rfl

theorem setLock_watchTimer (d : Drum) (lock : Lock) (baseline : Option Baseline) (s : State) :
    (channel d (setLock d lock baseline s)).watchTimer = (channel d s).watchTimer := by
  rw [setLock, channel_setChannel_same]

/-- No judgement of a sample moves the watch. -/
theorem judgeSample_watchTimer (d : Drum) (r : DrumRow) (x : Sample) (own : Int) (s : State) :
    (channel d (judgeSample d r x own s)).watchTimer = (channel d s).watchTimer := by
  have applied (relock : Bool) (baseline : Option Baseline) (dt : Nat) :
      (channel d (applyMovement d relock own dt (setLock d .locked baseline s))).watchTimer = (channel d s).watchTimer :=
    (applyMovement_keepsLock d relock own dt _).2.2.trans (setLock_watchTimer _ _ _ _)
  unfold judgeSample; dsimp only
  (repeat' split)
  · exact setLock_watchTimer _ _ _ _
  · exact applied _ _ _
  · exact setLock_watchTimer _ _ _ _
  · exact applied _ _ _
  · exact loseLock_watchTimer d s
  · exact setLock_watchTimer _ _ _ _

section

variable {d : Drum} {r : DrumRow} {x : Sample} {own : Int} {s : State}

/-- The baseline that a sample sets. -/
def Sample.baseline (x : Sample) : Option Baseline := some { seq := x.seq, stamp := x.stamp }

theorem judgeSample_unlocked (lock : (channel d s).lock = .unlocked) :
    judgeSample d r x own s = setLock d (.locking 0) x.baseline s := by
  simp only [judgeSample, lock]; rfl

theorem judgeSample_noBaseline {k : Nat} (lock : (channel d s).lock = .locking k) (none : (channel d s).baseline = none) :
    judgeSample d r x own s = setLock d (.locking 0) x.baseline s := by
  simp only [judgeSample, lock, none]; rfl

variable {b : Baseline} (based : (channel d s).baseline = some b)

include based

theorem judgeSample_locking {k : Nat} (lock : (channel d s).lock = .locking k) :
    judgeSample d r x own s = if isGood r b x.seq x.stamp = true then
        if k < 3 then setLock d (.locking (k + 1)) x.baseline s
        else applyMovement d true own (stampDifference b x.stamp) (setLock d .locked x.baseline s)
      else setLock d .unlocked none s := by
  simp only [judgeSample, lock, based]; rfl

theorem judgeSample_locked (lock : (channel d s).lock = .locked) :
    judgeSample d r x own s = if isGood r b x.seq x.stamp = true then
        applyMovement d false own (stampDifference b x.stamp) (setLock d .locked x.baseline s)
      else loseLock d s := by
  simp only [judgeSample, lock, based]; rfl

end

/-- With a DRUM table a sample restarts the watch and is judged. -/
theorem observeSample_judged {x : Sample} {s : State} {r : DrumRow} (row : drumRow s = some r) :
    observeSample x s = judgeSample x.drum r x ((channel x.drum s).bringForward x.count).2
      (setChannel x.drum { ((channel x.drum s).bringForward x.count).1 with
        watchTimer := some { lengthMs := r.sampleWatch, runUs := 0 } } s) := by
  have table (ch : Channel) : drumRow (setChannel x.drum ch s) = some r := by simpa [drumRow] using row
  have watched : restartSampleWatch x.drum (setChannel x.drum ((channel x.drum s).bringForward x.count).1 s)
      = setChannel x.drum { ((channel x.drum s).bringForward x.count).1 with
          watchTimer := some { lengthMs := r.sampleWatch, runUs := 0 } } s := by
    simp only [restartSampleWatch, table, channel_setChannel_same, setChannel_setChannel]; rfl
  simp only [observeSample, watched, table]

theorem observeSample_unjudged {x : Sample} {s : State} (row : drumRow s = none) :
    observeSample x s = setChannel x.drum ((channel x.drum s).bringForward x.count).1 s := by
  have table (ch : Channel) : drumRow (setChannel x.drum ch s) = none := by simpa [drumRow] using row
  simp only [observeSample, restartSampleWatch, table]

theorem bringForward_fst (ch : Channel) (n : BitVec 32) :
    (ch.bringForward n).1 = { ch with
      position := match ch.countRef with
        | none => n.toInt
        | some ref => ch.position + (n - ref).toInt
      applied := match ch.countRef with
        | none => n.toInt
        | some _ => ch.applied
      countRef := some n } := by
  unfold Channel.bringForward
  cases ch.countRef <;> rfl

theorem isGood_iff (r : DrumRow) (b : Baseline) (seq : Byte) (stamp : BitVec 16) :
    isGood r b seq stamp = true ↔ seq = b.seq + 1 ∧ r.samplePeriod ≤ 2 * (stamp - b.stamp).toNat
      ∧ (stamp - b.stamp).toNat ≤ 2 * r.samplePeriod := by
  simp only [isGood, Bool.and_eq_true, decide_eq_true_eq, and_assoc]; rfl

/-- A loss says the same once the sample is offered upstream. -/
theorem LossFollows.offered {d : Drum} {s t : State} (h : LossFollows d s t) (f : Frame) : LossFollows d s (offerUp .field f t) := by
  obtain ⟨other, trackers, leaves, takes, joins, quiet, pipeline, trips, kept, abandons⟩ := h
  have channels := channel_of_monitored (monitored_offerUp t .field f)
  have banks (b : TableId) : bank b (offerUp .field f t) = bank b t := bank_congr b (by simp)
  refine ⟨by rw [channels, other], by simpa using trackers, ?_, by simpa using takes, by simpa [causePresent] using joins,
    by simpa using quiet, by simpa using pipeline, by simpa [FinishesBoth] using trips, by simpa using kept,
    fun state opened => ?_⟩
  · rw [leavesAlone_iff, leftAlone_offerUp]
    exact leavesAlone_iff.mp leaves
  · obtain ⟨loading, records, valid, result⟩ := abandons state opened
    exact ⟨fun b => by rw [banks, loading], by simpa using records, by rw [flagSet_offerUp, valid]; rfl, by simpa using result⟩

/-- Settles O20: the table of R37 branch by branch, the loss as `loseLock_follows` has it. -/
theorem lockMovesByTheTable : Obligations.LockMovesByTheTable := by
  intro s d origin target seq n stamp ready body sample here forward becomes
  have brought : ((channel d s).bringForward n).1 = forward := bringForward_fst _ _
  have takes := forwards_drumSample d origin target seq n stamp ready
  refine ⟨fun row => ?untabled, fun r row => ?tabled⟩
  case untabled =>
    rw [observeSample_unjudged row] at takes
    rwa [← brought]
  case tabled =>
    intro apart good watched
    have watched_is : { ((channel d s).bringForward n).1 with watchTimer := some { lengthMs := r.sampleWatch, runUs := 0 } }
        = watched := by rw [brought]
    rw [observeSample_judged row] at takes
    dsimp only at takes
    rw [watched_is] at takes
    have lock_same : (channel d (setChannel d watched s)).lock = (channel d s).lock := by rw [channel_setChannel_same]
    have base_same : (channel d (setChannel d watched s)).baseline = (channel d s).baseline := by rw [channel_setChannel_same]
    have locks (lock : Lock) (baseline : Option Baseline) :
        setLock d lock baseline (setChannel d watched s) = setChannel d { watched with lock, baseline } s := by
      rw [setLock, channel_setChannel_same, setChannel_setChannel]
    refine ⟨⟨_, takes, ?watch⟩, fun unlocked => ?unlocked, fun k locking none => ?fresh, fun b based => ?based⟩
    case watch => 
      rw [channel_of_monitored (monitored_offerUp _ _ _), judgeSample_watchTimer, channel_setChannel_same]
    case unlocked =>
      rw [judgeSample_unlocked (lock_same.trans unlocked), locks] at takes
      exact takes
    case fresh =>
      rw [judgeSample_noBaseline (lock_same.trans locking) (base_same.trans none), locks] at takes
      exact takes
    case based =>
      have isGood_good : isGood r b seq stamp = true ↔ good b := isGood_iff r b seq stamp
      have based' := base_same.trans based
      refine ⟨fun k locking early is => ?step, fun k locking bad => ?dropped, fun ready is => ⟨_, takes, ?kept⟩,
        fun locked bad => ⟨_, takes, ?lost⟩⟩
      case step =>
        rw [judgeSample_locking based' (lock_same.trans locking), if_pos (isGood_good.mpr is), if_pos early, locks] at takes
        exact takes
      case dropped =>
        rw [judgeSample_locking based' (lock_same.trans locking), if_neg (mt isGood_good.mp bad), locks] at takes
        exact takes
      case kept =>
        have applied (relock : Bool) (own : Int) :
            let t := applyMovement d relock own (stampDifference b stamp) (setLock d .locked here (setChannel d watched s))
            (channel d t).lock = .locked ∧ (channel d t).baseline = here := by
          obtain ⟨lock, baseline, -⟩ :=
            applyMovement_keepsLock d relock own (stampDifference b stamp) (setLock d .locked here (setChannel d watched s))
          rw [locks, channel_setChannel_same] at lock baseline
          rw [locks]
          exact ⟨lock, baseline⟩
        rw [channel_of_monitored (monitored_offerUp _ _ _)]
        obtain relocks | locked := ready
        · rw [judgeSample_locking based' (lock_same.trans relocks), if_pos (isGood_good.mpr is), if_neg (by decide)]
          exact applied true _
        · rw [judgeSample_locked based' (lock_same.trans locked), if_pos (isGood_good.mpr is)]
          exact applied false _
      case lost =>
        obtain ⟨follows, lost⟩ := loseLock_follows d s (ch := watched) rfl rfl
        rw [judgeSample_locked based' (lock_same.trans locked), if_neg (mt isGood_good.mp bad)]
        exact ⟨by rw [channel_of_monitored (monitored_offerUp _ _ _), lost]; rfl, follows.offered _⟩

end Sys2Proof.Machine

/-! PROOF. Interlock states (chapters 5 and 8). -/

namespace Sys2Proof.Machine

/-! ### An INTERLOCK STATE observed (R88, R133, R134) -/

theorem readInterlock_imageBody (image : Interlock) : readInterlock (imageBody image) = some image := by
  have size : (imageBody image).length = 6 := by simp [imageBody, interlockBody]
  have readiness : field (imageBody image) 0 4 = image.readiness.toNat := be_beBytes_of_lt (n := 4) image.readiness.isLt
  have clutch : Clutch.ofCode (field (imageBody image) 4 1) = some image.clutch := by cases image with
    | mk readiness clutch brake => cases clutch <;> rfl
  have brake : field (imageBody image) 5 1 = if image.brakeApplied then 1 else 2 := by cases image with
    | mk readiness clutch brake => cases brake <;> rfl
  have defined : field (imageBody image) 5 1 = 1 ∨ field (imageBody image) 5 1 = 2 := by
    rw [brake]; cases image.brakeApplied
    · exact .inr rfl
    · exact .inl rfl
  have applied : decide (field (imageBody image) 5 1 = 1) = image.brakeApplied := by
    rw [brake]; cases image.brakeApplied <;> rfl
  rw [readInterlock, if_pos ⟨size, defined⟩, readiness, clutch, applied, BitVec.ofNat_toNat, BitVec.setWidth_eq]
  rfl

/-- An INTERLOCK STATE completes as the Protection Controller takes it. -/
theorem forwards_interlockState {s : State} (origin target : Byte) (image : Interlock) (ready : Ready .d s) :
    Forwards (.interlockState origin target (imageBody image)) (makeFrame 0x23 origin target (imageBody image)) s
      (observeInterlock image s) := by
  have observed : observe (makeFrame 0x23 origin target (imageBody image)) s = observeInterlock image s := by
    have read := readInterlock_imageBody image
    change (match readInterlock (imageBody image) with | some x => observeInterlock x s | none => s) = _
    rw [read]
  rw [← observed]
  exact completes_observed ready rfl (by simp [imageBody, interlockBody]) (by decide)

/-- The state with the image replaced and the accumulators as the two clutch positions leave them. -/
def imageTaken (new : Interlock) (s : State) : State :=
  accumulatorsOn s.protection.image.clutch new.clutch { s with protection.image := new }

theorem observeInterlock_eq (new : Interlock) (s : State) :
    observeInterlock new s = handOn (pipelineImage s.protection.image new (imageTaken new s)) := rfl

theorem imageTaken_ground (new : Interlock) (s : State) : SameGround s (imageTaken new s) :=
  ⟨rfl, rfl, rfl, fun d => by cases d <;> rfl⟩

/-- What the judgement of an image keeps of the drums, the trackers and the image. -/
def KeepsDrums (s t : State) : Prop :=
  monitored t = monitored s ∧ t.drums.disagree = s.drums.disagree ∧ t.drums.hold = s.drums.hold ∧ t.trackers = s.trackers

theorem KeepsDrums.trans {s t u : State} (first : KeepsDrums s t) (second : KeepsDrums t u) : KeepsDrums s u := by
  obtain ⟨channels, disagree, hold, trackers⟩ := first
  obtain ⟨channels', disagree', hold', trackers'⟩ := second
  exact ⟨channels'.trans channels, disagree'.trans disagree, hold'.trans hold, trackers'.trans trackers⟩

theorem keepsDrums_reportIf (condition : Bool) (c : Cause) (s : State) : KeepsDrums s (reportIf condition c s) := by
  refine ⟨monitored_reportIf s condition c, ?_, ?_, by simp⟩
  all_goals
    unfold reportIf; split
    · rw [reportCause_drums]
    · rfl

theorem keepsDrums_finishBoth (o : TripOutcome) (c : Option TripCause) (s : State) : KeepsDrums s (finishBoth o c s) :=
  ⟨monitored_of_same (by simp) (by simp), by simp, by simp, by simp⟩

theorem keepsDrums_pipelineImage (old new : Interlock) (s : State) : KeepsDrums s (pipelineImage old new s) := by
  unfold pipelineImage; dsimp only
  (repeat' split)
  · exact ⟨rfl, rfl, rfl, rfl⟩
  · exact keepsDrums_finishBoth _ _ _
  · exact keepsDrums_finishBoth _ _ _
  · exact ⟨rfl, rfl, rfl, rfl⟩
  · exact ⟨rfl, rfl, rfl, rfl⟩
  · exact .trans (keepsDrums_reportIf _ _ _) (keepsDrums_reportIf _ _ _)

/-- A required readiness bit is clear exactly when some station stands unready. -/
theorem unreadyStation_isSome_iff (movesAll : Bool) (image : Interlock) (sts : List StationRow) :
    (unreadyStation movesAll image sts).isSome = true ↔ ∃ k st, sts[k]? = some st
      ∧ inMovingSet movesAll st.compartment = true ∧ image.readiness.getLsbD k = false := by
  simp only [unreadyStation, Option.isSome_map, List.find?_isSome, Prod.exists, List.mem_zipIdx_iff_getElem?,
    Bool.and_eq_true, Bool.not_eq_true']
  exact exists_comm

section

variable {old new : Interlock} {s : State} {trip : Trip} (active : s.pipeline.active = some trip)

include active

/-- The image's judgement of a trip in WAITING (R88). -/
theorem pipelineImage_waiting (waiting : trip.state = .waiting) :
    pipelineImage old new s = if new.clutch ≠ old.clutch then finishBoth .aborted (some (.protective .clutch)) s
      else if (unreadyStation trip.movesAll new (stations s)).isSome then finishBoth .aborted (some .notReady) s else s := by
  simp [pipelineImage, active, waiting]

/-- The image's judgement of a moving trip (R88). -/
theorem pipelineImage_moving (moving : trip.state.isMoving = true) :
    pipelineImage old new s = reportIf (unreadyStation trip.movesAll new (stations s)).isSome .gate
      (reportIf (decide (new.clutch ≠ old.clutch)) .clutch s) := by
  cases state : trip.state <;> simp [pipelineImage, active, state] <;> simp [state, TripState.isMoving] at moving

/-- An image that changes no clutch and clears no required bit moves nothing. -/
theorem pipelineImage_quiet (same : ¬new.clutch ≠ old.clutch)
    (ready : ¬(unreadyStation trip.movesAll new (stations s)).isSome = true) : pipelineImage old new s = s := by
  have unchanged : decide (new.clutch ≠ old.clutch) = false := by simpa using same
  cases state : trip.state <;> simp [pipelineImage, active, state, unchanged, ready, reportIf_false]

end

/-- Settles O30: the judgement of the image by the active trip's state. -/
theorem interlockReplacesTheImage : Obligations.InterlockReplacesTheImage := by
  intro s origin target image ready
  refine ⟨_, forwards_interlockState origin target image ready, ?_⟩
  have leaves : LeavesAlone s (offerUp .field (makeFrame 0x23 origin target (imageBody image)) (observeInterlock image s)) :=
    leavesAlone_of_observed (ends_observeInterlock (Nat.le_refl 1) image s)
  rw [observeInterlock_eq] at leaves ⊢
  have ground := imageTaken_ground image s
  have pipeline : (imageTaken image s).pipeline = s.pipeline := rfl
  have protection : (imageTaken image s).protection = { s.protection with image := image } := rfl
  generalize taken_is : imageTaken image s = taken at leaves ground pipeline protection ⊢
  have disagree : taken.drums.disagree
      = if s.protection.image.clutch = .engaged ∧ image.clutch = .engaged then s.drums.disagree else 0 := by
    rw [← taken_is]; rfl
  have hold : taken.drums.hold
      = if s.protection.image.clutch = .disengaged ∧ image.clutch = .disengaged then s.drums.hold else 0 := by
    rw [← taken_is]; rfl
  have channels (d : Drum) : channel d taken = channel d s := by rw [← taken_is]; cases d <;> rfl
  generalize judged_is : pipelineImage s.protection.image image taken = judged at leaves ⊢
  obtain ⟨monitors, disagree', hold', trackers'⟩ : KeepsDrums taken judged := judged_is ▸ keepsDrums_pipelineImage _ _ _
  have rows : stations taken = stations s := by rw [← taken_is]; rfl
  have whole : monitored (offerUp .field (makeFrame 0x23 origin target (imageBody image)) (handOn judged)) = monitored taken := by
    rw [monitored_offerUp, monitored_handOn, monitors]
  refine ⟨?image, ?disagree, ?hold, ?trackers, fun d => ?channels, leaves, fun empty => ?empty, fun trip active => ?active⟩
  case image => rw [image_of_monitored whole, protection]
  case disagree => simpa [disagree] using disagree'
  case hold => simpa [hold] using hold'
  case trackers => simpa using trackers'.trans ground.2.1
  case channels => rw [channel_of_monitored whole, channels]
  case empty =>
    have unchanged : judged = taken := by rw [← judged_is, pipelineImage, pipeline, empty]
    rw [unchanged]
    exact ⟨by simpa using pipeline, by simpa using protection⟩
  case active =>
    intro changed unready
    have unready_iff : (unreadyStation trip.movesAll image (stations taken)).isSome = true ↔ unready := by
      rw [unreadyStation_isSome_iff, rows]
    have active' : taken.pipeline.active = some trip := by rw [pipeline, active]
    have aborts (cause : TripCause) (run : judged = finishBoth .aborted (some cause) taken) :
        FinishesBoth trip .aborted (some cause) s
          (offerUp .field (makeFrame 0x23 origin target (imageBody image)) (handOn judged)) :=
      (finishBoth_finishes trip _ _ taken active').on_same_ground ground.symm pipeline.symm (by simp [run])
    refine ⟨fun waiting ends => ?waiting, fun same ready => ?quiet, fun moving takes ends => ?moving⟩
    case waiting =>
      have run := pipelineImage_waiting (old := s.protection.image) (new := image) active' waiting
      rw [judged_is] at run
      by_cases change : changed
      · rw [if_pos change] at run
        exact ⟨by simp [run, protection], fun _ => aborts _ run, fun same => absurd change same⟩
      · rw [if_neg change, if_pos (unready_iff.mpr (ends.resolve_left change))] at run
        exact ⟨by simp [run, protection], fun changes => absurd changes change, fun _ => aborts _ run⟩
    case quiet =>
      have unchanged : judged = taken := by
        rw [← judged_is]; exact pipelineImage_quiet active' same (mt unready_iff.mp ready)
      rw [unchanged]
      exact ⟨by simpa using pipeline, by simpa using protection⟩
    case moving =>
      have state : trip.state.isMoving = true := by simpa [tripMoving, active] using moving
      have run := pipelineImage_moving (old := s.protection.image) (new := image) active' state
      rw [judged_is] at run
      have takes' : TakesCauses taken := by rwa [TakesCauses, protection]
      have trips (c : Cause) (same : judged.pipeline = (reportCause c taken).pipeline) :
          FinishesBoth trip .tripped (some (.protective c)) s
            (offerUp .field (makeFrame 0x23 origin target (imageBody image)) (handOn judged)) :=
        (reportCause_finishes takes' active').on_same_ground ground.symm pipeline.symm (by simp [same])
      by_cases change : changed
      · obtain ⟨tripped, first, -⟩ := reportCause_first (c := .clutch) takes'
        obtain ⟨-, noActive, noWaiting⟩ := reportCause_trips .clutch takes'
        have changes : decide (image.clutch ≠ s.protection.image.clutch) = true := decide_eq_true change
        rw [changes, reportIf_true] at run
        have joined : reportCause .gate (reportCause .clutch taken) = addCause .gate (reportCause .clutch taken) :=
          reportCause_tripped _ tripped
        have kept : judged.pipeline = (reportCause .clutch taken).pipeline ∧ judged.protection.state = .tripped
            ∧ judged.protection.firstCause = some .clutch := by
          rw [run, reportIf]; split
          · rw [joined]; exact ⟨rfl, tripped, first⟩
          · exact ⟨rfl, tripped, first⟩
        obtain ⟨slots, state, cause⟩ := kept
        refine ⟨by simpa using state, fun _ => ⟨by simpa using cause, trips .clutch slots⟩, fun same => absurd change same, fun bit => ?_⟩
        have gate : causePresent .gate judged = true := by
          rw [run, unready_iff.mpr bit, reportIf_true]
          exact (reports_reportCause .gate _ (by rw [tripped]; decide)).2
        simpa [causePresent] using gate
      · have unchanged : decide (image.clutch ≠ s.protection.image.clutch) = false := decide_eq_false change
        rw [unchanged, reportIf_false, unready_iff.mpr (ends.resolve_left change), reportIf_true] at run
        obtain ⟨tripped, first, -⟩ := reportCause_first (c := .gate) takes'
        refine ⟨by simpa [run] using tripped, fun changes => absurd changes change,
          fun _ => ⟨by simpa [run] using first, trips .gate (by rw [run])⟩, fun _ => ?_⟩
        have gate : causePresent .gate judged = true := by
          rw [run]
          exact (reports_reportCause .gate _ (by obtain h | h := takes' <;> rw [h] <;> decide)).2
        simpa [causePresent] using gate

end Sys2Proof.Machine

/-! PROOF. Misses and the miss check (chapter 4). -/

namespace Sys2Proof.Machine

/-! ### The misses and syncs counted -/

/-- The counts of misses and of syncs, as one value: nothing but a miss and a sync moves them. -/
def tally (s : State) : Nat × Nat := (s.requests.counters.misses, s.requests.counters.syncs)

theorem tally_of_requests {s t : State} (same : t.requests = s.requests) : tally t = tally s := by rw [tally, same]; rfl

section

variable (s : State)

theorem tally_offerUp (m : UpMark) (f : Frame) : tally (offerUp m f s) = tally s := by
  have drop (u : State) : tally (raiseDrop u) = tally u := by
    unfold raiseDrop; split
    · rfl
    · dsimp only; split <;> rfl
  unfold offerUp; split
  · rfl
  · exact drop _

theorem tally_setFlag (f : Flag) : tally (setFlag f s) = tally s := by
  unfold setFlag; split
  · rfl
  · exact tally_offerUp (markFlag f s) _ _

theorem tally_finishActive (o : TripOutcome) (c : Option TripCause) : tally (finishActive o c s) = tally s := by
  unfold finishActive; split
  · rfl
  · exact tally_setFlag _ .finish

theorem tally_finishWaiting (o : TripOutcome) (c : Option TripCause) : tally (finishWaiting o c s) = tally s := by
  unfold finishWaiting; split
  · rfl
  · exact tally_setFlag _ .finish

theorem tally_finishBoth (o : TripOutcome) (c : Option TripCause) : tally (finishBoth o c s) = tally s := by
  rw [finishBoth, tally_finishWaiting, tally_finishActive]

theorem tally_placeDemand (f : Frame) : tally (placeDemand f s) = tally s := by
  unfold placeDemand; dsimp only; (repeat' split)
  · rfl
  · rfl
  · exact tally_setFlag _ .drop

theorem tally_abandon (reason : AbandonReason) : tally (abandon reason s) = tally s := by
  unfold abandon; split
  · exact tally_setFlag _ _
  · rfl

theorem tally_reportCause (c : Cause) : tally (reportCause c s) = tally s := by
  obtain ⟨-, same⟩ | ⟨-, trips⟩ | ⟨-, added⟩ := reportCause_cases c s
  · rw [same]
  · have opened : tally (placeDemand partDemand (openChain c s)) = tally s := by
      rw [tally_placeDemand]; exact tally_setFlag _ .trip
    rw [trips, protectiveTrip, tally_abandon]
    exact (tally_finishBoth _ _ _).trans opened
  · rw [added]; rfl

theorem tally_reportIf (condition : Bool) (c : Cause) : tally (reportIf condition c s) = tally s := by
  unfold reportIf; split
  · exact tally_reportCause s c
  · rfl

theorem tally_handOn : tally (handOn s) = tally s := by
  have offered (due : List WatchEntry) (u : State) :
      tally (due.foldl (fun v e => offerUp .part (zoneClearNotice e v) v) u) = tally u := by
    induction due generalizing u with
    | nil => rfl
    | cons e rest ih => rw [List.foldl_cons, ih, tally_offerUp]
  exact offered _ _

end

/-- The misses counted grow, and do not pass their bound. -/
def MissesGrow (s t : State) : Prop :=
  min s.requests.counters.misses 65535 ≤ t.requests.counters.misses
    ∧ (s.requests.counters.misses ≤ 65535 → t.requests.counters.misses ≤ 65535)

theorem MissesGrow.bounded {s t : State} (h : MissesGrow s t) (low : s.requests.counters.misses ≤ 65535) :
    s.requests.counters.misses ≤ t.requests.counters.misses ∧ t.requests.counters.misses ≤ 65535 := by
  obtain ⟨grown, most⟩ := h
  exact ⟨by omega, most low⟩

theorem MissesGrow.trans {s t u : State} (first : MissesGrow s t) (second : MissesGrow t u) : MissesGrow s u := by
  obtain ⟨grown, low⟩ := first
  obtain ⟨grown', low'⟩ := second
  exact ⟨by omega, low' ∘ low⟩

theorem MissesGrow.of_tally {s t : State} (same : tally t = tally s) : MissesGrow s t := by
  simp only [tally, Prod.mk.injEq] at same
  rw [MissesGrow, same.1]
  exact ⟨min_le_left _ _, id⟩

theorem missesGrow_count (c : Counter) (s : State) : MissesGrow s (count c s) := by
  cases c with
  | misses =>
    simp only [MissesGrow, count, saturate]
    omega
  | _ => exact ⟨min_le_left _ _, id⟩

theorem Notified.missesGrow {k : Nat} {s t : State} (h : Notified k s t) (low : k ≤ 1) : MissesGrow s t := by
  induction h with
  | same _ _ requests => exact .of_tally (tally_of_requests requests)
  | count c s => exact missesGrow_count c s
  | setFlag f s => exact .of_tally (tally_setFlag s f)
  | cleared | offerUp | taken | fresh => omega
  | trans _ _ first second => exact first.trans second

/-! ### A miss taken (R65) -/

/-- The record of a marker after one more miss (R65). -/
def missedRecord (r : MarkerRecord) : MarkerRecord :=
  { missCount := min (r.missCount + 1) 255, suspect := r.suspect || decide (r.missCount + 1 = 3) }

/-- A miss recorded and counted, before its tracker's flag is looked at. -/
def missNoted (i : Nat) (s : State) : State :=
  setFlag .miss (count .misses (if (recordOf i s).missCount + 1 = 3
    then setFlag .suspect (setRecord i (missedRecord (recordOf i s)) s) else setRecord i (missedRecord (recordOf i s)) s))

theorem missNoted_trackers (i : Nat) (s : State) : (missNoted i s).trackers = s.trackers := by
  rw [missNoted]; split <;> simp [setRecord]

theorem missNoted_markers (i : Nat) (s : State) :
    (missNoted i s).tables.markers = s.tables.markers.set i (missedRecord (recordOf i s)) := by
  rw [missNoted]; split <;> simp [setRecord]

theorem missNoted_tally (i : Nat) (s : State) :
    tally (missNoted i s) = (min (s.requests.counters.misses + 1) 65535, s.requests.counters.syncs) := by
  have counted (u : State) (same : tally u = tally s) :
      tally (count .misses u) = (min (s.requests.counters.misses + 1) 65535, s.requests.counters.syncs) := by
    simp only [tally, Prod.mk.injEq] at same
    obtain ⟨misses, syncs⟩ := same
    simp only [tally, count, saturate, misses, syncs]
  rw [missNoted, tally_setFlag]
  refine counted _ ?_
  split
  · rw [tally_setFlag]; rfl
  · rfl

theorem missNoted_frame (i : Nat) (s : State) :
    (missNoted i s).protection = s.protection ∧ (missNoted i s).pipeline = s.pipeline := by
  rw [missNoted]; split <;> simp [setRecord]

theorem takeMiss_eq (c : Conveyance) (i : Nat) (s : State) :
    takeMiss c i s = if (tracker c s).missFlag then reportCause .position (missNoted i s)
      else setTracker c { tracker c s with missFlag := true } (missNoted i s) := by
  have same : tracker c (missNoted i s) = tracker c s := tracker_congr c (missNoted_trackers i s)
  have run : takeMiss c i s = if (tracker c (missNoted i s)).missFlag then reportCause .position (missNoted i s)
      else setTracker c { tracker c (missNoted i s) with missFlag := true } (missNoted i s) := by
    simp only [takeMiss, decide_eq_true_eq]; rfl
  rw [run, same]

theorem takeMiss_markers (c : Conveyance) (i : Nat) (s : State) :
    (takeMiss c i s).tables.markers = s.tables.markers.set i (missedRecord (recordOf i s)) := by
  rw [takeMiss_eq]; split
  · rw [(reportCause_rows .position .shaft _).2.2, missNoted_markers]
  · rw [← missNoted_markers]; rfl

theorem recordOf_takeMiss_other (c : Conveyance) {i j : Nat} (other : i ≠ j) (s : State) :
    recordOf j (takeMiss c i s) = recordOf j s := by
  simp [recordOf, takeMiss_markers, List.getD_eq_getElem?_getD, other]

theorem recordOf_takeMiss (c : Conveyance) {i : Nat} {s : State} (inside : i < s.tables.markers.length) :
    recordOf i (takeMiss c i s) = missedRecord (recordOf i s) := by
  simp [recordOf, takeMiss_markers, List.getD_eq_getElem?_getD, inside]

theorem takeMiss_tally (c : Conveyance) (i : Nat) (s : State) :
    tally (takeMiss c i s) = (min (s.requests.counters.misses + 1) 65535, s.requests.counters.syncs) := by
  rw [takeMiss_eq]; split
  · rw [tally_reportCause, missNoted_tally]
  · exact missNoted_tally i s

theorem takeMiss_tracker_other {c other : Conveyance} (away : other ≠ c) (i : Nat) (s : State) :
    tracker other (takeMiss c i s) = tracker other s := by
  have noted : tracker other (missNoted i s) = tracker other s := tracker_congr other (missNoted_trackers i s)
  rw [takeMiss_eq]; split
  · rw [tracker_congr other (reportCause_trackers _ _), noted]
  · rw [tracker_setTracker_other _ _ away, noted]

theorem takeMiss_flags (c : Conveyance) (i : Nat) (s : State) :
    flagSet .miss (takeMiss c i s) = true
      ∧ ((recordOf i s).missCount = 2 → flagSet .suspect (takeMiss c i s) = true) := by
  have later : Notified 0 (missNoted i s) (takeMiss c i s) := by
    rw [takeMiss_eq]; split
    · exact (Reaches.reportCause _ _).notified
    · exact .same rfl (fun _ => rfl) rfl
  refine ⟨later.flagSet (Nat.zero_le 1) (flagSet_setFlag _ _), fun third => later.flagSet (Nat.zero_le 1) ?_⟩
  rw [missNoted, if_pos (by omega)]
  have suspect (u : State) : flagSet .suspect (count .misses (setFlag .suspect u)) = true := by
    rw [flagSet_count]; exact flagSet_setFlag _ _
  exact flagSet_setFlag_of_set _ _ _ (suspect _)

/-- A miss behind another is POSITION, and the first one is no cause (R65). -/
theorem takeMiss_flagged {c : Conveyance} {i : Nat} {s : State} (flagged : (tracker c s).missFlag = true) :
    takeMiss c i s = reportCause .position (missNoted i s) := by rw [takeMiss_eq, if_pos flagged]

theorem takeMiss_unflagged {c : Conveyance} {i : Nat} {s : State} (flag : (tracker c s).missFlag = false) :
    takeMiss c i s = setTracker c { tracker c s with missFlag := true } (missNoted i s) := by
  rw [takeMiss_eq, flag, if_neg Bool.false_ne_true]

/-! ### The miss check (R64) -/

theorem advanceBeyond_tracker (c : Conveyance) (depth : Int) (s : State) :
    tracker c (advanceBeyond c depth s)
      = { tracker c s with expected := nearestAhead (markers s) c (tracker c s).direction depth } := tracker_setTracker_same ..

theorem missCheck_none {c : Conveyance} {s : State} (none : missedMarker c s = none) (n : Nat) : missCheck c n s = s := by
  cases n with
  | zero => rfl
  | succ n => rw [missCheck, none]

theorem missCheck_some {c : Conveyance} {s : State} {i : Nat} {m : MarkerRow} (some : missedMarker c s = some (i, m)) (n : Nat) :
    missCheck c (n + 1) s = missCheck c n (advanceBeyond c m.depth (takeMiss c i s)) := by
  rw [missCheck, some]

theorem missedMarker_eq_none {c : Conveyance} {s : State}
    (free : ¬((tracker c s).datumed = true ∧ ∃ i m, Expects c i m s ∧ HasPassed c m s)) : missedMarker c s = none := by
  cases missed : missedMarker c s with
  | none => rfl
  | some p =>
    obtain ⟨datumed, expects, passed⟩ := (missedMarker_iff c p.1 p.2 s).mp missed
    exact absurd ⟨datumed, _, _, expects, passed⟩ free

theorem takeMiss_rows (c : Conveyance) (i : Nat) (s : State) : markers (takeMiss c i s) = markers s := by
  rw [markers, takeMiss_shaft]; rfl

/-- One miss taken and its expectation advanced, the check runs again with its whole bound. -/
theorem checkMisses_step {c : Conveyance} {s : State} {i : Nat} {m : MarkerRow} (missed : missedMarker c s = some (i, m)) :
    checkMisses c s = checkMisses c (advanceBeyond c m.depth (takeMiss c i s)) := by
  have rows : markers (advanceBeyond c m.depth (takeMiss c i s)) = markers s := takeMiss_rows c i s
  have direction : (tracker c (advanceBeyond c m.depth (takeMiss c i s))).direction = (tracker c s).direction := by
    rw [advanceBeyond_tracker, takeMiss_tracker]
  rw [checkMisses, missCheck_some missed, checkMisses, rows]
  refine missCheck_enough c _ _ fun j m' missed' => ?_
  obtain ⟨-, ⟨expected, there⟩, -⟩ := (missedMarker_iff c j m' _).mp missed'
  rw [advanceBeyond_tracker, takeMiss_rows, takeMiss_tracker] at expected
  obtain ⟨m'', there', ahead, -⟩ := (nearestAhead_isNearest c (tracker c s).direction m.depth s).2 j expected
  rw [rows] at there ⊢
  obtain rfl := Option.some.inj (there.symm.trans there')
  rw [direction]
  have fewer := markersAhead_lt c (tracker c s).direction m.depth m' (markers s) (List.mem_of_getElem? there) ahead
  have most : markersAhead c (tracker c s).direction m.depth (markers s) ≤ (markers s).length := List.countP_le_length
  omega

/-- Settles O29: the stages of a miss, and the miss check's first step. -/
theorem missesAreTaken : Obligations.MissesAreTaken := by
  refine ⟨fun s c i inside => ?miss, fun s c => ⟨fun free => ?free, fun i m datumed expects passed => ?step⟩⟩
  case miss =>
    intro t
    have record : recordOf i t = missedRecord (recordOf i s) := recordOf_takeMiss c inside
    have tallied := takeMiss_tally c i s
    obtain ⟨flag, suspect⟩ := takeMiss_flags c i s
    obtain ⟨protection, pipeline⟩ := missNoted_frame i s
    refine ⟨by rw [record]; rfl, ?_, congrArg Prod.fst tallied, by rw [takeMiss_tracker], flag, suspect,
      fun flagged takes => ?_, fun flagged tripped => ?_, fun first => ?_⟩
    · rw [record, missedRecord]
      simp
    · have takes' : TakesCauses (missNoted i s) := by rwa [TakesCauses, protection]
      have trips := reportCause_first (c := .position) takes'
      rw [← takeMiss_flagged (c := c) flagged] at trips
      exact ⟨trips.1, trips.2.1⟩
    · have joins := (reports_reportCause .position (missNoted i s) (by rw [protection, tripped]; decide)).2
      rwa [← takeMiss_flagged (c := c) flagged] at joins
    · have run : t = _ := takeMiss_unflagged first
      rw [run, setTracker_protection, setTracker_pipeline]
      exact ⟨protection, pipeline⟩
  case free => exact missCheck_none (missedMarker_eq_none free) _
  case step =>
    refine ⟨nearestAhead (markers s) c (tracker c s).direction m.depth, nearestAhead_isNearest _ _ _ s, ?_⟩
    rw [checkMisses_step ((missedMarker_iff c i m s).mpr ⟨datumed, expects, passed⟩), advanceBeyond, takeMiss_rows,
      takeMiss_tracker]

end Sys2Proof.Machine

/-! PROOF. The checks that follow a change of depth, and ROPE LOAD (chapter 4). -/

namespace Sys2Proof.Machine

/-! ### A protective trip stands (R137, R138) -/

/-- Between two states NO-TABLES was not entered, and a protective trip taken stands with its causes. -/
def KeepsTrip (s t : State) : Prop :=
  (s.protection.state ≠ .noTables → t.protection.state ≠ .noTables)
    ∧ (s.protection.state = .tripped → t.protection.state = .tripped ∧ t.protection.firstCause = s.protection.firstCause
        ∧ ∀ c, causePresent c s = true → causePresent c t = true)

theorem KeepsTrip.trans {s t u : State} (first : KeepsTrip s t) (second : KeepsTrip t u) : KeepsTrip s u := by
  obtain ⟨tables, stands⟩ := first
  obtain ⟨tables', stands'⟩ := second
  refine ⟨tables' ∘ tables, fun tripped => ?_⟩
  obtain ⟨tripped', cause, present⟩ := stands tripped
  obtain ⟨tripped'', cause', present'⟩ := stands' tripped'
  exact ⟨tripped'', cause'.trans cause, fun c => present' c ∘ present c⟩

theorem KeepsTrip.of_causes {s t : State} (state : t.protection.state = s.protection.state)
    (cause : t.protection.firstCause = s.protection.firstCause) (causes : t.protection.causes = s.protection.causes) :
    KeepsTrip s t :=
  ⟨fun tables => by rwa [state], fun tripped => ⟨by rwa [state], cause, fun c => by rw [causePresent, causePresent, causes]; exact id⟩⟩

theorem KeepsTrip.of_same {s t : State} (same : t.protection = s.protection) : KeepsTrip s t :=
  .of_causes (by rw [same]) (by rw [same]) (by rw [same])

theorem keepsTrip_reportCause (c : Cause) (s : State) : KeepsTrip s (reportCause c s) := by
  refine ⟨fun tables => ?_, fun tripped => ?_⟩
  · rw [(reports_reportCause c s tables).1]; decide
  · rw [reportCause_tripped c tripped]
    exact ⟨tripped, rfl, fun other present => by simp [causePresent_addCause, present]⟩

theorem keepsTrip_armIfDatumed (s : State) : KeepsTrip s (armIfDatumed s) := by
  unfold armIfDatumed; split
  · next arms =>
    refine ⟨fun _ => by simp, fun tripped => ?_⟩
    rw [arms.1] at tripped
    cases tripped
  · exact .of_same rfl

/-- No operation of a field frame or a drum timer takes a trip back. -/
theorem Reaches.keepsTrip {k : Nat} {s t : State} (h : Reaches k s t) (low : k ≤ 1) : KeepsTrip s t := by
  induction h with
  | trans _ _ first second => exact first.trans second
  | reportCause c s => exact keepsTrip_reportCause c s
  | armIfDatumed s => exact keepsTrip_armIfDatumed s
  | refl | setRecord | addDrift | addDisagreement | addHold | stepRamp | chooseFreely | driveSilent | hearDrive
    | replaceImage => exact .of_causes rfl rfl rfl
  | completePlan c _ _ before _ _ _ ih => exact ih.trans (.of_same (by simp))
  | count | setFlag | setTracker | setChannel | clearDrift | start | creep | settle | enterStopping | finishBoth | promote
    | abandon | stopWatch | coalesce | recomputeSpeed => exact .of_same (by simp)
  | _ => omega

/-- A cause reported between two states is reported between any two around them. -/
theorem Reports.around {c : Cause} {s t u v : State} (reports : Reports c t u) (before : KeepsTrip s t) (after : KeepsTrip u v) :
    Reports c s v := fun tables => by
  obtain ⟨tripped, present⟩ := reports (before.1 tables)
  obtain ⟨tripped', -, presents⟩ := after.2 tripped
  exact ⟨tripped', presents c present⟩

/-! ### What the checks leave of the trackers -/

/-- What the checks on a conveyance leave: of its tracker all but the expectation and the miss flag, which is not
cleared, the other trackers, the SHAFT table and the syncs counted. -/
def Checked (c : Conveyance) (s t : State) : Prop :=
  Reaches 0 s t ∧ (∀ other, other ≠ c → tracker other t = tracker other s)
    ∧ tracker c t = { tracker c s with expected := (tracker c t).expected, missFlag := (tracker c t).missFlag }
    ∧ ((tracker c s).missFlag = true → (tracker c t).missFlag = true)
    ∧ t.requests.counters.syncs = s.requests.counters.syncs

theorem Checked.refl (c : Conveyance) (s : State) : Checked c s s := ⟨.refl s, fun _ _ => rfl, rfl, id, rfl⟩

theorem Checked.trans {c : Conveyance} {s t u : State} (first : Checked c s t) (second : Checked c t u) : Checked c s u := by
  obtain ⟨reached, others, own, flag, syncs⟩ := first
  obtain ⟨reached', others', own', flag', syncs'⟩ := second
  exact ⟨reached.trans reached', fun other away => (others' other away).trans (others other away),
    by rw [own', own], flag' ∘ flag, syncs'.trans syncs⟩

theorem Checked.rows {c : Conveyance} {s t : State} (h : Checked c s t) : t.tables.shaft.active = s.tables.shaft.active :=
  congrArg (·.2.1) (h.1.leftAlone (Nat.zero_le 1))

theorem Checked.keeps {c : Conveyance} {s t : State} (h : Checked c s t) :
    (tracker c t).datumed = (tracker c s).datumed ∧ (tracker c t).direction = (tracker c s).direction
      ∧ (tracker c t).reported = (tracker c s).reported ∧ (tracker c t).baseFine = (tracker c s).baseFine
      ∧ (tracker c t).stretch = (tracker c s).stretch ∧ (tracker c t).offset = (tracker c s).offset
      ∧ (tracker c t).load = (tracker c s).load ∧ (tracker c t).lastMarker = (tracker c s).lastMarker := by
  obtain ⟨-, -, own, -⟩ := h
  rw [own]
  exact ⟨rfl, rfl, rfl, rfl, rfl, rfl, rfl, rfl⟩

theorem Checked.markers {c : Conveyance} {s t : State} (h : Checked c s t) : markers t = markers s := by
  rw [Machine.markers, h.rows]; rfl

theorem Checked.hasPassed {c : Conveyance} {s t : State} (h : Checked c s t) (m : MarkerRow) : HasPassed c m t ↔ HasPassed c m s := by
  obtain ⟨-, direction, reported, -⟩ := h.keeps
  simp only [HasPassed, compartmentRow, h.rows, direction, reported]

theorem Checked.beyondLimits {c : Conveyance} {s t : State} (h : Checked c s t) : BeyondLimits c t ↔ BeyondLimits c s := by
  obtain ⟨-, -, reported, -⟩ := h.keeps
  simp only [BeyondLimits, compartmentRow, h.rows, reported]

theorem checked_reportIf (c : Conveyance) (condition : Bool) (cause : Cause) (s : State) : Checked c s (reportIf condition cause s) := by
  have same (x : Conveyance) : tracker x (reportIf condition cause s) = tracker x s := tracker_congr x (by simp)
  exact ⟨reaches_reportIf _ _ _, fun other _ => same other, by rw [same], by rw [same]; exact id,
    congrArg Prod.snd (tally_reportIf s condition cause)⟩

theorem checked_takeMiss (c : Conveyance) (i : Nat) (s : State) : Checked c s (takeMiss c i s) :=
  ⟨reaches_takeMiss c i s, fun _ away => takeMiss_tracker_other away i s, by rw [takeMiss_tracker],
    by rw [takeMiss_tracker]; exact fun _ => rfl, congrArg Prod.snd (takeMiss_tally c i s)⟩

theorem checked_advanceBeyond (c : Conveyance) (depth : Int) (s : State) : Checked c s (advanceBeyond c depth s) :=
  ⟨reaches_advanceBeyond c depth s, fun _ away => tracker_setTracker_other _ _ away, by rw [advanceBeyond_tracker],
    by rw [advanceBeyond_tracker]; exact id, rfl⟩

theorem checked_missCheck (c : Conveyance) (n : Nat) (s : State) : Checked c s (missCheck c n s) := by
  induction n generalizing s with
  | zero => exact .refl c s
  | succ n ih =>
    cases missed : missedMarker c s with
    | none => rw [missCheck_none missed]; exact .refl c s
    | some p =>
      rw [missCheck_some (m := p.2) missed]
      exact .trans (.trans (checked_takeMiss c p.1 s) (checked_advanceBeyond c _ _)) (ih _)

theorem checked_checkMisses (c : Conveyance) (s : State) : Checked c s (checkMisses c s) := checked_missCheck c _ s

/-! ### What the miss check takes (R63 to R65) -/

/-- An advanced expectation lies beyond the marker that it went on from. -/
theorem advanceBeyond_wentBeyond (c : Conveyance) (depth : Int) (s : State) : WentBeyond c depth (advanceBeyond c depth s) := by
  intro j m expected there
  rw [advanceBeyond_tracker] at expected ⊢
  obtain ⟨m', there', ahead, -⟩ := (nearestAhead_isNearest c (tracker c s).direction depth s).2 j expected
  obtain rfl := Option.some.inj (there.symm.trans there')
  exact ahead

theorem LiesAhead.trans {c : Conveyance} {dir : Direction} {here : Int} {m m' : MarkerRow} (first : LiesAhead c dir here m)
    (second : LiesAhead c dir m.depth m') : LiesAhead c dir here m' := by
  obtain ⟨-, -, way⟩ := first
  obtain ⟨own, reliable, way'⟩ := second
  refine ⟨own, reliable, ?_⟩
  obtain ⟨down, before⟩ | ⟨up, before⟩ := way <;> obtain ⟨down', before'⟩ | ⟨up', before'⟩ := way'
  · exact .inl ⟨down, lt_trans before before'⟩
  · rw [down] at up'; cases up'
  · rw [up] at down'; cases down'
  · exact .inr ⟨up, lt_trans before' before⟩

theorem not_liesAhead_self (c : Conveyance) (dir : Direction) (m : MarkerRow) : ¬LiesAhead c dir m.depth m := by
  rintro ⟨-, -, ⟨-, h⟩ | ⟨-, h⟩⟩ <;> exact absurd h (lt_irrefl _)

section

variable {c : Conveyance} {s : State} {i : Nat} {m : MarkerRow} (missed : missedMarker c s = some (i, m))

include missed

/-- The state after one miss and its advance is checked, and expects a marker beyond wherever it went on from. -/
theorem advance_wentBeyond {depth : Int} (beyond : WentBeyond c depth s) :
    WentBeyond c depth (advanceBeyond c m.depth (takeMiss c i s)) := by
  obtain ⟨-, ⟨expected, there⟩, -⟩ := (missedMarker_iff c i m s).mp missed
  have ahead := beyond i m expected there
  have kept := (checked_takeMiss c i s).trans (checked_advanceBeyond c m.depth _)
  intro j m' expected' there'
  have ahead' := advanceBeyond_wentBeyond c m.depth (takeMiss c i s) j m' expected' there'
  rw [kept.keeps.2.1] at ahead' ⊢
  exact ahead.trans ahead'

end

theorem missCheck_wentBeyond {c : Conveyance} {depth : Int} (n : Nat) {s : State} (beyond : WentBeyond c depth s) :
    WentBeyond c depth (missCheck c n s) := by
  induction n generalizing s with
  | zero => exact beyond
  | succ n ih =>
    cases missed : missedMarker c s with
    | none => rw [missCheck_none missed]; exact beyond
    | some p =>
      rw [missCheck_some (m := p.2) missed]
      exact ih (advance_wentBeyond (m := p.2) missed beyond)

/-- A marker that the expectation has gone beyond takes no further miss. -/
theorem missCheck_recordOf {c : Conveyance} {depth : Int} {i : Nat} {m : MarkerRow} (n : Nat) {s : State}
    (beyond : WentBeyond c depth s) (there : (markers s)[i]? = some m)
    (behind : ¬LiesAhead c (tracker c s).direction depth m) : recordOf i (missCheck c n s) = recordOf i s := by
  induction n generalizing s with
  | zero => rfl
  | succ n ih =>
    cases missed : missedMarker c s with
    | none => rw [missCheck_none missed]
    | some p =>
      obtain ⟨j, m'⟩ := p
      obtain ⟨-, ⟨expected, there'⟩, -⟩ := (missedMarker_iff c j m' s).mp missed
      have other : j ≠ i := by
        rintro rfl
        obtain rfl := Option.some.inj (there.symm.trans there')
        exact behind (beyond j m expected there)
      have kept := (checked_takeMiss c j s).trans (checked_advanceBeyond c m'.depth _)
      rw [missCheck_some missed, ih (advance_wentBeyond missed beyond) (by rw [kept.markers, there])
        (by rw [kept.keeps.2.1]; exact behind)]
      exact recordOf_takeMiss_other c other s

/-- A tracker that expects only markers beyond a depth does not expect one at it. -/
theorem WentBeyond.expected_ne {c : Conveyance} {m : MarkerRow} {i : Nat} {s : State} (beyond : WentBeyond c m.depth s)
    (there : (markers s)[i]? = some m) : (tracker c s).expected ≠ some i := fun expected =>
  not_liesAhead_self c _ m (beyond i m expected there)

/-- The miss check that finds a miss: the miss is taken, and its marker's record is that of one more miss. -/
theorem checkMisses_tookMiss {c : Conveyance} {s : State} {i : Nat} {m : MarkerRow} (missed : missedMarker c s = some (i, m)) :
    TookMiss c i s (checkMisses c s) ∧ WentBeyond c m.depth (checkMisses c s)
      ∧ (checkMisses c s).requests.counters.misses ≤ 65535
      ∧ (i < s.tables.markers.length → recordOf i (checkMisses c s) = missedRecord (recordOf i s)) := by
  obtain ⟨-, ⟨-, there⟩, -⟩ := (missedMarker_iff c i m s).mp missed
  generalize next_is : advanceBeyond c m.depth (takeMiss c i s) = next
  have kept : Checked c (takeMiss c i s) next := next_is ▸ checked_advanceBeyond c m.depth _
  have beyond : WentBeyond c m.depth next := next_is ▸ advanceBeyond_wentBeyond c m.depth _
  have run : checkMisses c s = missCheck c (markers s).length next := by rw [checkMisses, missCheck_some missed, next_is]
  rw [run]
  have later := checked_missCheck c (markers s).length next
  have there' : (markers next)[i]? = some m := by rw [kept.markers, takeMiss_rows, there]
  have flags := (takeMiss_flags c i s).1
  have misses : next.requests.counters.misses = min (s.requests.counters.misses + 1) 65535 := by
    rw [← next_is]; exact congrArg Prod.fst (takeMiss_tally c i s)
  obtain ⟨grown, most⟩ := (later.1.notified.missesGrow (Nat.zero_le 1)).bounded (by omega)
  have goneBeyond := missCheck_wentBeyond (markers s).length beyond
  refine ⟨⟨later.2.2.2.1 (kept.2.2.2.1 (by rw [takeMiss_tracker])), (kept.1.trans later.1).notified.flagSet (Nat.zero_le 1) flags,
    goneBeyond.expected_ne (by rw [later.markers, there']), by omega⟩, goneBeyond, most, fun inside => ?_⟩
  rw [missCheck_recordOf _ beyond there' (not_liesAhead_self _ _ _), ← next_is]
  exact recordOf_takeMiss c inside

/-- A miss taken stands while nothing but checks and counts follows. -/
theorem TookMiss.later {c : Conveyance} {i : Nat} {s t u : State} (h : TookMiss c i s t) (bounded : t.requests.counters.misses ≤ 65535)
    (flag : (tracker c u).missFlag = (tracker c t).missFlag) (expected : (tracker c u).expected = (tracker c t).expected)
    (set : flagSet .miss t = true → flagSet .miss u = true) (grow : MissesGrow t u) : TookMiss c i s u := by
  obtain ⟨flagged, miss, advanced, counted⟩ := h
  obtain ⟨grown, most⟩ := grow.bounded bounded
  exact ⟨by rw [flag, flagged], set miss, by rwa [expected], by omega⟩

end Sys2Proof.Machine

/-! PROOF. The follow-on of a recomputation, and ROPE LOAD (chapter 4). -/

namespace Sys2Proof.Machine

/-! ### The follow-on of a recomputation (R56, R64, R66, R67) -/

theorem isOverwound_iff (c : Conveyance) (s : State) :
    isOverwound c s = true ↔ (tracker c s).datumed = true ∧ BeyondLimits c s := by
  unfold isOverwound BeyondLimits
  cases compartmentRow c s <;> simp

theorem isSlack_iff (c : Conveyance) (s : State) : isSlack c s = true ↔ RopeIsSlack c s := by
  unfold isSlack RopeIsSlack
  cases compartmentRow c s <;> simp [and_assoc]

theorem Checked.ropeIsSlack {c : Conveyance} {s t : State} (h : Checked c s t) : RopeIsSlack c t ↔ RopeIsSlack c s := by
  obtain ⟨-, direction, -, -, -, -, load, -⟩ := h.keeps
  simp only [RopeIsSlack, compartmentRow, h.rows, channel_of_monitored h.1.monitored, direction, load]

theorem checked_checkOverwind (c : Conveyance) (s : State) : Checked c s (checkOverwind c s) := checked_reportIf c _ _ s

theorem checked_checkSlack (c : Conveyance) (s : State) : Checked c s (checkSlack c s) := checked_reportIf c _ _ s

theorem checked_depthChecks (c : Conveyance) (s : State) : Checked c s (depthChecks c s) := by
  unfold depthChecks; split
  · exact .trans (checked_checkMisses c s) (checked_checkOverwind c _)
  · exact .refl c s

theorem checked_followOn (c : Conveyance) (before : Int) (s : State) : Checked c s (followOn c before s) := by
  refine .trans ?_ (checked_checkSlack c _)
  split
  · exact .refl c s
  · exact checked_depthChecks c s

/-- A miss that the depth checks take stands behind the checks that follow. -/
theorem TookMiss.checked {c : Conveyance} {i : Nat} {s t u : State} (h : TookMiss c i s t)
    (bounded : t.requests.counters.misses ≤ 65535) (condition : Bool) (cause : Cause) (run : u = reportIf condition cause t) :
    TookMiss c i s u ∧ u.requests.counters.misses ≤ 65535 ∧ u.tables.markers = t.tables.markers := by
  subst run
  have same : tracker c (reportIf condition cause t) = tracker c t := tracker_congr c (by simp)
  have grows := MissesGrow.of_tally (tally_reportIf t condition cause)
  have records : (reportIf condition cause t).tables.markers = t.tables.markers := by
    unfold reportIf; split
    · exact (reportCause_rows cause .shaft t).2.2
    · rfl
  exact ⟨h.later bounded (by rw [same]) (by rw [same])
    (((reaches_reportIf (k := 0) _ _ _).notified).flagSet (Nat.zero_le 1)) grows, (grows.bounded bounded).2, records⟩

theorem reports_reportIf {condition : Bool} (holds : condition = true) (c : Cause) (s : State) :
    Reports c s (reportIf condition c s) := by
  rw [holds]; exact reports_reportCause c s

section

variable {c : Conveyance} {s : State}

/-- The depth checks of a DATUMED tracker that has missed its marker. -/
theorem depthChecks_miss (datumed : (tracker c s).datumed = true) {i : Nat} {m : MarkerRow} (missed : missedMarker c s = some (i, m)) :
    TookMiss c i s (depthChecks c s) ∧ (depthChecks c s).requests.counters.misses ≤ 65535
      ∧ (i < s.tables.markers.length → recordOf i (depthChecks c s) = missedRecord (recordOf i s)) := by
  obtain ⟨took, -, bounded, record⟩ := checkMisses_tookMiss missed
  obtain ⟨took', bounded', records⟩ := took.checked bounded (isOverwound c (checkMisses c s)) .overwind rfl
  rw [depthChecks, if_pos datumed]
  exact ⟨took', bounded', fun inside => by rw [← record inside, recordOf, checkOverwind, records]; rfl⟩

theorem depthChecks_overwind (datumed : (tracker c s).datumed = true) (beyond : BeyondLimits c s) :
    Reports .overwind s (depthChecks c s) := by
  have kept := checked_checkMisses c s
  have overwound : isOverwound c (checkMisses c s) = true :=
    (isOverwound_iff c _).mpr ⟨kept.keeps.1.trans datumed, kept.beyondLimits.mpr beyond⟩
  rw [depthChecks, if_pos datumed]
  exact (reports_reportIf overwound _ _).around (kept.1.keepsTrip (Nat.zero_le 1)) (.of_same rfl)

/-- With no marker missed, the depth checks are the overwind check. -/
theorem depthChecks_unmissed (none : missedMarker c s = none) : depthChecks c s = checkOverwind c s := by
  unfold depthChecks; split
  · rw [checkMisses, missCheck_none none]
  · next undatumed =>
    have calm : isOverwound c s = false := Bool.eq_false_iff.mpr fun overwound => undatumed ((isOverwound_iff c s).mp overwound).1
    rw [checkOverwind, calm]; rfl

variable {before : Int}

theorem followOn_changed (changed : (tracker c s).reported ≠ before) : followOn c before s = checkSlack c (depthChecks c s) := by
  rw [followOn, if_neg changed]

theorem followOn_miss (datumed : (tracker c s).datumed = true) (changed : (tracker c s).reported ≠ before) {i : Nat}
    {m : MarkerRow} (missed : missedMarker c s = some (i, m)) :
    TookMiss c i s (followOn c before s) ∧ (followOn c before s).requests.counters.misses ≤ 65535
      ∧ (i < s.tables.markers.length → recordOf i (followOn c before s) = missedRecord (recordOf i s)) := by
  obtain ⟨took, bounded, record⟩ := depthChecks_miss datumed missed
  obtain ⟨took', bounded', records⟩ := took.checked bounded (isSlack c (depthChecks c s)) .slack rfl
  rw [followOn_changed changed]
  exact ⟨took', bounded', fun inside => by rw [← record inside, recordOf, checkSlack, records]; rfl⟩

theorem followOn_overwind (datumed : (tracker c s).datumed = true) (changed : (tracker c s).reported ≠ before)
    (beyond : BeyondLimits c s) : Reports .overwind s (followOn c before s) := by
  rw [followOn_changed changed]
  exact (depthChecks_overwind datumed beyond).around (.of_same rfl) ((checked_checkSlack c _).1.keepsTrip (Nat.zero_le 1))

theorem followOn_slack (slack : RopeIsSlack c s) : Reports .slack s (followOn c before s) := by
  generalize checked_is : (if (tracker c s).reported = before then s else depthChecks c s) = checked
  have kept : Checked c s checked := by
    rw [← checked_is]; split
    · exact .refl c s
    · exact checked_depthChecks c s
  have slack' : isSlack c checked = true := (isSlack_iff c _).mpr (kept.ropeIsSlack.mpr slack)
  rw [followOn, checked_is]
  exact (reports_reportIf slack' _ _).around (kept.1.keepsTrip (Nat.zero_le 1)) (.of_same rfl)

/-- With no marker missed, the follow-on leaves the trackers and the marker records, and what it does beside is report
OVERWIND and SLACK. -/
theorem followOn_unmissed (free : ¬(((tracker c s).datumed = true ∧ (tracker c s).reported ≠ before)
      ∧ ∃ i m, Expects c i m s ∧ HasPassed c m s)) :
    (followOn c before s).trackers = s.trackers ∧ (followOn c before s).tables.markers = s.tables.markers
      ∧ (¬(((tracker c s).datumed = true ∧ (tracker c s).reported ≠ before) ∧ BeyondLimits c s) → ¬RopeIsSlack c s →
        followOn c before s = s) := by
  have run : followOn c before s = checkSlack c (reportIf (decide ((tracker c s).reported ≠ before) && isOverwound c s) .overwind s) := by
    by_cases changed : (tracker c s).reported = before
    · rw [followOn, if_pos changed, decide_eq_false (not_not.mpr changed)]; rfl
    · have none : missedMarker c s = none := by
        refine missedMarker_eq_none ?_
        rintro ⟨datumed, missed⟩
        exact free ⟨⟨datumed, changed⟩, missed⟩
      rw [followOn_changed changed, depthChecks_unmissed none, decide_eq_true changed, Bool.true_and]; rfl
  have records (condition : Bool) (cause : Cause) (u : State) : (reportIf condition cause u).tables.markers = u.tables.markers := by
    unfold reportIf; split
    · exact (reportCause_rows cause .shaft u).2.2
    · rfl
  rw [run, checkSlack]
  refine ⟨by simp, by rw [records, records], fun within taut => ?_⟩
  have calm : (decide ((tracker c s).reported ≠ before) && isOverwound c s) = false := by
    rw [Bool.eq_false_iff, ne_eq, Bool.and_eq_true, decide_eq_true_eq, isOverwound_iff]
    rintro ⟨changed, datumed, beyond⟩
    exact within ⟨⟨datumed, changed⟩, beyond⟩
  rw [calm, reportIf_false, Bool.eq_false_iff.mpr (mt (isSlack_iff c s).mp taut), reportIf_false]

end

/-! ### The end of a field frame that moves a conveyance -/

/-- What the creep band, the hand-on and the pass upstream keep. -/
theorem offered_keeps (f : Frame) (s : State) :
    let t := offerUp .field f (handOn (judgeCreeping s))
    t.trackers = s.trackers ∧ t.protection = s.protection ∧ t.tables = s.tables ∧ (∀ d, channel d t = channel d s)
      ∧ tally t = tally s ∧ ∀ g, flagSet g s = true → flagSet g t = true := by
  have drums (t : State) (same : t.drums = s.drums) (d : Drum) : channel d t = channel d s := channel_congr d same
  refine ⟨by simp, by simp, by simp, drums _ (by simp), ?_, fun g set => ?_⟩
  · rw [tally_offerUp, tally_handOn]; exact tally_of_requests (by simp)
  · have creeps : flagSet g (judgeCreeping s) = true := by simpa [flagSet] using set
    rw [flagSet_offerUp, flagSet_handOn_of_set creeps]; rfl

/-! ### ROPE LOAD (R54) -/

theorem readLoad_loadBody (c : Conveyance) (load : BitVec 16) :
    readLoad (loadBody (byteOf c.index) load) = some { conveyance := c, load := min load.toNat 60000 } := by
  have size : (loadBody (byteOf c.index) load).length = 3 := by simp [loadBody]
  have conveyance : field (loadBody (byteOf c.index) load) 0 1 = (byteOf c.index).toNat := field_first _ _
  have number : field (loadBody (byteOf c.index) load) 1 2 = load.toNat := be_beBytes_of_lt (n := 2) load.isLt
  rw [readLoad, if_pos size, conveyance, number, ofCode_byteOf_index]
  rfl

/-- A ROPE LOAD completes as its tracker takes it. -/
theorem forwards_ropeLoad {s : State} (c : Conveyance) (origin target : Byte) (load : BitVec 16) (ready : Ready .d s) :
    Forwards (.ropeLoad origin target (loadBody (byteOf c.index) load))
      (makeFrame 0x22 origin target (loadBody (byteOf c.index) load)) s
      (observeLoad { conveyance := c, load := min load.toNat 60000 } s) := by
  have observed : observe (makeFrame 0x22 origin target (loadBody (byteOf c.index) load)) s
      = observeLoad { conveyance := c, load := min load.toNat 60000 } s := by
    have read := readLoad_loadBody c load
    change (match readLoad (loadBody (byteOf c.index) load) with | some x => observeLoad x s | none => s) = _
    rw [read]
  rw [← observed]
  exact completes_observed ready rfl (by simp [loadBody]) (by decide)

/-- A conveyance with its load written and its depths recomputed. -/
def loaded (c : Conveyance) (load : Nat) (s : State) : State :=
  recomputeTracker c (setTracker c { tracker c s with load } s)

theorem loaded_tracker (c : Conveyance) (load : Nat) (s : State) :
    tracker c (loaded c load s)
      = { tracker c s with load }.recomputed c (compartmentRow c s) (channel (drumOf c) s).payout := by
  rw [loaded, recomputeTracker, tracker_setTracker_same, tracker_setTracker_same]
  congr 1

/-- Settles O25: the load and the depths written, and the follow-on. -/
theorem loadsStretchTheRope : Obligations.LoadsStretchTheRope := by
  intro s c origin target load ready
  refine ⟨_, forwards_ropeLoad c origin target load ready, ?_⟩
  have leaves : LeavesAlone s (offerUp .field (makeFrame 0x22 origin target (loadBody (byteOf c.index) load))
      (observeLoad { conveyance := c, load := min load.toNat 60000 } s)) :=
    leavesAlone_of_observed (ends_observeLoad (Nat.le_refl 1) _ s)
  generalize stretched_is : loaded c (min load.toNat 60000) s = stretched
  have run : observeLoad { conveyance := c, load := min load.toNat 60000 } s
      = handOn (judgeCreeping (followOn c (tracker c s).reported stretched)) := by rw [← stretched_is]; rfl
  rw [run] at leaves ⊢
  generalize makeFrame 0x22 origin target (loadBody (byteOf c.index) load) = f at leaves ⊢
  obtain ⟨trackers, protection, tables, channels, tallied, flags⟩ := offered_keeps f (followOn c (tracker c s).reported stretched)
  generalize offerUp .field f (handOn (judgeCreeping (followOn c (tracker c s).reported stretched))) = t
    at leaves trackers protection tables channels tallied flags ⊢
  have kept := checked_followOn c (tracker c s).reported stretched
  have own : tracker c stretched = _ := stretched_is ▸ loaded_tracker c (min load.toNat 60000) s
  obtain ⟨datumed, direction, reported, baseFine, stretch, offset, carried, -⟩ := kept.keeps
  have last (x : Conveyance) : tracker x t = tracker x (followOn c (tracker c s).reported stretched) := tracker_congr x trackers
  have tables' : stretched.tables = s.tables := by rw [← stretched_is]; rfl
  have protection' : stretched.protection = s.protection := by rw [← stretched_is]; rfl
  have misses' : stretched.requests = s.requests := by rw [← stretched_is]; rfl
  have channels' (d : Drum) : channel d stretched = channel d s := by rw [← stretched_is]; cases d <;> rfl
  have drums (d : Drum) : channel d t = channel d s := by
    rw [channels, channel_of_monitored kept.1.monitored, channels']
  have ended : KeepsTrip (followOn c (tracker c s).reported stretched) t := .of_same protection
  have started : KeepsTrip s stretched := .of_same protection'
  have expects_iff (i : Nat) (m : MarkerRow) : Expects c i m stretched ↔ Expects c i m s := by
    simp only [Expects, markers, tables', own]; rfl
  have passed_iff (m : MarkerRow) : HasPassed c m t ↔ HasPassed c m stretched := by
    rw [← kept.hasPassed]
    simp only [HasPassed, compartmentRow, tables, last]
  have beyond_iff : BeyondLimits c t ↔ BeyondLimits c stretched := by
    rw [← kept.beyondLimits]
    simp only [BeyondLimits, compartmentRow, tables, last]
  have slack_iff : RopeIsSlack c t ↔ RopeIsSlack c stretched := by
    rw [← kept.ropeIsSlack]
    simp only [RopeIsSlack, compartmentRow, tables, last, channels]
  have judged_iff : ((tracker c s).datumed = true ∧ (tracker c t).reported ≠ (tracker c s).reported)
      ↔ ((tracker c stretched).datumed = true ∧ (tracker c stretched).reported ≠ (tracker c s).reported) := by
    rw [last, reported, own]; rfl
  refine ⟨?load, ?offset, ?datumed, ?base, ?stretch, ?reported, fun other away => ?others, leaves, drums, ?image,
    fun judged i m expects passed => ?miss, fun judged beyond => ?overwind, fun slack => ?slack, fun free => ?unmissed⟩
  case load => rw [last, carried, own]; rfl
  case offset => rw [last, offset, own]; rfl
  case datumed => rw [last, datumed, own]; rfl
  case base => rw [last, baseFine, own]; rfl
  case stretch =>
    rw [last, stretch, baseFine, own]
    simp only [Tracker.recomputed]
    cases compartmentRow c s <;> rfl
  case reported => rw [last, reported, baseFine, stretch, own]; rfl
  case others =>
    rw [last, kept.2.1 other away, ← stretched_is, loaded, recomputeTracker, tracker_setTracker_other _ _ away,
      tracker_setTracker_other _ _ away]
  case image =>
    rw [protection, image_of_monitored kept.1.monitored, protection']
  case miss =>
    obtain ⟨isDatumed, changed⟩ := judged_iff.mp judged
    have missed := (missedMarker_iff c i m stretched).mpr ⟨isDatumed, (expects_iff i m).mpr expects, (passed_iff m).mp passed⟩
    obtain ⟨took, bounded, record⟩ := followOn_miss isDatumed changed missed
    have took' := took.later bounded (u := t) (by rw [last]) (by rw [last]) (flags _) (.of_tally tallied)
    refine ⟨by simpa only [TookMiss, misses'] using took', fun inside => ?_⟩
    rw [recordOf, tables]
    have now := record (by rwa [tables'])
    rw [recordOf, recordOf, tables'] at now
    rw [now]; rfl
  case overwind =>
    obtain ⟨isDatumed, changed⟩ := judged_iff.mp judged
    exact (followOn_overwind isDatumed changed (beyond_iff.mp beyond)).around started ended
  case slack => exact (followOn_slack (slack_iff.mp slack)).around started ended
  case unmissed =>
    simp only [judged_iff, passed_iff, ← expects_iff] at free
    obtain ⟨trackers', records, quiet⟩ := followOn_unmissed free
    have same : tracker c t = tracker c stretched := (last c).trans (tracker_congr c trackers')
    refine ⟨by rw [tables, records, tables'], by rw [same, own]; rfl, by rw [same, own]; rfl, fun within taut => ?_⟩
    rw [judged_iff, beyond_iff] at within
    rw [protection, quiet within (mt slack_iff.mpr taut), protection']

end Sys2Proof.Machine

/-! PROOF. TRIP REQUEST: what it asks for, its refusals in order, and the trip placed (chapter 5). -/

namespace Sys2Proof.Machine

/-! ### The trip asked for (R73, R75) -/

theorem agrees_station_iff (lead : Lead) (r : Regime) : agrees false lead r = true ↔
    (r = .rock ∧ lead = .skip ∨ r = .material ∧ lead = .cage ∨ r = .persons ∧ lead = .cage ∨ r = .inspection) := by
  cases r <;> cases lead <;> decide

theorem agrees_travel_iff (lead : Lead) (r : Regime) : agrees true lead r = true ↔ (r = .inspection ∨ r = .recovery) := by
  cases r <;> cases lead <;> decide

section

variable {params : List Byte} {s : State} {lead : Lead} {regime : Regime}
  (lead_is : Lead.ofCode (readTripParams params).lead = some lead)
  (regime_is : Regime.ofCode (readTripParams params).regime = some regime)

include lead_is regime_is

theorem readTrip_station (kind : (readTripParams params).kind = 0) {st : StationRow}
    (there : (stations s)[(readTripParams params).station]? = some st) :
    readTrip params s =
      if !agrees false lead regime then .error (Config.tripFieldNamed 0 params)
      else if st.compartment ≠ lead.conveyance then .error (Config.tripFieldNamed 1 params)
      else if !st.allows regime then .error (Config.tripFieldNamed 2 params)
      else .ok { tag := (readTripParams params).tag, kind := .station (readTripParams params).station, lead, regime,
                 direction := .forward } := by
  simp only [readTrip, kind, lead_is, regime_is, there]

theorem readTrip_travel (kind : (readTripParams params).kind = 1) {direction : DrumDirection}
    (way : DrumDirection.ofCode (readTripParams params).direction = some direction) :
    readTrip params s =
      if (readTripParams params).travel < 100 ∨ 100000 < (readTripParams params).travel then .error 7
      else if !agrees true lead regime then .error (Config.tripFieldNamed 0 params)
      else .ok { tag := (readTripParams params).tag, kind := .travel (readTripParams params).travel, lead, regime,
                 direction } := by
  simp only [readTrip, kind, lead_is, regime_is, way]

end

/-- A STATION request is read exactly when it asks for its trip. -/
theorem readTrip_ok_station {params : List Byte} {a : TripAsked} {s : State} (kind : (readTripParams params).kind = 0) :
    readTrip params s = .ok a ↔ AsksFor params a s := by
  unfold AsksFor
  cases lead_is : Lead.ofCode (readTripParams params).lead with
  | none => simp [readTrip, kind, lead_is]
  | some lead =>
  cases regime_is : Regime.ofCode (readTripParams params).regime with
  | none => simp [readTrip, kind, lead_is, regime_is]
  | some regime =>
  cases there : (stations s)[(readTripParams params).station]? with
  | none => simp [readTrip, kind, lead_is, regime_is, there]
  | some st =>
  rw [readTrip_station lead_is regime_is kind there]
  constructor
  · intro ok
    split_ifs at ok with disagrees away forbidden
    cases ok
    exact ⟨rfl, lead_is, regime_is, .inl ⟨kind, rfl, rfl, ⟨st, there, not_not.mp away, by simpa [StationRow.allows] using forbidden⟩,
      (agrees_station_iff lead regime).mp (by simpa using disagrees)⟩⟩
  · rintro ⟨tag, lead_eq, regime_eq, ⟨-, kind_is, direction, ⟨st', same, compartment, allowed⟩, agree⟩ | ⟨travels, -⟩⟩
    · obtain ⟨tag', kind', lead', regime', direction'⟩ := a
      cases lead_is.symm.trans lead_eq; cases regime_is.symm.trans regime_eq; cases there.symm.trans same
      simp only at tag kind_is direction compartment allowed agree
      subst tag kind_is direction
      have agree' := (agrees_station_iff lead' regime').mpr agree
      simp [agree', compartment, StationRow.allows, allowed]
    · rw [kind] at travels; cases travels

/-- A TRAVEL request is read exactly when it asks for its trip. -/
theorem readTrip_ok_travel {params : List Byte} {a : TripAsked} {s : State} (kind : (readTripParams params).kind = 1) :
    readTrip params s = .ok a ↔ AsksFor params a s := by
  unfold AsksFor
  cases lead_is : Lead.ofCode (readTripParams params).lead with
  | none => simp [readTrip, kind, lead_is]
  | some lead =>
  cases regime_is : Regime.ofCode (readTripParams params).regime with
  | none => simp [readTrip, kind, lead_is, regime_is]
  | some regime =>
  cases way : DrumDirection.ofCode (readTripParams params).direction with
  | none => simp [readTrip, kind, lead_is, regime_is, way]
  | some direction =>
  rw [readTrip_travel lead_is regime_is kind way]
  constructor
  · intro ok
    split_ifs at ok with outside disagrees
    cases ok
    exact ⟨rfl, lead_is, regime_is, .inr ⟨kind, rfl, way, by omega, by omega,
      (agrees_travel_iff lead regime).mp (by simpa using disagrees)⟩⟩
  · rintro ⟨tag, lead_eq, regime_eq, ⟨lands, -⟩ | ⟨-, kind_is, direction_eq, least, most, agree⟩⟩
    · rw [kind] at lands; cases lands
    · obtain ⟨tag', kind', lead', regime', direction'⟩ := a
      cases lead_is.symm.trans lead_eq; cases regime_is.symm.trans regime_eq; cases way.symm.trans direction_eq
      simp only at tag kind_is agree
      subst tag kind_is
      have agree' := (agrees_travel_iff lead' regime').mpr agree
      have inside : ¬((readTripParams params).travel < 100 ∨ 100000 < (readTripParams params).travel) := by omega
      simp [agree', inside]

/-- A request is read as a trip exactly when it asks for that trip. -/
theorem readTrip_ok_iff (params : List Byte) (a : TripAsked) (s : State) : readTrip params s = .ok a ↔ AsksFor params a s := by
  by_cases station : (readTripParams params).kind = 0
  · exact readTrip_ok_station station
  · by_cases travel : (readTripParams params).kind = 1
    · exact readTrip_ok_travel travel
    · obtain ⟨k, other⟩ : ∃ k, (readTripParams params).kind = k + 2 := ⟨(readTripParams params).kind - 2, by omega⟩
      have error : readTrip params s = .error 2 := by
        cases lead : Lead.ofCode (readTripParams params).lead <;> cases regime : Regime.ofCode (readTripParams params).regime <;>
          simp [readTrip, other, lead, regime]
      rw [error]
      constructor
      · intro ok; cases ok
      · rintro ⟨-, -, -, ⟨kind, -⟩ | ⟨kind, -⟩⟩
        · exact absurd kind station
        · exact absurd kind travel

/-! ### The refusals in order (R75) -/

/-- TRIP REQUEST of the controller completes as its own rule answers it. -/
theorem answers_tripRequest {s after : State} (tag : Byte) {params : List Byte} {r : Reply} (ready : Ready .c s)
    (size : params.length = 10) (ruled : takeTripRequest params s = (after, r)) :
    Answers (.tripRequest 1 tag params) 1 0x06 tag s after r :=
  answers_of_ownRule (k := .tripRequest) rfl ready (by omega) (by simp [lengthFits, RequestKind.paramLength, size]) ruled

/-- A start at the stop, within its window, is what condition 10 refuses. -/
theorem startsWithinWindow_of {t : Trip} {s : State} {k : Nat} {st : StationRow} {start : Int} (kind : t.kind = .station k)
    (there : (stations s)[k]? = some st) (starts : t.starts.get t.lead.conveyance = some start)
    (close : (start - st.stopDepth).natAbs ≤ st.window) : startsWithinWindow t s = true := by
  simp [startsWithinWindow, starts, stopDepthOf, windowOf, kind, there, close]

section

variable {s : State} {params : List Byte}
  (takes : ¬(s.protection.state = .noTables ∨ s.protection.state = .tripped ∨ stopRuns s = true))
  (closed : commitmentOpen s = false) (free : s.pipeline.waiting = none)

include takes closed free

/-- Conditions 1 to 4 met, a request is judged by its tag and its fields. -/
theorem takeTripRequest_read (fresh : tagRefused (params.getD 0 0) s = false) {a : TripAsked} (read : readTrip params s = .ok a) :
    takeTripRequest params s = judgeTrip params a s := by
  simp only [takeTripRequest, if_neg takes, closed, free, fresh, read]; rfl

theorem takeTripRequest_misread (fresh : tagRefused (params.getD 0 0) s = false) {p : Byte} (read : readTrip params s = .error p) :
    takeTripRequest params s = (s, .outOfRange p) := by
  simp only [takeTripRequest, if_neg takes, closed, free, fresh, read]; rfl

theorem takeTripRequest_duplicate (used : tagRefused (params.getD 0 0) s = true) :
    takeTripRequest params s = (s, .bare .duplicate) := by
  simp only [takeTripRequest, if_neg takes, closed, free, used]; rfl

end

section

variable {s : State} {params : List Byte} {a : TripAsked}
  (datumed : ¬(s.protection.state = .undatumed ∧ a.regime ≠ .recovery))
  (clutch : ¬(s.protection.image.clutch = .moving ∨ (a.lead = .cage ∧ s.protection.image.clutch ≠ .engaged)))

include datumed clutch

/-- Conditions 7 and 8 met, a trip is judged by readiness, its start and the holds. -/
theorem judgeTrip_ready : judgeTrip params a s =
    ((notReady (candidate a s).movesAll s).elim
      (if startsWithinWindow (candidate a s) s then (s, .outOfRange (Config.tripFieldNamed 3 params))
        else ((heldAgainst (candidate a s) s).head?.elim (placeTrip (candidate a s) s)
          fun z => (s, { result := .held, data := [byteOf z] })))
      fun data => (s, { result := .notReady, data })) := by
  simp only [judgeTrip, if_neg datumed, if_neg clutch]
  cases notReady (candidate a s).movesAll s with
  | some data => rfl
  | none => cases heldAgainst (candidate a s) s <;> rfl

end

/-- Settles O51: the chain of R75, condition by condition. -/
theorem tripsAreRefusedInOrder : Obligations.TripsAreRefusedInOrder := by
  intro s tag params ready size request refused state
  have answer {r : Reply} (ruled : takeTripRequest params s = (s, r)) : refused r := answers_tripRequest tag ready size ruled
  refine ⟨fun stops => answer ?state, fun takes opened => answer ?busy, fun takes closed full => answer ?full,
    fun takes closed free => ⟨fun used => answer (takeTripRequest_duplicate takes closed free used),
      fun a => readTrip_ok_iff params a s, fun fresh none => ?range, fun a fresh read => ?judged⟩⟩
  case state => exact if_pos stops
  case busy => exact (if_neg takes).trans (if_pos opened)
  case full =>
    have waits : s.pipeline.waiting.isSome = true := Option.isSome_iff_ne_none.mpr full
    exact (if_neg takes).trans ((if_neg (by rw [closed]; decide)).trans (if_pos waits))
  case range =>
    cases read : readTrip params s with
    | ok a => exact absurd ⟨a, (readTrip_ok_iff params a s).mp read⟩ none
    | error p => exact ⟨p, answer (takeTripRequest_misread takes closed free fresh read)⟩
  case judged =>
    intro undatumed clutch
    have run := takeTripRequest_read takes closed free fresh read
    refine ⟨fun is => answer ?_, fun datumed is => answer ?_, fun data datumed engaged is => answer ?_,
      fun k st start datumed engaged is kind there starts close => ⟨Config.tripFieldNamed 3 params, answer ?_⟩,
      fun z rest datumed engaged is away held => answer ?_⟩
    · rw [run, judgeTrip, if_pos is]; rfl
    · rw [run, judgeTrip, if_neg datumed, if_pos is]; rfl
    · rw [run, judgeTrip_ready datumed engaged, is]; rfl
    · have within : startsWithinWindow (candidate a s) s = true := startsWithinWindow_of (t := candidate a s) kind there starts close
      rw [run, judgeTrip_ready datumed engaged, is, Option.elim_none, if_pos within]; rfl
    · rw [run, judgeTrip_ready datumed engaged, is, Option.elim_none, if_neg (by rw [away]; decide), held]; rfl

/-! ### The trip placed (R76 to R78) -/

theorem candidate_starts (a : TripAsked) (s : State) :
    (s.pipeline.active = none → StartsHere (candidate a s) s)
      ∧ ∀ ahead, s.pipeline.active = some ahead → (candidate a s).starts = ahead.ends := by
  refine ⟨fun empty c => ?_, fun ahead active => ?_⟩
  · have starts : (candidate a s).starts = presentStarts (candidate a s).movesAll s := by
      simp [candidate, planned, empty]
    rw [starts]
    exact presentStarts_get _ s c
  · simp [candidate, planned, active]

/-- A STATION trip's direction takes its lead from its start toward the stop. -/
theorem candidate_direction {a : TripAsked} {s : State} {k : Nat} {st : StationRow} {start : Int} (kind : a.kind = .station k)
    (there : (stations s)[k]? = some st) (starts : (candidate a s).starts.get a.lead.conveyance = some start) :
    (candidate a s).direction = directionToward a.lead start st.stopDepth a.direction := by
  simp only [candidate, planned, stopDepthOf, kind, there, Option.map_some] at starts ⊢
  rw [starts]

theorem candidate_heads (a : TripAsked) (s : State) : HeadsForStop (candidate a s) s := by
  intro k st start kind there starts
  have direction := candidate_direction (a := a) kind there starts
  have lead : (candidate a s).lead = a.lead := rfl
  rw [direction, lead]
  unfold directionToward
  cases a.lead <;> constructor <;> intro h <;> simp [h, Lead.conveyance, not_lt_of_gt] <;> decide

/-- Settles O50: every condition met, the candidate is placed, and it carries the plan that `planned` gives it. -/
theorem acceptedTripsArePlaced : Obligations.AcceptedTripsArePlaced := by
  intro s tag params a ready size takes moving closed free fresh read regime clutch lead isReady away unheld placed
  have stands : ¬(s.protection.state = .noTables ∨ s.protection.state = .tripped ∨ stopRuns s = true) := by
    rw [moving]
    obtain state | state := takes <;> rw [state] <;> decide
  have datumed : ¬(s.protection.state = .undatumed ∧ a.regime ≠ .recovery) := fun ⟨state, other⟩ => other (regime state)
  have engaged : ¬(s.protection.image.clutch = .moving ∨ (a.lead = .cage ∧ s.protection.image.clutch ≠ .engaged)) := by
    rintro (moves | ⟨cage, out⟩)
    · exact clutch moves
    · exact out (lead cage)
  have run : takeTripRequest params s = placeTrip (candidate a s) s := by
    rw [takeTripRequest_read stands closed free fresh read, judgeTrip_ready datumed engaged, isReady, Option.elim_none,
      if_neg (by rw [away]; decide), unheld]
    rfl
  refine ⟨⟨rfl, rfl, rfl, rfl, rfl, rfl, rfl, decide_eq_true_iff, (candidate_starts a s).1, (candidate_starts a s).2,
    fun ⟨length, kind⟩ => ?travels, candidate_heads a s, planned_carries _ s⟩, fun empty => ?active, fun busy => ?waiting⟩
  case travels => simp [placed, candidate, planned, stopDepthOf, kind]
  case active =>
    refine answers_tripRequest tag ready size (run.trans ?_)
    rw [placeTrip, empty]
    rfl
  case waiting =>
    obtain ⟨ahead, active⟩ := Option.ne_none_iff_exists'.mp busy
    refine answers_tripRequest tag ready size (run.trans ?_)
    rw [placeTrip, active]
    rfl

end Sys2Proof.Machine

/-! PROOF. Own marker reads: the expectation and the sync (chapter 4). -/

namespace Sys2Proof.Machine

/-! ### The expectation across states that look alike (R62, R63) -/

theorem WentBeyond.congr {c : Conveyance} {depth : Int} {s t : State} (h : WentBeyond c depth s)
    (own : tracker c t = tracker c s) (rows : markers t = markers s) : WentBeyond c depth t := by
  simpa only [WentBeyond, own, rows] using h

theorem IsNearest.congr {expected : Option Nat} {c : Conveyance} {dir : Direction} {here : Int} {s t : State}
    (h : IsNearest expected c dir here s) (rows : markers t = markers s) : IsNearest expected c dir here t := by
  simpa only [IsNearest, rows] using h

theorem searchAfresh_tracker (c : Conveyance) (s : State) :
    tracker c (searchAfresh c s) = { tracker c s with
      expected := nearestAhead (markers s) c (tracker c s).direction (tracker c s).reported } := tracker_setTracker_same ..

theorem checked_searchAfresh (c : Conveyance) (s : State) : Checked c s (searchAfresh c s) :=
  ⟨reaches_searchAfresh c s, fun _ away => tracker_setTracker_other _ _ away, by rw [searchAfresh_tracker],
    by rw [searchAfresh_tracker]; exact id, rfl⟩

/-- A fresh search leaves no marker missed: what it expects lies ahead. -/
theorem searchAfresh_unmissed (c : Conveyance) (s : State) : missedMarker c (searchAfresh c s) = none := by
  refine missedMarker_eq_none ?_
  rintro ⟨-, i, m, ⟨expected, there⟩, row, -, passed⟩
  rw [searchAfresh_tracker] at expected passed
  obtain ⟨m', there', ⟨-, -, ahead⟩, -⟩ := (nearestAhead_isNearest c (tracker c s).direction (tracker c s).reported s).2 i expected
  obtain rfl := Option.some.inj (there.symm.trans there')
  obtain ⟨down, before⟩ | ⟨up, before⟩ := ahead <;> obtain ⟨down', past⟩ | ⟨up', past⟩ := passed
  · dsimp only at past; omega
  · rw [down] at up'; cases up'
  · rw [up] at down'; cases down'
  · dsimp only at past; omega

/-- The miss check takes no miss, or it sets the miss flag and counts. -/
theorem checkMisses_unflagged {c : Conveyance} {s : State} (unflagged : (tracker c (checkMisses c s)).missFlag = false) :
    missedMarker c s = none := by
  cases missed : missedMarker c s with
  | none => rfl
  | some p =>
    obtain ⟨⟨flag, -⟩, -⟩ := checkMisses_tookMiss (m := p.2) missed
    rw [flag] at unflagged
    cases unflagged

theorem checkMisses_uncounted {c : Conveyance} {s : State}
    (same : (checkMisses c s).requests.counters.misses = s.requests.counters.misses)
    (low : s.requests.counters.misses < 65535) : missedMarker c s = none := by
  cases missed : missedMarker c s with
  | none => rfl
  | some p =>
    obtain ⟨⟨-, -, -, counted⟩, -⟩ := checkMisses_tookMiss (m := p.2) missed
    omega

/-! ### The read of a marker without a sync (R63, R64) -/

theorem isExpected_iff (c : Conveyance) (i : Nat) (s : State) : isExpected c i s = true ↔ (tracker c s).expected = some i := by
  simp [isExpected]

theorem checked_satisfy (c : Conveyance) (i : Nat) (depth : Int) (s : State) : Checked c s (satisfy c i depth s) := by
  unfold satisfy; split
  · exact .trans (checked_advanceBeyond c depth s) (checked_checkMisses c _)
  · exact .refl c s

section

variable {c : Conveyance} {i : Nat} {depth : Int} {s : State}

theorem satisfy_expected (expected : (tracker c s).expected = some i) :
    satisfy c i depth s = checkMisses c (advanceBeyond c depth s) := if_pos ((isExpected_iff c i s).mpr expected)

theorem satisfy_other (other : (tracker c s).expected ≠ some i) : satisfy c i depth s = s :=
  if_neg (mt (isExpected_iff c i s).mp other)

theorem satisfy_wentBeyond (expected : (tracker c s).expected = some i) : WentBeyond c depth (satisfy c i depth s) := by
  rw [satisfy_expected expected]
  exact missCheck_wentBeyond _ (advanceBeyond_wentBeyond c depth s)

/-- With no miss counted, the read of the expected marker leaves the nearest one beyond it expected. -/
theorem satisfy_nearest (expected : (tracker c s).expected = some i)
    (same : (satisfy c i depth s).requests.counters.misses = s.requests.counters.misses)
    (low : s.requests.counters.misses < 65535) :
    IsNearest (tracker c (satisfy c i depth s)).expected c (tracker c (satisfy c i depth s)).direction depth s := by
  rw [satisfy_expected expected] at same ⊢
  have none := checkMisses_uncounted (c := c) (s := advanceBeyond c depth s) same low
  rw [checkMisses, missCheck_none none, advanceBeyond_tracker]
  exact nearestAhead_isNearest c _ depth s

end

/-! ### A sync (R59, R61) -/

theorem makeSync_tracker (c : Conveyance) (deviation : Int) (s : State) :
    tracker c (makeSync c deviation s)
      = { { tracker c s with offset := shiftOffset (tracker c s).offset deviation }.recomputed c (compartmentRow c s)
            (channel (drumOf c) s).payout with missFlag := false } := by
  have counted (u : State) : tracker c (count .syncs u) = tracker c u := rfl
  rw [makeSync]
  dsimp only
  rw [tracker_setTracker_same, counted, recomputeTracker, tracker_setTracker_same, tracker_setTracker_same]
  rfl

theorem makeSync_tracker_other {c other : Conveyance} (away : other ≠ c) (deviation : Int) (s : State) :
    tracker other (makeSync c deviation s) = tracker other s := by
  have counted (u : State) : tracker other (count .syncs u) = tracker other u := rfl
  rw [makeSync]
  dsimp only
  rw [tracker_setTracker_other _ _ away, counted, recomputeTracker, tracker_setTracker_other _ _ away,
    tracker_setTracker_other _ _ away]

theorem baseDepth_shiftOffset (c : Conveyance) (offset deviation payout : Int) :
    baseDepth c (shiftOffset offset deviation) payout = baseDepth c offset payout + deviation * 65536 := by
  cases c <;> simp only [baseDepth, shiftOffset, Config.fineUnits] <;> push_cast <;> omega

theorem checked_expectAfterSync (c : Conveyance) (i : Nat) (depth : Int) (s : State) : Checked c s (expectAfterSync c i depth s) := by
  unfold expectAfterSync; split
  · exact checked_advanceBeyond c depth s
  · exact checked_searchAfresh c s

theorem checked_afterRead (c : Conveyance) (before : Int) (s : State) : Checked c s (afterRead c before s) := by
  unfold afterRead; split
  · exact checked_checkMisses c s
  · exact checked_depthChecks c s

theorem checked_checkPair (c : Conveyance) (s : State) : Checked c s (checkPair c s) := checked_reportIf c _ _ s

/-- With no marker missed, what follows a read leaves the trackers. -/
theorem afterRead_trackers {c : Conveyance} {before : Int} {s : State} (none : missedMarker c s = none) :
    (afterRead c before s).trackers = s.trackers := by
  unfold afterRead; split
  · rw [checkMisses, missCheck_none none]
  · rw [depthChecks_unmissed none, checkOverwind]; simp

/-- What follows a read takes no miss unless the miss flag then stands. -/
theorem afterRead_unflagged {c : Conveyance} {before : Int} {s : State} (datumed : (tracker c s).datumed = true)
    (unflagged : (tracker c (afterRead c before s)).missFlag = false) : missedMarker c s = none := by
  cases missed : missedMarker c s with
  | none => rfl
  | some p =>
    have flag : (tracker c (afterRead c before s)).missFlag = true := by
      unfold afterRead; split
      · exact (checkMisses_tookMiss (m := p.2) missed).1.1
      · exact (depthChecks_miss datumed (m := p.2) missed).1.1
    rw [flag] at unflagged
    cases unflagged

theorem afterRead_wentBeyond {c : Conveyance} {before depth : Int} {s : State} (beyond : WentBeyond c depth s) :
    WentBeyond c depth (afterRead c before s) := by
  have checked : WentBeyond c depth (checkMisses c s) := missCheck_wentBeyond _ beyond
  unfold afterRead; split
  · exact checked
  · unfold depthChecks; split
    · have kept := checked_checkOverwind c (checkMisses c s)
      exact checked.congr (tracker_congr c (by simp [checkOverwind])) kept.markers
    · exact beyond

/-- The pair check reports PAIR for a broken pair of DATUMED trackers (R61). -/
theorem reports_checkPair {c : Conveyance} {s : State} {R : ShaftRow} (away : c ≠ .skip) (row : shaftRow s = some R)
    (cage : s.trackers.cage.datumed = true) (counterweight : s.trackers.counterweight.datumed = true)
    (broken : R.pairTolerance < (mm s.trackers.cage.baseFine + mm s.trackers.counterweight.baseFine - (R.pairSum : Int)).natAbs) :
    Reports .pair s (checkPair c s) := by
  refine reports_reportIf ?_ _ s
  simp [pairBroken, row, cage, counterweight, broken, away]

/-! ### The completion of an own read (R57) -/

/-- A read with the mark as the last one read. -/
theorem observeMarker_own {s : State} {c : Conveyance} {id i : Nat} {m : MarkerRow} (found : findMarker id s = some (i, m))
    (own : m.compartment = c) (good : Bool) :
    observeMarker { conveyance := c, markerId := id, good } s = takeOwnRead c i m good (setLastMarker c id s) := by
  unfold observeMarker
  simp only [found, own, if_true]

theorem takeOwnRead_datumed {c : Conveyance} {i : Nat} {m : MarkerRow} {s : State} (good : Bool)
    (datumed : (tracker c s).datumed = true) :
    takeOwnRead c i m good s = handOn (judgeCreeping (if good then judgeSync c i m s else satisfy c i m.depth s)) := by
  rw [takeOwnRead, if_pos datumed]

section

variable {c : Conveyance} {i : Nat} {m : MarkerRow} {s : State} {row : CompartmentRow} (found : compartmentRow c s = some row)

include found

theorem judgeSync_within (close : (m.depth - (tracker c s).reported).natAbs ≤ row.syncWindow) :
    judgeSync c i m s = checkPair c (afterRead c (tracker c s).reported
      (expectAfterSync c i m.depth (makeSync c (m.depth - (tracker c s).reported) s))) := by
  simp only [judgeSync, found, if_pos close]

theorem judgeSync_beyond (away : row.syncWindow < (m.depth - (tracker c s).reported).natAbs) :
    judgeSync c i m s = satisfy c i m.depth (reportCause .position s) := by
  simp only [judgeSync, found, if_neg (not_le.mpr away)]

end

/-- The state whose expectation the follow-on of a sync judges. -/
def synced (c : Conveyance) (i : Nat) (m : MarkerRow) (s : State) : State :=
  expectAfterSync c i m.depth (makeSync c (m.depth - (tracker c s).reported) s)

theorem makeSync_rows (c : Conveyance) (deviation : Int) (s : State) :
    (makeSync c deviation s).tables = s.tables ∧ (makeSync c deviation s).drums = s.drums
      ∧ (makeSync c deviation s).protection = s.protection
      ∧ (makeSync c deviation s).requests.counters.syncs = min (s.requests.counters.syncs + 1) 65535 :=
  ⟨rfl, rfl, rfl, rfl⟩

/-- What a sync writes of its tracker, and what it leaves. -/
theorem synced_tracker (c : Conveyance) (i : Nat) (m : MarkerRow) (s : State) :
    tracker c (synced c i m s)
      = { { tracker c s with offset := shiftOffset (tracker c s).offset (m.depth - (tracker c s).reported) }.recomputed c
            (compartmentRow c s) (channel (drumOf c) s).payout with
          missFlag := false, expected := (tracker c (synced c i m s)).expected } := by
  have own := makeSync_tracker c (m.depth - (tracker c s).reported) s
  unfold synced expectAfterSync
  split
  · rw [advanceBeyond_tracker, own]
  · rw [searchAfresh_tracker, own]

theorem synced_expected {c : Conveyance} {i : Nat} {m : MarkerRow} {s : State} (expected : (tracker c s).expected = some i) :
    WentBeyond c m.depth (synced c i m s)
      ∧ IsNearest (tracker c (synced c i m s)).expected c (tracker c (synced c i m s)).direction m.depth (synced c i m s) := by
  have run : synced c i m s = advanceBeyond c m.depth (makeSync c (m.depth - (tracker c s).reported) s) := by
    have is : isExpected c i (makeSync c (m.depth - (tracker c s).reported) s) = true :=
      (isExpected_iff _ _ _).mpr (by rw [makeSync_tracker]; exact expected)
    rw [synced, expectAfterSync, if_pos is]
  rw [run]
  refine ⟨advanceBeyond_wentBeyond c _ _, ?_⟩
  rw [advanceBeyond_tracker]
  exact nearestAhead_isNearest c _ _ _

theorem synced_other {c : Conveyance} {i : Nat} {m : MarkerRow} {s : State} (other : (tracker c s).expected ≠ some i) :
    missedMarker c (synced c i m s) = none
      ∧ IsNearest (tracker c (synced c i m s)).expected c (tracker c (synced c i m s)).direction
          (tracker c (synced c i m s)).reported (synced c i m s) := by
  have run : synced c i m s = searchAfresh c (makeSync c (m.depth - (tracker c s).reported) s) := by
    have not : ¬isExpected c i (makeSync c (m.depth - (tracker c s).reported) s) = true := by
      rw [isExpected_iff, makeSync_tracker]; exact other
    rw [synced, expectAfterSync, if_neg not]
  rw [run]
  refine ⟨searchAfresh_unmissed c _, ?_⟩
  rw [searchAfresh_tracker]
  exact nearestAhead_isNearest c _ _ _

/-- The state after a sync stands to the state before as its read wrote it. -/
theorem synced_frame (c : Conveyance) (i : Nat) (m : MarkerRow) (s : State) :
    (synced c i m s).tables = s.tables ∧ (synced c i m s).drums = s.drums ∧ (synced c i m s).protection = s.protection
      ∧ (synced c i m s).requests.counters.syncs = min (s.requests.counters.syncs + 1) 65535
      ∧ ∀ other, other ≠ c → tracker other (synced c i m s) = tracker other s := by
  have others (other : Conveyance) (away : other ≠ c) : tracker other (synced c i m s) = tracker other s := by
    rw [synced, (checked_expectAfterSync c i m.depth _).2.1 other away, makeSync_tracker_other away]
  have written : (synced c i m s).tables = s.tables ∧ (synced c i m s).drums = s.drums
      ∧ (synced c i m s).protection = s.protection
      ∧ (synced c i m s).requests.counters.syncs = min (s.requests.counters.syncs + 1) 65535 := by
    unfold synced expectAfterSync; split <;> exact ⟨rfl, rfl, rfl, rfl⟩
  obtain ⟨tables, drums, protection, syncs⟩ := written
  exact ⟨tables, drums, protection, syncs, others⟩

/-- Depths that follow stay so while the depths, the offset, the load, the SHAFT table and the payout do. -/
theorem DepthsFollow.congr {c : Conveyance} {s t : State} (h : DepthsFollow c s)
    (depths : (tracker c t).baseFine = (tracker c s).baseFine ∧ (tracker c t).stretch = (tracker c s).stretch
      ∧ (tracker c t).reported = (tracker c s).reported)
    (offset : (tracker c t).offset = (tracker c s).offset) (load : (tracker c t).load = (tracker c s).load)
    (rows : t.tables.shaft.active = s.tables.shaft.active)
    (payout : (channel (drumOf c) t).payout = (channel (drumOf c) s).payout) : DepthsFollow c t := by
  obtain ⟨baseFine, stretch, reported⟩ := depths
  have row : compartmentRow c t = compartmentRow c s := by rw [compartmentRow, rows]; rfl
  simpa only [DepthsFollow, baseFine, stretch, reported, offset, load, row, payout] using h

theorem Checked.depthsFollow {c : Conveyance} {s t : State} (kept : Checked c s t) (h : DepthsFollow c s) : DepthsFollow c t := by
  obtain ⟨-, -, reported, baseFine, stretch, offset, load, -⟩ := kept.keeps
  exact h.congr ⟨baseFine, stretch, reported⟩ offset load kept.rows (by rw [channel_of_monitored kept.1.monitored])

/-- Recomputed depths follow from the offset, the load and the payout. -/
theorem depthsFollow_of_recomputed {c : Conveyance} {s : State} (own : Tracker) (e : Option Nat) (f g : Bool)
    (is : tracker c s = { own.recomputed c (compartmentRow c s) (channel (drumOf c) s).payout with
      expected := e, missFlag := f, datumed := g }) : DepthsFollow c s := by
  rw [DepthsFollow, is]
  refine ⟨rfl, ?_, rfl⟩
  simp only [Tracker.recomputed]
  cases compartmentRow c s <;> rfl

theorem synced_depthsFollow (c : Conveyance) (i : Nat) (m : MarkerRow) (s : State) : DepthsFollow c (synced c i m s) := by
  obtain ⟨tables, drums, -⟩ := synced_frame c i m s
  have row : compartmentRow c (synced c i m s) = compartmentRow c s := by rw [compartmentRow, tables]; rfl
  have payout := congrArg Channel.payout (channel_congr (drumOf c) drums)
  refine depthsFollow_of_recomputed { tracker c s with offset := shiftOffset (tracker c s).offset (m.depth - (tracker c s).reported) }
    (tracker c (synced c i m s)).expected false (tracker c s).datumed ?_
  rw [row, payout]
  exact synced_tracker c i m s

/-- The end of a read within the window: the sync judged, and the pair. -/
theorem checked_afterSync (c : Conveyance) (before : Int) (s : State) : Checked c s (checkPair c (afterRead c before s)) :=
  .trans (checked_afterRead c before s) (checked_checkPair c _)

/-- What every GOOD read of a DATUMED tracker keeps, whether it syncs or not. -/
theorem judgeSync_keeps {c : Conveyance} {i : Nat} {m : MarkerRow} {s : State} {row : CompartmentRow}
    (found : compartmentRow c s = some row) :
    (tracker c (judgeSync c i m s)).datumed = (tracker c s).datumed
      ∧ (tracker c (judgeSync c i m s)).lastMarker = (tracker c s).lastMarker
      ∧ (tracker c (judgeSync c i m s)).direction = (tracker c s).direction
      ∧ (∀ other, other ≠ c → tracker other (judgeSync c i m s) = tracker other s)
      ∧ ((tracker c s).expected = some i → WentBeyond c m.depth (judgeSync c i m s)) := by
  by_cases close : (m.depth - (tracker c s).reported).natAbs ≤ row.syncWindow
  · have run := judgeSync_within (i := i) found close
    have kept := checked_afterSync c (tracker c s).reported (synced c i m s)
    obtain ⟨-, -, -, -, others⟩ := synced_frame c i m s
    obtain ⟨datumed, direction, -, -, -, -, -, lastMarker⟩ := kept.keeps
    change judgeSync c i m s = checkPair c (afterRead c (tracker c s).reported (synced c i m s)) at run
    rw [run]
    refine ⟨datumed.trans ?_, lastMarker.trans ?_, direction.trans ?_, fun other away => (kept.2.1 other away).trans (others other away),
      fun expected => ?_⟩
    · rw [synced_tracker]; rfl
    · rw [synced_tracker]; rfl
    · rw [synced_tracker]; rfl
    · exact (afterRead_wentBeyond (synced_expected expected).1).congr (tracker_congr c (by simp [checkPair]))
        (checked_checkPair c _).markers
  · have kept := Checked.trans (checked_reportIf c true .position s) (checked_satisfy c i m.depth _)
    rw [judgeSync_beyond found (not_le.mp close)]
    obtain ⟨datumed, direction, -, -, -, -, -, lastMarker⟩ := kept.keeps
    refine ⟨datumed, lastMarker, direction, kept.2.1, fun expected => satisfy_wentBeyond ?_⟩
    rwa [tracker_congr c (reportCause_trackers s _)]

/-- Settles O28: the branches of the sync judgement, and the read without one. -/
theorem syncsCorrectTheOffset : Obligations.SyncsCorrectTheOffset := by
  intro s c origin target id i m row ready found own there datumed deviation expected
  have noted_tracker : tracker c (setLastMarker c id.toNat s) = { tracker c s with lastMarker := id.toNat } := tracker_setTracker_same ..
  have noted_other (other : Conveyance) (away : other ≠ c) : tracker other (setLastMarker c id.toNat s) = tracker other s :=
    tracker_setTracker_other _ _ away
  have noted_datumed : (tracker c (setLastMarker c id.toNat s)).datumed = true := by rw [noted_tracker]; exact datumed
  have complete (good : Bool) {quality : Byte} (defined : quality = 1 ∨ quality = 2) (same : decide (quality = 1) = good) :
      Completes (.markerEvent origin target (markerBody (byteOf c.index) id quality)) s
        (offerUp .field (makeFrame 0x21 origin target (markerBody (byteOf c.index) id quality))
          (handOn (judgeCreeping (if good then judgeSync c i m (setLastMarker c id.toNat s)
            else satisfy c i m.depth (setLastMarker c id.toNat s))))) := by
    have run := forwards_markerEvent (s := s) c origin target id ready defined
    rw [same, observeMarker_own found own, takeOwnRead_datumed good noted_datumed] at run
    exact run
  have leaves (quality : Byte) (good : Bool) : LeavesAlone s
      (offerUp .field (makeFrame 0x21 origin target (markerBody (byteOf c.index) id quality))
        (handOn (judgeCreeping (if good then judgeSync c i m (setLastMarker c id.toNat s)
          else satisfy c i m.depth (setLastMarker c id.toNat s))))) := by
    have ends := ends_observeMarker (Nat.le_refl 1) { conveyance := c, markerId := id.toNat, good } s
    rw [observeMarker_own found own, takeOwnRead_datumed good noted_datumed] at ends
    exact leavesAlone_of_observed ends
  generalize noted_is : setLastMarker c id.toNat s = noted at *
  have noted_tables : noted.tables = s.tables := by rw [← noted_is]; rfl
  have noted_protection : noted.protection = s.protection := by rw [← noted_is]; rfl
  have noted_requests : noted.requests = s.requests := by rw [← noted_is]; rfl
  have noted_drums : noted.drums = s.drums := by rw [← noted_is]; rfl
  have noted_expected : (tracker c noted).expected = some i ↔ expected := by rw [noted_tracker]
  refine ⟨⟨_, complete true (.inl rfl) rfl, ?good⟩, ⟨_, complete false (.inr rfl) rfl, ?weak⟩⟩
  case good =>
    have found' : compartmentRow c noted = some row := by rw [compartmentRow, noted_tables]; exact there
    have deviation_is : m.depth - (tracker c noted).reported = deviation := by rw [noted_tracker]
    have leaves' := leaves 1 true
    obtain ⟨trackers, protection, tables, channels, tallied, -⟩ :=
      offered_keeps (makeFrame 0x21 origin target (markerBody (byteOf c.index) id 1)) (judgeSync c i m noted)
    simp only [if_true] at leaves' ⊢
    generalize offerUp .field (makeFrame 0x21 origin target (markerBody (byteOf c.index) id 1))
      (handOn (judgeCreeping (judgeSync c i m noted))) = t at trackers protection tables channels tallied leaves' ⊢
    have last (x : Conveyance) : tracker x t = tracker x (judgeSync c i m noted) := tracker_congr x trackers
    have rows : markers t = markers (judgeSync c i m noted) := by rw [markers, tables]; rfl
    have drums (d : Drum) : channel d t = channel d s := by
      rw [channels, channel_of_monitored (reaches_judgeSync c i m noted).monitored, channel_congr d noted_drums]
    have started : KeepsTrip s noted := .of_same noted_protection
    have ended : KeepsTrip (judgeSync c i m noted) t := .of_same protection
    simp only [tally, Prod.mk.injEq] at tallied
    obtain ⟨datumed', lastMarker, direction, others, beyond⟩ := judgeSync_keeps (i := i) (m := m) found'
    refine ⟨?_, ?_, ?_, fun is => ?_, fun other away => ?_, leaves', drums, fun close => ?within, fun away => ?beyond⟩
    · rw [last, datumed', noted_datumed]
    · rw [last, lastMarker, noted_tracker]
    · rw [last, direction, noted_tracker]
    · exact (beyond (noted_expected.mpr is)).congr (last c) rows
    · rw [last, others other away, noted_other other away]
    case within =>
      have run : judgeSync c i m noted = checkPair c (afterRead c (tracker c noted).reported (synced c i m noted)) :=
        judgeSync_within found' (by rwa [deviation_is])
      have kept := checked_afterSync c (tracker c noted).reported (synced c i m noted)
      have read := checked_afterRead c (tracker c noted).reported (synced c i m noted)
      obtain ⟨syncedTables, syncedDrums, syncedProtection, syncs, -⟩ := synced_frame c i m noted
      have before : (tracker c noted).reported = (tracker c s).reported := by rw [noted_tracker]
      have syncedDatumed : (tracker c (synced c i m noted)).datumed = true := by rw [synced_tracker]; exact noted_datumed
      have paired : (checkPair c (afterRead c (tracker c noted).reported (synced c i m noted))).trackers
          = (afterRead c (tracker c noted).reported (synced c i m noted)).trackers := by simp [checkPair]
      have started' : KeepsTrip s (synced c i m noted) := .of_same (syncedProtection.trans noted_protection)
      have payout : (channel (drumOf c) noted).payout = (channel (drumOf c) s).payout :=
        congrArg Channel.payout (channel_congr _ noted_drums)
      rw [run] at last tallied rows trackers protection tables channels ended
      have lastRead (x : Conveyance) : tracker x t = tracker x (afterRead c (tracker c noted).reported (synced c i m noted)) :=
        (last x).trans (tracker_congr x paired)
      have rows' : markers t = markers (synced c i m noted) := rows.trans kept.markers
      have shaft : t.tables.shaft.active = (synced c i m noted).tables.shaft.active := by rw [tables, kept.rows]
      have unmissed (none : missedMarker c (synced c i m noted) = none) : tracker c t = tracker c (synced c i m noted) :=
        (lastRead c).trans (tracker_congr c (afterRead_trackers none))
      obtain ⟨-, -, reported, baseFine, stretch, offset, load, -⟩ := kept.keeps
      refine ⟨?base, ?syncs, ?depths, fun is unflagged => ?nearest, fun other => ?afresh, fun changed beyond => ?overwind,
        fun R away row cage counterweight broken => ?pair⟩
      case base =>
        rw [last, baseFine, synced_tracker, deviation_is]
        simp only [Tracker.recomputed]
        rw [baseDepth_shiftOffset, payout, noted_tracker]
      case syncs => rw [tallied.2, kept.2.2.2.2, syncs, noted_requests]
      case depths =>
        refine (kept.depthsFollow (synced_depthsFollow c i m noted)).congr ⟨?_, ?_, ?_⟩ ?_ ?_ (by rw [tables]) (by rw [channels]) <;>
          rw [last]
      case nearest =>
        have same := unmissed (afterRead_unflagged syncedDatumed (by rw [← lastRead]; exact unflagged))
        rw [same]
        exact (synced_expected (noted_expected.mpr is)).2.congr rows'
      case afresh =>
        obtain ⟨none, nearest⟩ := synced_other (m := m) (mt noted_expected.mp other)
        rw [unmissed none]
        exact ⟨by rw [synced_tracker], nearest.congr rows'⟩
      case overwind =>
        have moved : (tracker c (synced c i m noted)).reported ≠ (tracker c noted).reported := by
          rw [before, ← reported, ← last]; exact changed
        have limits : BeyondLimits c (synced c i m noted) := by
          rw [← kept.beyondLimits]
          simpa only [BeyondLimits, compartmentRow, tables, last] using beyond
        have follows : afterRead c (tracker c noted).reported (synced c i m noted) = depthChecks c (synced c i m noted) := if_neg moved
        have reports := depthChecks_overwind syncedDatumed limits
        rw [← follows] at reports
        exact reports.around started' (((checked_checkPair c _).1.keepsTrip (Nat.zero_le 1)).trans ended)
      case pair =>
        have R_there : shaftRow (afterRead c (tracker c noted).reported (synced c i m noted)) = some R := by
          rw [← row, shaftRow, read.rows, syncedTables, noted_tables]; rfl
        rw [trackers, paired] at cage counterweight broken
        exact (reports_checkPair away R_there cage counterweight broken).around
          (started'.trans (read.1.keepsTrip (Nat.zero_le 1))) ended
    case beyond =>
      have run : judgeSync c i m noted = satisfy c i m.depth (reportCause .position noted) :=
        judgeSync_beyond found' (by rwa [deviation_is])
      have kept := Checked.trans (checked_reportIf c true .position noted) (checked_satisfy c i m.depth _)
      obtain ⟨-, -, reported, -, -, offset, -, -⟩ := kept.keeps
      have later := (reaches_satisfy (k := 0) c i m.depth (reportCause .position noted)).keepsTrip (Nat.zero_le 1)
      rw [run] at last tallied protection
      refine ⟨?_, ?_, ?_, fun other => ?_, fun takes => ?_, fun tripped => ?_⟩
      · rw [last]; exact offset.trans (by rw [noted_tracker])
      · rw [tallied.2]; exact kept.2.2.2.2.trans (by rw [noted_requests])
      · rw [last]; exact reported.trans (by rw [noted_tracker])
      · have same : tracker c (reportCause .position noted) = tracker c noted := tracker_congr c (reportCause_trackers noted _)
        have unchanged : satisfy c i m.depth (reportCause .position noted) = reportCause .position noted :=
          satisfy_other (by rw [same]; exact mt noted_expected.mp other)
        rw [last, unchanged, same, noted_tracker]
        exact ⟨rfl, rfl⟩
      · obtain ⟨trips, first, -⟩ := reportCause_first (c := .position) (s := noted) (by rwa [TakesCauses, noted_protection])
        obtain ⟨trips', first', -⟩ := later.2 trips
        rw [protection]
        exact ⟨trips', first'.trans first⟩
      · have reports := (reports_reportCause .position noted).around started later
        have present := (reports (by rw [tripped]; decide)).2
        rwa [causePresent, protection]
  case weak =>
    have kept := checked_satisfy c i m.depth noted
    obtain ⟨trackers, protection, tables, channels, tallied, -⟩ :=
      offered_keeps (makeFrame 0x21 origin target (markerBody (byteOf c.index) id 2)) (satisfy c i m.depth noted)
    simp only [Bool.false_eq_true, if_false]
    generalize offerUp .field (makeFrame 0x21 origin target (markerBody (byteOf c.index) id 2))
      (handOn (judgeCreeping (satisfy c i m.depth noted))) = t at trackers protection tables channels tallied ⊢
    have last (x : Conveyance) : tracker x t = tracker x (satisfy c i m.depth noted) := tracker_congr x trackers
    obtain ⟨-, direction, reported, -, -, offset, -, lastMarker⟩ := kept.keeps
    have rows : markers t = markers (satisfy c i m.depth noted) := by rw [markers, tables]; rfl
    have rows' : markers t = markers noted := rows.trans kept.markers
    simp only [tally, Prod.mk.injEq] at tallied
    refine ⟨?_, ?_, ?_, ?_, fun flag => ?_, ?_, fun is => ⟨?_, fun same low => ?_⟩, fun other => ?_⟩
    · rw [last, lastMarker, noted_tracker]
    · rw [last, offset, noted_tracker]
    · rw [last, reported, noted_tracker]
    · rw [last, direction, noted_tracker]
    · rw [last]; exact kept.2.2.2.1 (by rw [noted_tracker]; exact flag)
    · rw [tallied.2, kept.2.2.2.2, noted_requests]
    · exact (satisfy_wentBeyond (noted_expected.mpr is)).congr (last c) rows
    · rw [tallied.1] at same
      rw [last]
      refine (satisfy_nearest (noted_expected.mpr is) ?_ ?_).congr rows'
      · rw [same, noted_requests]
      · rw [noted_requests]; exact low
    · have unchanged : satisfy c i m.depth noted = noted := satisfy_other (mt noted_expected.mp other)
      rw [unchanged] at trackers protection tables
      exact ⟨by rw [trackers, ← noted_is]; rfl, by rw [protection, noted_protection], by rw [tables, noted_tables]⟩

end Sys2Proof.Machine

/-! PROOF. Datum at a marker (chapter 4) and the plan that it completes (chapter 5). -/

namespace Sys2Proof.Machine

/-! ### The base depth at a marker (R58) -/

/-- The search finds the largest base depth that with its stretch does not exceed the marker's depth. -/
theorem datumBase_largest (row : CompartmentRow) (load : Nat) (depth : Int) :
    datumBase row load depth + stretchAt row load (datumBase row load depth) ≤ depth
      ∧ ∀ b, datumBase row load depth < b → depth < b + stretchAt row load b := by
  have once (a b : Int) (below : a ≤ b) (passes : decide (b + stretchAt row load b ≤ depth) = true) :
      decide (a + stretchAt row load a ≤ depth) = true := by
    have mono := stretchAt_mono row load below
    simp only [decide_eq_true_eq] at passes ⊢
    omega
  have first : decide (depth - stretchAt row load depth + stretchAt row load (depth - stretchAt row load depth) ≤ depth) = true := by
    have mono := stretchAt_mono row load (a := depth - stretchAt row load depth) (b := depth) (by omega)
    simp only [decide_eq_true_eq]
    omega
  obtain ⟨passes, -⟩ := largestPassing_passes (fun b => decide (b + stretchAt row load b ≤ depth))
    ((stretchAt row load depth).log2 + 1) _ first
  refine ⟨of_decide_eq_true passes, fun b above => ?_⟩
  by_contra within
  have bound : stretchAt row load depth < 2 ^ ((stretchAt row load depth).log2 + 1) := Nat.lt_log2_self
  have inside : b ≤ depth := by omega
  have largest := largestPassing_largest (fun b => decide (b + stretchAt row load b ≤ depth)) once _ _ b above (by
    have cast : ((2 ^ ((stretchAt row load depth).log2 + 1) : Nat) : Int) = 2 ^ ((stretchAt row load depth).log2 + 1) := by push_cast; rfl
    rw [← cast]
    omega)
  exact of_decide_eq_false largest (not_lt.mp within)

theorem baseDepth_offsetFor (c : Conveyance) (base payout : Int) : baseDepth c (offsetFor c base payout) payout = base := by
  cases c <;> simp only [baseDepth, offsetFor] <;> omega

theorem mm_whole (b : Int) : mm (b * (Config.fineUnits : Int)) = b := Int.mul_ediv_cancel _ (by decide)

/-! ### The datum taken (R58) -/

/-- A tracker with datum at a depth, before the checks that follow. -/
def datumGained (c : Conveyance) (row : CompartmentRow) (depth : Int) (s : State) : State :=
  let offset := offsetFor c (datumBase row (tracker c s).load depth * (Config.fineUnits : Int)) (channel (drumOf c) s).payout
  let moved := recomputeTracker c (setTracker c { tracker c s with offset } s)
  searchAfresh c (setTracker c { tracker c moved with datumed := true, missFlag := false } moved)

/-- A datum's checks find no marker missed; only OVERWIND may follow. -/
theorem takeDatum_eq {c : Conveyance} {s : State} {row : CompartmentRow} (found : compartmentRow c s = some row) (depth : Int) :
    takeDatum c depth s = checkOverwind c (datumGained c row depth s) := by
  have run : takeDatum c depth s = depthChecks c (datumGained c row depth s) := by
    simp only [takeDatum, found, datumGained]
  exact run.trans (depthChecks_unmissed (searchAfresh_unmissed c _))

/-- What the datum writes of its tracker. -/
theorem datumGained_tracker {c : Conveyance} {s : State} {row : CompartmentRow} (found : compartmentRow c s = some row) (depth : Int) :
    let B := datumBase row (tracker c s).load depth
    tracker c (datumGained c row depth s) = { tracker c s with
      offset := offsetFor c (B * (Config.fineUnits : Int)) (channel (drumOf c) s).payout
      baseFine := B * (Config.fineUnits : Int), stretch := stretchAt row (tracker c s).load B
      reported := B + stretchAt row (tracker c s).load B, datumed := true, missFlag := false
      expected := (tracker c (datumGained c row depth s)).expected } := by
  have row_same (t : Tracker) : compartmentRow c (setTracker c t s) = some row := found
  have payout_same (t : Tracker) : (channel (drumOf c) (setTracker c t s)).payout = (channel (drumOf c) s).payout := by
    rw [channel_congr _ (setTracker_drums _ _ _)]
  intro B
  simp only [datumGained, searchAfresh_tracker, tracker_setTracker_same, recomputeTracker, row_same, payout_same,
    Tracker.recomputed, baseDepth_offsetFor, mm_whole]
  rfl

theorem datumGained_frame (c : Conveyance) (row : CompartmentRow) (depth : Int) (s : State) :
    (datumGained c row depth s).tables = s.tables ∧ (datumGained c row depth s).drums = s.drums
      ∧ (datumGained c row depth s).protection = s.protection ∧ (datumGained c row depth s).pipeline = s.pipeline
      ∧ ∀ other, other ≠ c → tracker other (datumGained c row depth s) = tracker other s := by
  refine ⟨rfl, rfl, rfl, rfl, fun other away => ?_⟩
  simp only [datumGained, searchAfresh, setExpected, recomputeTracker, tracker_setTracker_other _ _ away]

theorem datumGained_nearest (c : Conveyance) (row : CompartmentRow) (depth : Int) (s : State) :
    IsNearest (tracker c (datumGained c row depth s)).expected c (tracker c (datumGained c row depth s)).direction
      (tracker c (datumGained c row depth s)).reported (datumGained c row depth s) := by
  rw [datumGained, searchAfresh_tracker]
  exact nearestAhead_isNearest c _ _ _

/-! ### The plan that a datum completes (R92) -/

/-- The creep band leaves the active trip but for its state (R81). -/
theorem judgeCreeping_slots (s : State) :
    (s.pipeline.active = none → (judgeCreeping s).pipeline.active = none)
      ∧ (∀ trip, s.pipeline.active = some trip → ∃ state, (judgeCreeping s).pipeline.active = some { trip with state }
          ∧ (state = trip.state ∨ trip.state = .running ∧ state = .creeping))
      ∧ (judgeCreeping s).pipeline.waiting = s.pipeline.waiting ∧ (judgeCreeping s).pipeline.history = s.pipeline.history := by
  refine ⟨fun empty => by simp [judgeCreeping, empty], fun trip active => ?_, ?_, ?_⟩
  · unfold judgeCreeping
    simp only [active]
    split
    · next creeps =>
      refine ⟨.creeping, ?_, .inr ⟨creeps.1, rfl⟩⟩
      rw [(enterState_slots .creeping s).1, active]; rfl
    · exact ⟨trip.state, active, .inl rfl⟩
  · unfold judgeCreeping; split
    · rfl
    · split
      · exact (enterState_slots .creeping s).2
      · rfl
  · unfold judgeCreeping; split
    · rfl
    · split
      · exact enterState_history .creeping s
      · rfl

theorem mem_joinZones {zones : List ZoneRow} {a b : List Nat} {n : Nat} :
    n ∈ joinZones zones a b ↔ ∃ z, zones[n]? = some z ∧ (n ∈ a ∨ n ∈ b) := by
  simp only [joinZones, List.mem_filter, List.mem_map, Prod.exists, List.mem_zipIdx_iff_getElem?, exists_eq_right,
    Bool.or_eq_true, decide_eq_true_eq, exists_and_right]

theorem mem_sweptSet {t : Trip} {starts ends : PerConveyance (Option Int)} {s : State} {n : Nat} :
    n ∈ sweptSet t starts ends s ↔ ∃ z, (zoneList s)[n]? = some z ∧ claimsZone t starts ends z s = true := by
  simp only [sweptSet, zonesWhere, List.mem_map, List.mem_filter, Prod.exists, List.mem_zipIdx_iff_getElem?, exists_eq_right]

/-- The ACTIVE trip with the plan of one conveyance completed. -/
def planCompleted (trip : Trip) (c : Conveyance) (start finish : Int) (s : State) : Trip :=
  let only : PerConveyance (Option Int) := .of fun _ => none
  { trip with
    starts := trip.starts.set c (some start)
    ends := trip.ends.set c (some finish)
    swept := joinZones (zoneList s) trip.swept (sweptSet trip (only.set c (some start)) (only.set c (some finish)) s) }

/-- Of the zones of its own compartment, a completed plan claims those that the completion alone does. -/
theorem claims_planCompleted (trip : Trip) (c : Conveyance) (start finish : Int) (z : ZoneRow) (s : State) :
    claimsZone trip ((PerConveyance.of fun _ => none : PerConveyance (Option Int)).set c (some start))
        ((PerConveyance.of fun _ => none : PerConveyance (Option Int)).set c (some finish)) z s = true
      ↔ z.compartment = c ∧ Claims (planCompleted trip c start finish s) z s := by
  by_cases own : z.compartment = c
  · rw [← claimsZone_iff (planCompleted trip c start finish s) z s]
    subst own
    simp only [claimsZone, planCompleted, PerConveyance.get_set_same, true_and]
    rfl
  · have unplanned (v : Option Int) : ((PerConveyance.of fun _ => none : PerConveyance (Option Int)).set c v).get z.compartment = none := by
      rw [PerConveyance.get_set_other _ _ own]; cases z.compartment <;> rfl
    simp [claimsZone, unplanned, own]

theorem mem_planCompleted {trip : Trip} {c : Conveyance} {start finish : Int} {s : State} {n : Nat} :
    n ∈ (planCompleted trip c start finish s).swept ↔ ∃ z, (zoneList s)[n]? = some z
      ∧ (n ∈ trip.swept ∨ z.compartment = c ∧ Claims (planCompleted trip c start finish s) z s) := by
  have swept : (planCompleted trip c start finish s).swept
      = joinZones (zoneList s) trip.swept (sweptSet trip ((PerConveyance.of fun _ => none : PerConveyance (Option Int)).set c (some start))
          ((PerConveyance.of fun _ => none : PerConveyance (Option Int)).set c (some finish)) s) := rfl
  rw [swept, mem_joinZones, mem_sweptSet]
  constructor
  · rintro ⟨z, there, old | ⟨z', there', claims⟩⟩
    · exact ⟨z, there, .inl old⟩
    · cases there.symm.trans there'
      exact ⟨z, there, .inr ((claims_planCompleted trip c start finish z s).mp claims)⟩
  · rintro ⟨z, there, old | added⟩
    · exact ⟨z, there, .inl old⟩
    · exact ⟨z, there, .inr ⟨z, there, (claims_planCompleted trip c start finish z s).mpr added⟩⟩

theorem datumMidTrip_due {c : Conveyance} {s : State} {trip : Trip} (active : s.pipeline.active = some trip)
    (moved : inMovingSet trip.movesAll c = true) (unplanned : trip.starts.get c = none) :
    (datumMidTrip c s).pipeline.active = some (planCompleted trip c (tracker c s).reported
      (movedBy c trip.direction (tracker c s).reported (distanceToTarget trip s)) s) := by
  unfold datumMidTrip
  simp only [active, moved, unplanned, Option.isNone_none, and_self, if_true]
  rfl

theorem datumMidTrip_notDue {c : Conveyance} {s : State} {trip : Trip} (active : s.pipeline.active = some trip)
    (notDue : ¬(inMovingSet trip.movesAll c = true ∧ trip.starts.get c = none)) : datumMidTrip c s = s := by
  unfold datumMidTrip
  simp only [active, Option.isNone_iff_eq_none, if_neg notDue]

/-- The datum's hand to the pipeline, as the statements say it, for states that agree on tables, trackers and payouts. -/
theorem planTakesDatum {c : Conveyance} {s t u : State} (before : u.pipeline = s.pipeline)
    (after : t.pipeline = (judgeCreeping (datumMidTrip c u)).pipeline) (shaft : t.tables.shaft.active = u.tables.shaft.active)
    (trackers : t.trackers = u.trackers) (drums : t.drums = u.drums) : PlanTakesDatum c s t := by
  obtain ⟨empty, creeps, -, -⟩ := judgeCreeping_slots (datumMidTrip c u)
  refine ⟨fun none => ?_, fun trip active => ?_⟩
  · rw [after]
    exact empty (by simp [datumMidTrip, before, none])
  · have active' : u.pipeline.active = some trip := by rw [before, active]
    have here : (tracker c t).reported = (tracker c u).reported := by rw [tracker_congr c trackers]
    have travel : distanceToTarget trip t = distanceToTarget trip u :=
      distanceToTarget_congr trip shaft trackers fun d => by rw [channel_congr d drums]
    by_cases due : inMovingSet trip.movesAll c = true ∧ trip.starts.get c = none
    · obtain ⟨state, now, same⟩ := creeps _ (datumMidTrip_due active' due.1 due.2)
      refine ⟨_, after ▸ now, rfl, same, fun notDue => absurd due notDue, fun _ => ⟨?_, ?_, fun n => ?_⟩⟩
      · rw [here]; rfl
      · rw [here, travel]; rfl
      · refine (mem_planCompleted (s := u)).trans ?_
        have zones : zoneList t = zoneList u := by rw [zoneList, shaft]; rfl
        have margin : followerMargin t = followerMargin u := by rw [followerMargin, shaftRow, shaft]; rfl
        simp only [Claims, compartmentRow, zones, shaft, margin]
    · rw [datumMidTrip_notDue active' due] at after creeps
      obtain ⟨state, now, same⟩ := creeps trip active'
      exact ⟨{ trip with state }, after ▸ now, rfl, same, fun _ => ⟨rfl, rfl, rfl⟩, fun is => absurd is due⟩

/-! ### The read that gives datum (R57, R58, R131) -/

theorem takeOwnRead_undatumed {c : Conveyance} {i : Nat} {m : MarkerRow} {s : State} (good : Bool)
    (undatumed : (tracker c s).datumed = false) :
    takeOwnRead c i m good s = if (good && !(recordOf i s).suspect) = true
      then handOn (judgeCreeping (datumMidTrip c (armIfDatumed (takeDatum c m.depth s)))) else s := by
  rw [takeOwnRead, undatumed, if_neg Bool.false_ne_true]

theorem armIfDatumed_arms {s : State} (state : s.protection.state = .undatumed) (datumed : allDatumed s = true) :
    (armIfDatumed s).protection.state = .armed ∧ flagSet .datum (armIfDatumed s) = true := by
  have run : armIfDatumed s = setFlag .datum { s with protection.state := .armed } := if_pos ⟨state, datumed⟩
  rw [run]
  exact ⟨by simp, flagSet_setFlag _ _⟩

theorem armIfDatumed_idle {s : State} (idle : s.protection.state ≠ .undatumed ∨ allDatumed s = false) : armIfDatumed s = s := by
  refine if_neg ?_
  rintro ⟨state, datumed⟩
  obtain other | some := idle
  · exact other state
  · rw [some] at datumed; cases datumed

/-- Settles O27: the datum, its checks, the arming and the plan, in the order of the model. -/
theorem datumMeetsTheMarker : Obligations.DatumMeetsTheMarker := by
  intro s c origin target id i m row ready found own there undatumed body noted
  have noted_is : setLastMarker c id.toNat s = noted := rfl
  have noted_tracker : tracker c noted = { tracker c s with lastMarker := id.toNat } := tracker_setTracker_same ..
  have noted_undatumed : (tracker c noted).datumed = false := by rw [noted_tracker]; exact undatumed
  have record : recordOf i noted = recordOf i s := rfl
  have complete (good : Bool) {quality : Byte} (defined : quality = 1 ∨ quality = 2) (same : decide (quality = 1) = good) :
      Forwards (.markerEvent origin target (body quality)) (makeFrame 0x21 origin target (body quality)) s
        (takeOwnRead c i m good noted) := by
    have run := forwards_markerEvent (s := s) c origin target id ready defined
    rwa [same, observeMarker_own found own] at run
  refine ⟨fun suspect => ?suspect, ?weak, fun clear => ⟨_, complete true (.inl rfl) rfl, ?datum⟩⟩
  case suspect =>
    have run := complete true (.inl rfl) rfl
    rwa [takeOwnRead_undatumed true noted_undatumed, record, suspect, if_neg (by decide)] at run
  case weak =>
    have run := complete false (.inr rfl) rfl
    rwa [takeOwnRead_undatumed false noted_undatumed, if_neg (by simp)] at run
  case datum =>
    have leaves : LeavesAlone s (offerUp .field (makeFrame 0x21 origin target (body 1)) (takeOwnRead c i m true noted)) := by
      have ends := ends_observeMarker (Nat.le_refl 1) { conveyance := c, markerId := id.toNat, good := true } s
      rw [observeMarker_own found own] at ends
      exact leavesAlone_of_observed ends
    have there' : compartmentRow c noted = some row := there
    rw [takeOwnRead_undatumed true noted_undatumed, record, clear, if_pos (by decide), takeDatum_eq there'] at leaves ⊢
    obtain ⟨gainedTables, gainedDrums, gainedProtection, gainedPipeline, gainedOthers⟩ := datumGained_frame c row m.depth noted
    have nearest := datumGained_nearest c row m.depth noted
    have gained := datumGained_tracker there' m.depth
    have load : (tracker c noted).load = (tracker c s).load := by rw [noted_tracker]
    obtain ⟨below, largest⟩ := datumBase_largest row (tracker c s).load m.depth
    simp only [load] at gained
    generalize datumBase row (tracker c s).load m.depth = B at gained below largest
    generalize datumGained c row m.depth noted = gain at *
    have kept := checked_checkOverwind c gain
    have judgedTrackers : (checkOverwind c gain).trackers = gain.trackers := by simp [checkOverwind]
    have calm (within : ¬BeyondLimits c gain) : checkOverwind c gain = gain := by
      have no : isOverwound c gain = false := Bool.eq_false_iff.mpr fun beyond => within ((isOverwound_iff c gain).mp beyond).2
      rw [checkOverwind, no]; rfl
    generalize armed_is : armIfDatumed (checkOverwind c gain) = armed at *
    obtain ⟨trackers, protection, tables, channels, -, flags⟩ :=
      offered_keeps (makeFrame 0x21 origin target (body 1)) (datumMidTrip c armed)
    have pipeline : (offerUp .field (makeFrame 0x21 origin target (body 1)) (handOn (judgeCreeping (datumMidTrip c armed)))).pipeline
        = (judgeCreeping (datumMidTrip c armed)).pipeline := by simp
    have drums : (offerUp .field (makeFrame 0x21 origin target (body 1)) (handOn (judgeCreeping (datumMidTrip c armed)))).drums
        = armed.drums := by simp
    generalize offerUp .field (makeFrame 0x21 origin target (body 1)) (handOn (judgeCreeping (datumMidTrip c armed))) = t at *
    simp only [datumMidTrip_trackers, datumMidTrip_protection, datumMidTrip_tables] at trackers protection tables
    have armedTrackers : armed.trackers = gain.trackers := by rw [← armed_is, armIfDatumed_trackers, judgedTrackers]
    have armedTables : armed.tables = (checkOverwind c gain).tables := by rw [← armed_is, armIfDatumed_tables]
    have last (x : Conveyance) : tracker x t = tracker x gain := tracker_congr x (trackers.trans armedTrackers)
    have shaft : t.tables.shaft.active = gain.tables.shaft.active := by rw [tables, armedTables, kept.rows]
    have rows : markers t = markers gain := by rw [markers, shaft]; rfl
    have beyond_iff : BeyondLimits c t ↔ BeyondLimits c gain := by
      simp only [BeyondLimits, compartmentRow, shaft, last]
    have allDatumed_same : allDatumed t = allDatumed (checkOverwind c gain) := by
      simp only [allDatumed, trackers, armedTrackers, judgedTrackers]
    have started : KeepsTrip s gain := .of_same gainedProtection
    have ended : KeepsTrip (checkOverwind c gain) t := by
      refine .trans ?_ (KeepsTrip.of_same protection)
      rw [← armed_is]; exact keepsTrip_armIfDatumed _
    have overwinds (beyond : BeyondLimits c t) : Reports .overwind s t := by
      have overwound : isOverwound c gain = true := (isOverwound_iff c gain).mpr ⟨by rw [gained], beyond_iff.mp beyond⟩
      exact (reports_reportIf overwound .overwind gain).around started ended
    have state : gain.protection.state = s.protection.state := by rw [gainedProtection]; rfl
    have arms (within : ¬BeyondLimits c t) (isUndatumed : s.protection.state = .undatumed) (all : allDatumed t = true) :
        t.protection.state = .armed ∧ flagSet .datum armed = true := by
      have same := calm (mt beyond_iff.mpr within)
      rw [protection, ← armed_is, same]
      rw [same] at allDatumed_same
      exact armIfDatumed_arms (state.trans isUndatumed) (allDatumed_same ▸ all)
    refine ⟨?_, ?_, ?_, ⟨B, ?base, below, largest, ?reported⟩, ?nearest, ?_, overwinds, fun within idle => ?idle,
      fun isUndatumed all => ⟨?leaves, fun within => ?arms⟩, fun within => ⟨?plan, ?waiting, ?history⟩, fun other away => ?others, leaves,
      fun d => ?channels⟩
    · rw [last, gained]
    · rw [last, gained, noted_tracker]
    · rw [last, gained]
    case base => rw [last, gained]; rfl
    case reported => rw [last, gained]
    case nearest => rw [last]; exact nearest.congr rows
    · rw [last, gained, noted_tracker]
    case idle =>
      have same := calm (mt beyond_iff.mpr within)
      rw [same] at armed_is allDatumed_same
      rw [protection, ← armed_is, armIfDatumed_idle (by rwa [state, ← allDatumed_same]), gainedProtection]
      rfl
    case leaves =>
      by_cases beyond : BeyondLimits c t
      · rw [(overwinds beyond (by rw [isUndatumed]; decide)).1]; decide
      · rw [(arms beyond isUndatumed all).1]; decide
    case arms =>
      obtain ⟨now, flag⟩ := arms within isUndatumed all
      exact ⟨now, flags _ (by simpa [flagSet] using flag)⟩
    case plan =>
      have same := calm (mt beyond_iff.mpr within)
      rw [same] at armed_is
      exact planTakesDatum (u := armed) (by rw [← armed_is, armIfDatumed_pipeline, gainedPipeline]; rfl) pipeline
        (by rw [tables]) trackers drums
    case waiting =>
      obtain ⟨-, -, waiting, -⟩ := judgeCreeping_slots (datumMidTrip c armed)
      have same := calm (mt beyond_iff.mpr within)
      rw [pipeline, waiting, datumMidTrip_waiting, ← armed_is, armIfDatumed_pipeline, same, gainedPipeline]
      rfl
    case history =>
      obtain ⟨-, -, -, history⟩ := judgeCreeping_slots (datumMidTrip c armed)
      have same := calm (mt beyond_iff.mpr within)
      rw [pipeline, history, datumMidTrip_history, ← armed_is, armIfDatumed_pipeline, same, gainedPipeline]
      rfl
    case others => rw [last, gainedOthers other away]; exact tracker_setTracker_other _ _ away
    case channels =>
      rw [channel_congr d drums, ← armed_is, channel_congr d (armIfDatumed_drums _), channel_of_monitored kept.1.monitored,
        channel_congr d gainedDrums]
      rfl

end Sys2Proof.Machine

/-! PROOF. What the trackers make of a movement (chapter 4). -/

namespace Sys2Proof.Machine

/-! ### The end of a movement's hand-on -/

/-- What the Zone Map's part and the pass upstream keep. -/
theorem offeredZones_keeps (f : Frame) (s : State) :
    let t := offerUp .field f (handOnZones s)
    t.trackers = s.trackers ∧ t.protection = s.protection ∧ t.tables = s.tables ∧ t.drums = s.drums
      ∧ t.pipeline = s.pipeline ∧ t.guard = s.guard ∧ t.envelope = s.envelope ∧ tally t = tally s
      ∧ ∀ g, flagSet g s = true → flagSet g t = true := by
  have offered (due : List WatchEntry) (u : State) :
      tally (due.foldl (fun v e => offerUp .part (zoneClearNotice e v) v) u) = tally u := by
    induction due generalizing u with
    | nil => rfl
    | cons e rest ih => rw [List.foldl_cons, ih, tally_offerUp]
  refine ⟨by simp, by simp, by simp, by simp, by simp, by simp, by simp, ?_, fun g set => ?_⟩
  · rw [tally_offerUp]; exact offered _ _
  · have kept : flagSet g (handOnZones s) = true := flagSet_offerAll_of_set zoneClearNotice g _ _ set
    rw [flagSet_offerUp, kept]; rfl

/-! ### A tracker carried through (R53) -/

/-- Between two states a tracker, the SHAFT table, the flags and a trip stand, and the misses grow. -/
def CarriesTracker (c : Conveyance) (s t : State) : Prop :=
  tracker c t = tracker c s ∧ t.tables.shaft.active = s.tables.shaft.active ∧ MissesGrow s t ∧ KeepsTrip s t
    ∧ ∀ g, flagSet g s = true → flagSet g t = true

theorem CarriesTracker.trans {c : Conveyance} {s t u : State} (first : CarriesTracker c s t) (second : CarriesTracker c t u) :
    CarriesTracker c s u := by
  obtain ⟨own, shaft, misses, trip, flags⟩ := first
  obtain ⟨own', shaft', misses', trip', flags'⟩ := second
  exact ⟨own'.trans own, shaft'.trans shaft, misses.trans misses', trip.trans trip', fun g => flags' g ∘ flags g⟩

theorem CarriesTracker.of_reaches {c : Conveyance} {k : Nat} {s t : State} (h : Reaches k s t) (low : k ≤ 1)
    (own : tracker c t = tracker c s) : CarriesTracker c s t :=
  ⟨own, congrArg (·.2.1) (h.leftAlone low), h.notified.missesGrow low, h.keepsTrip low, fun _ => h.notified.flagSet low⟩

theorem carriesTracker_offered (c : Conveyance) (f : Frame) (s : State) :
    CarriesTracker c s (offerUp .field f (handOnZones s)) := by
  obtain ⟨trackers, protection, tables, -, -, -, -, tallied, flags⟩ := offeredZones_keeps f s
  exact ⟨tracker_congr c trackers, by rw [tables], .of_tally tallied, .of_same protection, flags⟩

/-- What a tracker makes of a movement of its drum: `TrackersFollow` for one conveyance of the drum, with the bound of the
misses counted beside each miss. -/
def TrackerFollows (c : Conveyance) (s t : State) : Prop :=
  DepthsFollow c t ∧ (tracker c t).offset = (tracker c s).offset ∧ (tracker c t).load = (tracker c s).load
    ∧ (tracker c t).datumed = (tracker c s).datumed
    ∧ (tracker c t).direction = directionUnder c (channel (drumOf c) t).sense
    ∧ ((tracker c s).datumed = true → (tracker c t).direction ≠ (tracker c s).direction →
        IsNearest (tracker c t).expected c (tracker c t).direction (tracker c t).reported t)
    ∧ ((tracker c s).datumed = true → (tracker c t).direction = (tracker c s).direction →
        (tracker c t).reported ≠ (tracker c s).reported →
        (∀ i m, Expects c i m s → HasPassed c m t → TookMiss c i s t ∧ t.requests.counters.misses ≤ 65535)
        ∧ ((∀ i m, Expects c i m s → ¬HasPassed c m t) → (tracker c t).expected = (tracker c s).expected
            ∧ (tracker c t).missFlag = (tracker c s).missFlag))
    ∧ ((tracker c s).datumed = true → (tracker c t).reported ≠ (tracker c s).reported → BeyondLimits c t → Reports .overwind s t)
    ∧ (RopeIsSlack c t → Reports .slack s t)

/-- A tracker's movement looks the same from any states around it that carry the tracker. -/
theorem TrackerFollows.around {c : Conveyance} {s v w t : State} (h : TrackerFollows c v w) (before : CarriesTracker c s v)
    (after : CarriesTracker c w t) (same : channel (drumOf c) t = channel (drumOf c) w) : TrackerFollows c s t := by
  obtain ⟨own, shaft, misses, trip, -⟩ := before
  obtain ⟨own', shaft', misses', trip', flags⟩ := after
  have rows : markers v = markers s := by rw [markers, shaft]; rfl
  have rows' : markers t = markers w := by rw [markers, shaft']; rfl
  have expects_iff (i : Nat) (m : MarkerRow) : Expects c i m v ↔ Expects c i m s := by rw [Expects, own, rows]; rfl
  have passed_iff (m : MarkerRow) : HasPassed c m t ↔ HasPassed c m w := by
    simp only [HasPassed, compartmentRow, shaft', own']
  have beyond_iff : BeyondLimits c t ↔ BeyondLimits c w := by simp only [BeyondLimits, compartmentRow, shaft', own']
  have slack_iff : RopeIsSlack c t ↔ RopeIsSlack c w := by simp only [RopeIsSlack, compartmentRow, shaft', own', same]
  obtain ⟨depths, offset, load, datumed, direction, searches, checks, overwinds, slacks⟩ := h
  rw [own] at offset load datumed searches checks overwinds
  refine ⟨depths.congr ⟨by rw [own'], by rw [own'], by rw [own']⟩ (by rw [own']) (by rw [own']) shaft' (by rw [same]),
    by rw [own', offset], by rw [own', load], by rw [own', datumed], by rw [own', same, direction], fun is turned => ?_,
    fun is kept moved => ?_, fun is moved beyond => ?_, fun slack => (slacks (slack_iff.mp slack)).around trip trip'⟩
  · rw [own'] at turned ⊢
    exact (searches is turned).congr rows'
  · rw [own'] at kept moved ⊢
    obtain ⟨took, free⟩ := checks is kept moved
    refine ⟨fun i m expects passed => ?_, fun unpassed => free fun i m expects passed => ?_⟩
    · obtain ⟨miss, bounded⟩ := took i m ((expects_iff i m).mpr expects) ((passed_iff m).mp passed)
      have later := miss.later bounded (by rw [own']) (by rw [own']) (flags _) misses'
      obtain ⟨flag, set, advanced, counted⟩ := later
      obtain ⟨-, most⟩ := misses'.bounded bounded
      obtain ⟨grown, -⟩ := misses
      exact ⟨⟨flag, set, advanced, by omega⟩, most⟩
    · exact unpassed i m ((expects_iff i m).mp expects) ((passed_iff m).mpr passed)
  · rw [own'] at moved
    exact (overwinds is moved (beyond_iff.mp beyond)).around trip trip'

/-! ### One tracker's movement (R53, R55, R56, R62) -/

/-- A tracker with its depths and its direction taken from the drum, before the checks. -/
def redirected (c : Conveyance) (s : State) : State := takeDirection c (recomputeTracker c s)

theorem trackMovement_eq (c : Conveyance) (s : State) : trackMovement c s = followOn c (tracker c s).reported (redirected c s) := rfl

theorem recomputeTracker_own (c : Conveyance) (s : State) : tracker c (recomputeTracker c s)
    = (tracker c s).recomputed c (compartmentRow c s) (channel (drumOf c) s).payout := tracker_setTracker_same ..

theorem recomputeTracker_sense (c : Conveyance) (s : State) :
    (channel (drumOf c) (recomputeTracker c s)).sense = (channel (drumOf c) s).sense := by
  rw [channel_congr _ (by simp [recomputeTracker] : (recomputeTracker c s).drums = s.drums)]

theorem redirected_tracker (c : Conveyance) (s : State) :
    tracker c (redirected c s) = { (tracker c s).recomputed c (compartmentRow c s) (channel (drumOf c) s).payout with
      direction := directionUnder c (channel (drumOf c) s).sense, expected := (tracker c (redirected c s)).expected } := by
  have recomputed := recomputeTracker_own c s
  have sense := recomputeTracker_sense c s
  unfold redirected takeDirection
  rw [sense]
  dsimp only
  split
  · next same => rw [recomputed] at same ⊢; rw [same]
  · split
    · rw [searchAfresh_tracker, tracker_setTracker_same, recomputed]
    · rw [tracker_setTracker_same, recomputed]

/-- A turn of a DATUMED tracker searches afresh; without one the expectation stands. -/
theorem redirected_turned {c : Conveyance} {s : State} (datumed : (tracker c s).datumed = true)
    (turned : directionUnder c (channel (drumOf c) s).sense ≠ (tracker c s).direction) :
    missedMarker c (redirected c s) = none
      ∧ IsNearest (tracker c (redirected c s)).expected c (tracker c (redirected c s)).direction
          (tracker c (redirected c s)).reported (redirected c s) := by
  have run : redirected c s = searchAfresh c (setTracker c { tracker c (recomputeTracker c s) with
      direction := directionUnder c (channel (drumOf c) (recomputeTracker c s)).sense } (recomputeTracker c s)) := by
    have recomputed := recomputeTracker_own c s
    have sense := recomputeTracker_sense c s
    have other : ¬directionUnder c (channel (drumOf c) (recomputeTracker c s)).sense = (tracker c (recomputeTracker c s)).direction := by
      rw [sense, recomputed]; exact turned
    have is : (tracker c (setTracker c { tracker c (recomputeTracker c s) with
        direction := directionUnder c (channel (drumOf c) (recomputeTracker c s)).sense } (recomputeTracker c s))).datumed = true := by
      rw [tracker_setTracker_same, recomputed]; exact datumed
    rw [redirected, takeDirection]
    dsimp only
    rw [if_neg other, if_pos is]
  rw [run]
  refine ⟨searchAfresh_unmissed c _, ?_⟩
  rw [searchAfresh_tracker]
  exact nearestAhead_isNearest c _ _ _

theorem redirected_straight {c : Conveyance} {s : State}
    (straight : directionUnder c (channel (drumOf c) s).sense = (tracker c s).direction) :
    (tracker c (redirected c s)).expected = (tracker c s).expected := by
  have recomputed := recomputeTracker_own c s
  have sense := recomputeTracker_sense c s
  have same : directionUnder c (channel (drumOf c) (recomputeTracker c s)).sense = (tracker c (recomputeTracker c s)).direction := by
    rw [sense, recomputed]; exact straight
  rw [redirected, takeDirection]
  dsimp only
  rw [if_pos same, recomputed]
  rfl

theorem redirected_reaches (c : Conveyance) (s : State) : Reaches 0 s (redirected c s) :=
  (reaches_recomputeTracker c s).trans (reaches_takeDirection c _)

theorem redirected_others (c : Conveyance) {other : Conveyance} (away : other ≠ c) (s : State) :
    tracker other (redirected c s) = tracker other s := by
  have moved : tracker other (recomputeTracker c s) = tracker other s := tracker_setTracker_other _ _ away
  unfold redirected takeDirection; dsimp only
  (repeat' split)
  · exact moved
  · rw [searchAfresh, setExpected, tracker_setTracker_other _ _ away, tracker_setTracker_other _ _ away, moved]
  · rw [tracker_setTracker_other _ _ away, moved]

theorem redirected_depthsFollow (c : Conveyance) (s : State) : DepthsFollow c (redirected c s) := by
  have row : compartmentRow c (redirected c s) = compartmentRow c s := by
    have shaft : (redirected c s).tables.shaft.active = s.tables.shaft.active :=
      congrArg (·.2.1) ((redirected_reaches c s).leftAlone (Nat.zero_le 1))
    rw [compartmentRow, shaft]; rfl
  have channels := channel_of_monitored (redirected_reaches c s).monitored (drumOf c)
  rw [DepthsFollow, row, channels, redirected_tracker]
  refine ⟨rfl, ?_, rfl⟩
  simp only [Tracker.recomputed]
  cases compartmentRow c s <;> rfl

/-- A tracker's movement, clause by clause. -/
theorem trackMovement_follows (c : Conveyance) (s : State) : TrackerFollows c s (trackMovement c s) := by
  have kept := checked_followOn c (tracker c s).reported (redirected c s)
  have reached := redirected_reaches c s
  have own := redirected_tracker c s
  have channels : channel (drumOf c) (trackMovement c s) = channel (drumOf c) s := by
    rw [trackMovement_eq, channel_of_monitored kept.1.monitored, channel_of_monitored reached.monitored]
  have started := reached.keepsTrip (Nat.zero_le 1)
  have datumed_is : (tracker c (redirected c s)).datumed = (tracker c s).datumed := by rw [own]; rfl
  have direction_is : (tracker c (redirected c s)).direction = directionUnder c (channel (drumOf c) s).sense := by rw [own]
  have grow : MissesGrow s (redirected c s) := reached.notified.missesGrow (Nat.zero_le 1)
  have rows : markers (redirected c s) = markers s := by
    have shaft : (redirected c s).tables.shaft.active = s.tables.shaft.active := congrArg (·.2.1) (reached.leftAlone (Nat.zero_le 1))
    rw [markers, shaft]; rfl
  rw [trackMovement_eq] at channels ⊢
  obtain ⟨datumed, direction, reported, -, -, offset, load, -⟩ := kept.keeps
  refine ⟨kept.depthsFollow (redirected_depthsFollow c s), ?offset, ?load, ?datumed, ?direction, fun is turned => ?turned,
    fun is straight moved => ?straight, fun is moved beyond => ?overwind, fun slack => ?slack⟩
  case offset => rw [offset, own]; rfl
  case load => rw [load, own]; rfl
  case datumed => rw [datumed, datumed_is]
  case direction => rw [direction, direction_is, channels]
  case turned =>
    rw [direction, direction_is] at turned
    obtain ⟨none, nearest⟩ := redirected_turned is turned
    obtain ⟨trackers, -⟩ := followOn_unmissed (c := c) (s := redirected c s) (before := (tracker c s).reported) (by
      rintro ⟨⟨isDatumed, -⟩, i, m, missed⟩
      rw [(missedMarker_iff c i m _).mpr ⟨isDatumed, missed⟩] at none
      cases none)
    rw [tracker_congr c trackers]
    exact nearest.congr kept.markers
  case straight =>
    rw [direction, direction_is] at straight
    rw [reported] at moved
    have expected := redirected_straight straight
    have expects_iff (i : Nat) (m : MarkerRow) : Expects c i m (redirected c s) ↔ Expects c i m s := by
      rw [Expects, expected, rows]; rfl
    refine ⟨fun i m expects passed => ?_, fun unpassed => ?_⟩
    · have missed := (missedMarker_iff c i m (redirected c s)).mpr
        ⟨datumed_is.trans is, (expects_iff i m).mpr expects, (kept.hasPassed m).mp passed⟩
      obtain ⟨⟨flag, set, advanced, counted⟩, bounded, -⟩ := followOn_miss (datumed_is.trans is) moved missed
      obtain ⟨grown, -⟩ := grow
      exact ⟨⟨flag, set, advanced, by omega⟩, bounded⟩
    · obtain ⟨trackers, -⟩ := followOn_unmissed (c := c) (s := redirected c s) (before := (tracker c s).reported) (by
        rintro ⟨-, i, m, expects, passed⟩
        exact unpassed i m ((expects_iff i m).mp expects) ((kept.hasPassed m).mpr passed))
      rw [tracker_congr c trackers, expected, own]
      exact ⟨rfl, rfl⟩
  case overwind =>
    rw [reported] at moved
    exact (followOn_overwind (datumed_is.trans is) moved (kept.beyondLimits.mp beyond)).around started (.of_same rfl)
  case slack => exact (followOn_slack (kept.ropeIsSlack.mp slack)).around started (.of_same rfl)

theorem trackMovement_others (c : Conveyance) {other : Conveyance} (away : other ≠ c) (s : State) :
    tracker other (trackMovement c s) = tracker other s := by
  rw [trackMovement_eq, (checked_followOn c _ _).2.1 other away, redirected_others c away]

/-- A drum's movement by each of its trackers, the others untouched (R53). -/
theorem trackDrum_follows (d : Drum) (s : State) (c : Conveyance) :
    (drumOf c ≠ d → tracker c (trackDrum d s) = tracker c s) ∧ (drumOf c = d → TrackerFollows c s (trackDrum d s)) := by
  cases d with
  | skip =>
    refine ⟨fun away => trackMovement_others .skip (by rintro rfl; exact away rfl) s, fun own => ?_⟩
    have is : c = .skip := by
      cases c with
      | skip => rfl
      | cage => cases own
      | counterweight => cases own
    subst is
    exact trackMovement_follows .skip s
  | cage =>
    have cageFirst := reaches_trackMovement (k := 0) .cage s
    have thenCounterweight := reaches_trackMovement (k := 0) .counterweight (trackMovement .cage s)
    have run : trackDrum .cage s = trackMovement .counterweight (trackMovement .cage s) := rfl
    rw [run]
    cases c with
    | skip =>
      exact ⟨fun _ => by rw [trackMovement_others _ (by decide), trackMovement_others _ (by decide)], fun own => nomatch own⟩
    | cage =>
      refine ⟨fun away => absurd rfl away, fun _ => (trackMovement_follows .cage s).around (.of_reaches (.refl s) (Nat.zero_le 1) rfl)
        (.of_reaches thenCounterweight (Nat.zero_le 1) (trackMovement_others _ (by decide) _)) ?_⟩
      rw [channel_of_monitored thenCounterweight.monitored]
    | counterweight =>
      exact ⟨fun away => absurd rfl away, fun _ => (trackMovement_follows .counterweight _).around
        (.of_reaches cageFirst (Nat.zero_le 1) (trackMovement_others _ (by decide) _)) (.of_reaches (.refl _) (Nat.zero_le 1) rfl) rfl⟩

end Sys2Proof.Machine

/-! PROOF. A movement that takes no trip, and the accumulators (chapter 3). -/

namespace Sys2Proof.Machine

/-! ### States that took no trip -/

/-- A cause reported without a trip to follow was not taken at all. -/
theorem reportCause_calm {c : Cause} {s : State} (calm : (reportCause c s).protection.state ≠ .tripped) : reportCause c s = s := by
  by_cases tables : s.protection.state = .noTables
  · exact reportCause_noTables c tables
  · exact absurd (reports_reportCause c s tables).1 calm

theorem reportIf_calm {condition : Bool} {c : Cause} {s : State} (calm : (reportIf condition c s).protection.state ≠ .tripped) :
    reportIf condition c s = s := by
  cases condition
  · rfl
  · exact reportCause_calm calm

theorem KeepsTrip.calm {s t : State} (h : KeepsTrip s t) (calm : t.protection.state ≠ .tripped) : s.protection.state ≠ .tripped :=
  fun tripped => calm (h.2 tripped).1

/-- The trackers' checks that take no trip write neither the drums nor the pipeline, the guard and the supervisor. -/
theorem Reaches.calm {s t : State} (h : Reaches 0 s t) (calm : t.protection.state ≠ .tripped) :
    t.drums = s.drums ∧ t.pipeline = s.pipeline ∧ t.guard = s.guard ∧ t.protection = s.protection := by
  induction h with
  | refl => exact ⟨rfl, rfl, rfl, rfl⟩
  | trans _ second before after =>
    obtain ⟨drums, pipeline, guard, protection⟩ := after calm
    obtain ⟨drums', pipeline', guard', protection'⟩ := before ((second.keepsTrip (Nat.zero_le 1)).calm calm)
    exact ⟨drums.trans drums', pipeline.trans pipeline', guard.trans guard', protection.trans protection'⟩
  | reportCause c s => rw [reportCause_calm calm]; exact ⟨rfl, rfl, rfl, rfl⟩
  | count c s => exact ⟨by simp, by simp, by simp, by simp⟩
  | setFlag f s => exact ⟨by simp, by simp, by simp, by simp⟩
  | setRecord i r s => exact ⟨rfl, rfl, rfl, rfl⟩
  | setTracker c t s => exact ⟨rfl, rfl, rfl, rfl⟩
  | _ => omega

/-- The judgement of a speed that takes no trip computes the envelope and steps the ramp. -/
theorem judgeOverspeed_calm {d : Drum} {s : State} (calm : (judgeOverspeed d (recomputeSpeed s)).protection.state ≠ .tripped) :
    judgeOverspeed d (recomputeSpeed s) = recomputeSpeed s := by
  unfold judgeOverspeed at calm ⊢
  split
  · next exceeds =>
    rw [if_pos exceeds] at calm
    rw [reportCause_calm (c := .overspeed) calm]
    rfl
  · rfl

/-- The ramp step of the lead's drum in a controlled stop (R122, R123). -/
theorem rampStep_steps {d : Drum} {dt : Nat} {s : State} {stop : StopRecord} {trip : Trip} {R : RegimeRow}
    (runs : s.guard.stop = some stop) (active : s.pipeline.active = some trip) (row : regimeRow trip.regime s = some R)
    (lead : d = trip.lead.drum) :
    rampStep d dt s = if (stop.stepped R dt (channel d s).speed).overRun = 3
      then recomputeSpeed (reportCause .stopFail { s with guard.stop := some (stop.stepped R dt (channel d s).speed) })
      else coalesce { frame := substituteFrame (stop.stepped R dt (channel d s).speed) s, source := some .substitute }
        { s with guard.stop := some (stop.stepped R dt (channel d s).speed) } := by
  simp only [rampStep, runs, active, row, if_pos lead]
  rfl

theorem rampStep_none {d : Drum} {dt : Nat} {s : State} (stops : s.guard.stop = none) : rampStep d dt s = s := by
  simp only [rampStep, stops]

/-- Without a stop of the lead's drum the ramp does not step. -/
theorem rampStep_cases (d : Drum) (dt : Nat) (s : State) :
    rampStep d dt s = s ∨ ∃ stop trip R, s.guard.stop = some stop ∧ s.pipeline.active = some trip
      ∧ regimeRow trip.regime s = some R ∧ d = trip.lead.drum := by
  unfold rampStep; split
  · next stop trip runs active =>
    split
    · exact .inl rfl
    · next R row =>
      split
      · next lead => exact .inr ⟨stop, trip, R, runs, active, row, lead⟩
      · exact .inl rfl
  · exact .inl rfl

/-- A ramp step that takes no trip writes the guard alone, beside the envelope; the watch stays. -/
theorem rampStep_calm {d : Drum} {dt : Nat} {s : State} (calm : (rampStep d dt s).protection.state ≠ .tripped) :
    (rampStep d dt s).drums = s.drums ∧ (rampStep d dt s).pipeline = s.pipeline
      ∧ (rampStep d dt s).protection = s.protection ∧ (rampStep d dt s).guard.watch = s.guard.watch := by
  obtain same | ⟨stop, trip, R, runs, active, row, lead⟩ := rampStep_cases d dt s
  · rw [same]; exact ⟨rfl, rfl, rfl, rfl⟩
  · rw [rampStep_steps runs active row lead] at calm ⊢
    split at calm
    · next third =>
      rw [if_pos third, reportCause_calm (c := .stopFail) calm]
      exact ⟨rfl, rfl, rfl, rfl⟩
    · next early =>
      rw [if_neg early]
      exact ⟨by simp, by simp, by simp, (coalesce_timers _ _).1⟩

theorem keepsTrip_rampStep (d : Drum) (dt : Nat) (s : State) : KeepsTrip s (rampStep d dt s) :=
  (reaches_rampStep (Nat.le_refl 1) d dt s).keepsTrip (Nat.le_refl 1)

/-- The judgement of a speed that takes no trip. -/
theorem judgeSpeed_calm {d : Drum} {dt : Nat} {s : State} (calm : (judgeSpeed d dt s).protection.state ≠ .tripped) :
    judgeSpeed d dt s = rampStep d dt (recomputeSpeed s) ∧ (judgeSpeed d dt s).drums = s.drums
      ∧ (judgeSpeed d dt s).pipeline = s.pipeline ∧ (judgeSpeed d dt s).protection = s.protection
      ∧ (judgeSpeed d dt s).guard.watch = s.guard.watch := by
  have before := (keepsTrip_rampStep d dt (judgeOverspeed d (recomputeSpeed s))).calm calm
  have run : judgeSpeed d dt s = rampStep d dt (recomputeSpeed s) := by rw [judgeSpeed, judgeOverspeed_calm before]
  rw [run] at calm ⊢
  exact ⟨rfl, rampStep_calm calm⟩

/-! ### The accumulators of disagreement and hold (R47, R48) -/

/-- The disagreement and the hold, as one value. -/
def sums (s : State) : Int × Nat := (s.drums.disagree, s.drums.hold)

theorem sums_reportIf (condition : Bool) (c : Cause) (s : State) : sums (reportIf condition c s) = sums s := by
  obtain ⟨-, disagree, hold, -⟩ := keepsDrums_reportIf condition c s
  rw [sums, disagree, hold]; rfl

theorem sums_of_drums {s t : State} (same : t.drums = s.drums) : sums t = sums s := by rw [sums, same]; rfl

theorem Reaches.sums {s t : State} (h : Reaches 0 s t) : sums t = sums s := by
  induction h with
  | refl => rfl
  | trans _ _ first second => rw [second, first]
  | reportCause c s => exact sums_reportIf true c s
  | count c s => exact sums_of_drums (by simp)
  | setFlag f s => exact sums_of_drums (by simp)
  | setRecord | setTracker => rfl
  | _ => omega

theorem sums_pipelineMovement (d : Drum) (delta : Int) (s : State) : sums (pipelineMovement d delta s) = sums s := by
  have starts : sums (judgeStart d delta s) = sums s := by
    unfold judgeStart; (repeat' split)
    · rfl
    · have entered : sums (enterState .running s) = sums s := sums_of_drums (by simp)
      exact entered
    · rfl
  exact (sums_of_drums (by simp [pipelineMovement])).trans starts

theorem sums_takeRest (d : Drum) (x y : Bool) (s : State) : sums (takeRest d x y s) = sums s := by
  have rested : sums (noteRest x s) = sums s := by unfold noteRest; split <;> rfl
  unfold takeRest; dsimp only; split
  · exact (sums_of_drums (finishAtRest_drums _)).trans rested
  · exact rested

theorem sums_judgeSpeed (d : Drum) (dt : Nat) (s : State) : sums (judgeSpeed d dt s) = sums s := by
  have exceeds : sums (judgeOverspeed d (recomputeSpeed s)) = sums s := by
    unfold judgeOverspeed; split
    · exact sums_reportIf true .overspeed (recomputeSpeed s)
    · rfl
  rw [judgeSpeed]
  generalize judgeOverspeed d (recomputeSpeed s) = judged at exceeds ⊢
  obtain same | ⟨stop, trip, R, runs, active, row, lead⟩ := rampStep_cases d dt judged
  · rw [same, exceeds]
  · rw [rampStep_steps runs active row lead, ← exceeds]
    split
    · exact sums_reportIf true .stopFail { judged with guard.stop := some (stop.stepped R dt (channel d judged).speed) }
    · exact sums_of_drums (by simp)

end Sys2Proof.Machine

/-! PROOF. The accumulators take a movement (chapter 3). -/

namespace Sys2Proof.Machine

theorem beyond_of_row {s : State} {r : DrumRow} (row : drumRow s = some r) (limit : DrumRow → Nat) (n : Nat) :
    beyond limit n s = true ↔ limit r < n := by simp [beyond, row]

theorem drumRow_of_reaches {k : Nat} {s t : State} (h : Reaches k s t) (low : k ≤ 1) : drumRow t = drumRow s := by
  have same : t.tables.drum.active = s.tables.drum.active := congrArg (·.2.2.2.1) (h.leftAlone low)
  rw [drumRow, same]; rfl

/-- A movement that no trip allows is what drifts in UNDATUMED and ARMED. -/
theorem drifts_of_counts {delta : Int} {s : State} (takes : TakesCauses s) (counts : CountsAsDrift delta s) :
    drifts delta s = true := by
  have state : decide (s.protection.state = .undatumed ∨ s.protection.state = .armed) = true := decide_eq_true takes
  rw [drifts, state]
  obtain empty | ⟨trip, active, waiting, ⟨forward, less⟩ | ⟨reverse, more⟩⟩ := counts
  · rw [empty]; rfl
  · have moves : delta ≠ 0 := by omega
    have against : ¬0 < delta := by omega
    simp [active, waiting, forward, inDirection, moves, against]
  · have moves : delta ≠ 0 := by omega
    have against : ¬delta < 0 := by omega
    simp [active, waiting, reverse, inDirection, moves, against]

/-- The two accumulators that the clutch governs, after a movement. -/
def summed (d : Drum) (delta : Int) (s : State) : State := addHold d delta (addDisagreement d delta s)

theorem summed_frame (d : Drum) (delta : Int) (s : State) :
    (summed d delta s).protection = s.protection ∧ (summed d delta s).pipeline = s.pipeline
      ∧ (summed d delta s).drums.drift = s.drums.drift ∧ (summed d delta s).guard = s.guard
      ∧ (summed d delta s).tables = s.tables := by
  unfold summed addHold addDisagreement
  (repeat' split) <;> exact ⟨rfl, rfl, rfl, rfl, rfl⟩

theorem addDisagreement_takes (d : Drum) (delta : Int) (s : State) :
    (s.protection.image.clutch = .engaged → d = .skip → (addDisagreement d delta s).drums.disagree = s.drums.disagree + delta)
      ∧ (s.protection.image.clutch = .engaged → d = .cage → (addDisagreement d delta s).drums.disagree = s.drums.disagree - delta)
      ∧ (s.protection.image.clutch ≠ .engaged → (addDisagreement d delta s).drums.disagree = s.drums.disagree)
      ∧ (addDisagreement d delta s).drums.hold = s.drums.hold := by
  unfold addDisagreement
  by_cases engaged : s.protection.image.clutch = .engaged
  · rw [if_pos engaged]
    cases d with
    | skip => exact ⟨fun _ _ => rfl, fun _ other => absurd other (by decide), fun out => absurd engaged out, rfl⟩
    | cage => exact ⟨fun _ other => absurd other (by decide), fun _ _ => rfl, fun out => absurd engaged out, rfl⟩
  · rw [if_neg engaged]
    exact ⟨fun is => absurd is engaged, fun is => absurd is engaged, fun _ => rfl, rfl⟩

theorem addHold_takes (d : Drum) (delta : Int) (s : State) :
    (s.protection.image.clutch = .disengaged ∧ d = .cage → (addHold d delta s).drums.hold = s.drums.hold + delta.natAbs)
      ∧ (¬(s.protection.image.clutch = .disengaged ∧ d = .cage) → (addHold d delta s).drums.hold = s.drums.hold)
      ∧ (addHold d delta s).drums.disagree = s.drums.disagree := by
  unfold addHold
  by_cases holds : s.protection.image.clutch = .disengaged ∧ d = .cage
  · rw [if_pos holds]; exact ⟨fun _ => rfl, fun other => absurd holds other, rfl⟩
  · rw [if_neg holds]; exact ⟨fun is => absurd is holds, fun _ => rfl, rfl⟩

theorem addDisagreement_frame (d : Drum) (delta : Int) (s : State) :
    (addDisagreement d delta s).protection = s.protection ∧ (addDisagreement d delta s).tables = s.tables := by
  unfold addDisagreement; (repeat' split) <;> exact ⟨rfl, rfl⟩

theorem addHold_frame (d : Drum) (delta : Int) (s : State) :
    (addHold d delta s).protection = s.protection ∧ (addHold d delta s).tables = s.tables := by
  unfold addHold; split <;> exact ⟨rfl, rfl⟩

theorem sums_judgeDrift (delta : Int) (s : State) : sums (judgeDrift delta s) = sums s := by
  unfold judgeDrift; split
  · exact sums_reportIf _ _ { s with drums.drift := s.drums.drift + delta.natAbs }
  · rfl

section

variable (d : Drum) (relock : Bool) (delta : Int) (s : State)

/-- The three stages before the drift. -/
def relocked : State := judgeRelock relock delta s
def disagreed : State := judgeDisagreement d delta (relocked relock delta s)
def held : State := judgeHold d delta (disagreed d relock delta s)

theorem accumulate_eq : accumulate d relock delta s = judgeDrift delta (held d relock delta s) := rfl

theorem relocked_reaches : Reaches 1 s (relocked relock delta s) := reaches_reportIf _ _ _

theorem disagreed_reaches : Reaches 1 s (disagreed d relock delta s) :=
  (relocked_reaches relock delta s).trans (reaches_judgeDisagreement (Nat.le_refl 1) d delta _)

theorem relocked_clutch : (relocked relock delta s).protection.image = s.protection.image :=
  image_of_monitored (monitored_reportIf s _ _)

theorem disagreed_clutch : (disagreed d relock delta s).protection.image = s.protection.image := by
  rw [disagreed, judgeDisagreement, image_of_monitored (monitored_reportIf _ _ _), (addDisagreement_frame _ _ _).1, relocked_clutch]

/-- The accumulators after a movement are those that the clutch has it added to. -/
theorem accumulate_sums : sums (accumulate d relock delta s) = sums (held d relock delta s) :=
  sums_judgeDrift delta (held d relock delta s)

theorem held_sums :
    (s.protection.image.clutch = .engaged → d = .skip → (held d relock delta s).drums.disagree = s.drums.disagree + delta)
      ∧ (s.protection.image.clutch = .engaged → d = .cage → (held d relock delta s).drums.disagree = s.drums.disagree - delta)
      ∧ (s.protection.image.clutch ≠ .engaged → (held d relock delta s).drums.disagree = s.drums.disagree)
      ∧ (s.protection.image.clutch = .disengaged ∧ d = .cage → (held d relock delta s).drums.hold = s.drums.hold + delta.natAbs)
      ∧ (¬(s.protection.image.clutch = .disengaged ∧ d = .cage) → (held d relock delta s).drums.hold = s.drums.hold) := by
  have relock_sums : sums (relocked relock delta s) = sums s := sums_reportIf _ _ _
  have disagree_sums : sums (disagreed d relock delta s) = sums (addDisagreement d delta (relocked relock delta s)) := sums_reportIf _ _ _
  have hold_sums : sums (held d relock delta s) = sums (addHold d delta (disagreed d relock delta s)) := sums_reportIf _ _ _
  obtain ⟨skip, cage, out, kept⟩ := addDisagreement_takes d delta (relocked relock delta s)
  obtain ⟨adds, free, kept'⟩ := addHold_takes d delta (disagreed d relock delta s)
  simp only [sums, Prod.mk.injEq] at relock_sums disagree_sums hold_sums
  rw [relocked_clutch] at skip cage out
  rw [disagreed_clutch] at adds free
  rw [hold_sums.1, hold_sums.2, kept', disagree_sums.1]
  rw [disagree_sums.2, kept, relock_sums.2] at adds free
  rw [relock_sums.1] at skip cage out
  exact ⟨skip, cage, out, adds, free⟩

end

section

variable {d : Drum} {relock : Bool} {delta : Int} {s : State} {r : DrumRow} (row : drumRow s = some r)

include row

theorem accumulate_relock (relocks : relock = true) (far : r.driftLimit < delta.natAbs) :
    Reports .unplanned s (accumulate d relock delta s) := by
  have passes : (relock && beyond DrumRow.driftLimit delta.natAbs s) = true := by
    rw [relocks, Bool.true_and]; exact (beyond_of_row row _ _).mpr far
  have after : Reaches 1 (relocked relock delta s) (accumulate d relock delta s) :=
    ((reaches_judgeDisagreement (Nat.le_refl 1) d delta _).trans (reaches_judgeHold (Nat.le_refl 1) d delta _)).trans
      (reaches_judgeDrift (Nat.le_refl 1) delta _)
  exact (reports_reportIf passes .unplanned s).around (.of_same rfl) (after.keepsTrip (Nat.le_refl 1))

theorem accumulate_disagrees (engaged : s.protection.image.clutch = .engaged)
    (far : r.disagreeLimit < (accumulate d relock delta s).drums.disagree.natAbs) :
    Reports .disagree s (accumulate d relock delta s) := by
  have same := accumulate_sums d relock delta s
  have hold_sums : sums (held d relock delta s) = sums (addHold d delta (disagreed d relock delta s)) := sums_reportIf _ _ _
  have disagree_sums : sums (disagreed d relock delta s) = sums (addDisagreement d delta (relocked relock delta s)) := sums_reportIf _ _ _
  obtain ⟨-, -, kept⟩ := addHold_takes d delta (disagreed d relock delta s)
  simp only [sums, Prod.mk.injEq] at same hold_sums disagree_sums
  rw [same.1, hold_sums.1, kept, disagree_sums.1] at far
  obtain ⟨protection, tables⟩ := addDisagreement_frame d delta (relocked relock delta s)
  have row' : drumRow (addDisagreement d delta (relocked relock delta s)) = some r := by
    rw [drumRow, tables]; exact (drumRow_of_reaches (relocked_reaches relock delta s) (Nat.le_refl 1)).trans row
  have passes : (decide ((addDisagreement d delta (relocked relock delta s)).protection.image.clutch = .engaged)
      && beyond DrumRow.disagreeLimit (addDisagreement d delta (relocked relock delta s)).drums.disagree.natAbs
        (addDisagreement d delta (relocked relock delta s))) = true := by
    rw [protection, relocked_clutch, decide_eq_true engaged, Bool.true_and]
    exact (beyond_of_row row' _ _).mpr far
  have before : KeepsTrip s (addDisagreement d delta (relocked relock delta s)) :=
    ((relocked_reaches relock delta s).keepsTrip (Nat.le_refl 1)).trans (.of_same protection)
  have after : Reaches 1 (disagreed d relock delta s) (accumulate d relock delta s) :=
    (reaches_judgeHold (Nat.le_refl 1) d delta _).trans (reaches_judgeDrift (Nat.le_refl 1) delta _)
  exact (reports_reportIf passes .disagree _).around before (after.keepsTrip (Nat.le_refl 1))

theorem accumulate_creeps (holds : s.protection.image.clutch = .disengaged ∧ d = .cage)
    (far : r.holdLimit < (accumulate d relock delta s).drums.hold) : Reports .creep s (accumulate d relock delta s) := by
  have same := accumulate_sums d relock delta s
  have hold_sums : sums (held d relock delta s) = sums (addHold d delta (disagreed d relock delta s)) := sums_reportIf _ _ _
  simp only [sums, Prod.mk.injEq] at same hold_sums
  rw [same.2, hold_sums.2] at far
  obtain ⟨protection, tables⟩ := addHold_frame d delta (disagreed d relock delta s)
  have row' : drumRow (addHold d delta (disagreed d relock delta s)) = some r := by
    rw [drumRow, tables]; exact (drumRow_of_reaches (disagreed_reaches d relock delta s) (Nat.le_refl 1)).trans row
  have passes : (decide ((addHold d delta (disagreed d relock delta s)).protection.image.clutch = .disengaged)
      && decide (d = .cage) && beyond DrumRow.holdLimit (addHold d delta (disagreed d relock delta s)).drums.hold
        (addHold d delta (disagreed d relock delta s))) = true := by
    rw [protection, disagreed_clutch, decide_eq_true holds.1, decide_eq_true holds.2, Bool.true_and, Bool.true_and]
    exact (beyond_of_row row' _ _).mpr far
  have before : KeepsTrip s (addHold d delta (disagreed d relock delta s)) :=
    ((disagreed_reaches d relock delta s).keepsTrip (Nat.le_refl 1)).trans (.of_same protection)
  have after : Reaches 1 (held d relock delta s) (accumulate d relock delta s) := reaches_judgeDrift (Nat.le_refl 1) delta _
  exact (reports_reportIf passes .creep _).around before (after.keepsTrip (Nat.le_refl 1))

end

/-- Stages that take no trip only add. -/
theorem held_calm {d : Drum} {relock : Bool} {delta : Int} {s : State}
    (calm : (held d relock delta s).protection.state ≠ .tripped) : held d relock delta s = summed d delta s := by
  have before : (disagreed d relock delta s).protection.state ≠ .tripped :=
    ((reaches_judgeHold (Nat.le_refl 1) d delta _).keepsTrip (Nat.le_refl 1)).calm calm
  have first : (relocked relock delta s).protection.state ≠ .tripped :=
    ((reaches_judgeDisagreement (Nat.le_refl 1) d delta _).keepsTrip (Nat.le_refl 1)).calm before
  have relocks : relocked relock delta s = s := reportIf_calm first
  have disagrees : disagreed d relock delta s = addDisagreement d delta s := by
    have same : disagreed d relock delta s = addDisagreement d delta (relocked relock delta s) := reportIf_calm before
    rw [same, relocks]
  have holds : held d relock delta s = addHold d delta (disagreed d relock delta s) := reportIf_calm calm
  rw [holds, disagrees]
  rfl

end Sys2Proof.Machine

/-! PROOF. A movement, stage by stage, and the channel after it (chapter 3). -/

namespace Sys2Proof.Machine

/-- What is handed on of a movement: the drum, whether the sample relocks, the whole change, the sample's own time, and the
channel after it. -/
structure Movement where
  drum : Drum
  relock : Bool
  change : Int
  dt : Nat
  after : Channel

section

variable (M : Movement) (s : State)

def Movement.begun : State := setChannel M.drum M.after s

def Movement.noted : State := noteMotion M.change (M.begun s)

def Movement.added : State := accumulate M.drum M.relock M.change (M.noted s)

def Movement.tracked : State := trackDrum M.drum (M.added s)

def Movement.piped : State := pipelineMovement M.drum M.change (M.tracked s)

def Movement.rested : State := takeRest M.drum (winderAtRest s) (channel M.drum s).atRest (M.piped s)

def Movement.judged : State := judgeSpeed M.drum M.dt (M.rested s)

/-- A relock of zero change brings its rest alone. -/
def Movement.idle : State :=
  handOnZones (recomputeSpeed (takeRest M.drum (winderAtRest s) (channel M.drum s).atRest (M.begun s)))

/-- The state that a movement leaves. -/
def Movement.run : State := if appliesNothing M.relock M.change then M.idle s else handOnZones (M.judged s)

end

/-- The channel after a good sample that it takes as LOCKED (R40, R43, R44). -/
def Channel.moved (ch : Channel) (L : LayerRow) (n : BitVec 32) (own : Int) (dt : Nat) (baseline : Option Baseline)
    (watch : Option Timer) : Channel :=
  let position := ch.position + own
  { ch with
    position, countRef := some n, baseline, watchTimer := watch, lock := .locked
    payout := ch.payout + payoutChange L ch.applied position
    applied := position
    speed := ropeSpeed (payoutChange L (position - own) position) dt
    sense := senseAfter (position - ch.applied) ch.sense }

theorem winderAtRest_setChannel {d : Drum} {ch : Channel} {s : State} (same : ch.atRest = (channel d s).atRest) :
    winderAtRest (setChannel d ch s) = winderAtRest s := by
  rw [winderAtRest_iff d, winderAtRest_iff d, channel_setChannel_same, channel_setChannel_other _ _ (otherDrum_ne d), same]

/-- A movement applied is one of the stages above. -/
theorem applyMovement_eq {d : Drum} {s : State} {L : LayerRow} (relock : Bool) (own : Int) (dt : Nat) {ch : Channel}
    (row : layerRow d s = some L) (rest : ch.atRest = (channel d s).atRest) :
    applyMovement d relock own dt (setChannel d ch s)
      = Movement.run { drum := d, relock, change := ch.position - ch.applied, dt
                       after := { ch with
                          payout := ch.payout + payoutChange L ch.applied ch.position
                          applied := ch.position
                          speed := ropeSpeed (payoutChange L (ch.position - own) ch.position) dt
                          sense := senseAfter (ch.position - ch.applied) ch.sense }.restOn (timingRow s) } s := by
  have row' : layerRow d (setChannel d ch s) = some L := by simpa [layerRow] using row
  have timing : timingRow (setChannel d ch s) = timingRow s := by simp [timingRow]
  simp only [applyMovement, row', channel_setChannel_same, setChannel_setChannel, winderAtRest_setChannel rest, timing, rest]
  rfl

/-- A good sample of a channel that is LOCKED, or relocks, is a movement (R37, R40). -/
theorem observeSample_moves {s : State} {d : Drum} {n : BitVec 32} {stamp : BitVec 16} {r : DrumRow} {L : LayerRow}
    {b : Baseline} {ref : BitVec 32} (row : drumRow s = some r) (layers : layerRow d s = some L)
    (based : (channel d s).baseline = some b) (counted : (channel d s).countRef = some ref)
    (ready : (channel d s).lock = .locked ∨ (channel d s).lock = .locking 3)
    (early : r.samplePeriod ≤ 2 * (stamp - b.stamp).toNat) (late : (stamp - b.stamp).toNat ≤ 2 * r.samplePeriod) :
    observeSample { drum := d, seq := b.seq + 1, count := n, stamp } s
      = Movement.run { drum := d, relock := decide ((channel d s).lock = .locking 3)
                       change := (channel d s).position + (n - ref).toInt - (channel d s).applied
                       dt := (stamp - b.stamp).toNat
                       after := ((channel d s).moved L n (n - ref).toInt (stamp - b.stamp).toNat
                          (some { seq := b.seq + 1, stamp })
                          (some { lengthMs := r.sampleWatch, runUs := 0 })).restOn (timingRow s) } s := by
  have good : isGood r b (b.seq + 1) stamp = true := (isGood_iff r b _ _).mpr ⟨rfl, early, late⟩
  have brought := bringForward_later n counted
  rw [observeSample_judged row]
  dsimp only
  rw [brought]
  dsimp only
  obtain locked | relocks := ready
  · rw [judgeSample_locked (by rw [channel_setChannel_same]; exact based) (by rw [channel_setChannel_same]; exact locked),
      if_pos good, setLock, channel_setChannel_same, setChannel_setChannel]
    refine (applyMovement_eq false _ _ layers ?_).trans ?_
    · rfl
    · rw [locked]; rfl
  · rw [judgeSample_locking (by rw [channel_setChannel_same]; exact based) (by rw [channel_setChannel_same]; exact relocks),
      if_pos good, if_neg (by decide), setLock, channel_setChannel_same, setChannel_setChannel]
    refine (applyMovement_eq true _ _ layers ?_).trans ?_
    · rfl
    · rw [relocks]; rfl

/-! ### The channel after a movement (R40, R43, R44) -/

/-- Rest after a movement moves the at-rest flag and the rest timer alone. -/
theorem restOn_keeps (ch : Channel) (timing : Option TimingRow) :
    (ch.restOn timing).payout = ch.payout ∧ (ch.restOn timing).applied = ch.applied
      ∧ (ch.restOn timing).position = ch.position ∧ (ch.restOn timing).speed = ch.speed
      ∧ (ch.restOn timing).sense = ch.sense := by
  unfold Channel.restOn; (repeat' split) <;> exact ⟨rfl, rfl, rfl, rfl, rfl⟩

theorem restOn_fast {ch : Channel} {T : TimingRow} (fast : T.restSpeed < ch.speed) :
    ch.restOn (some T) = { ch with atRest := false, restTimer := none } := by
  simp [Channel.restOn, Nat.not_le.mpr fast]

theorem restOn_slow {ch : Channel} {T : TimingRow} (slow : ch.speed ≤ T.restSpeed) :
    (ch.restTimer = none → ch.restOn (some T) = { ch with restTimer := startTimer T.restTime })
      ∧ ∀ timer, ch.restTimer = some timer → ch.restOn (some T) = { ch with
          restTimer := some { timer with lengthMs := T.restTime }
          atRest := ch.atRest || Timer.reached { timer with lengthMs := T.restTime } } := by
  refine ⟨fun stopped => ?_, fun timer runs => ?_⟩
  · simp only [Channel.restOn, if_pos slow, stopped]
  · simp only [Channel.restOn, if_pos slow, runs]

section

variable (M : Movement) (s : State)

theorem Movement.monitored_tracked : monitored (M.tracked s) = monitored (M.begun s) := by
  rw [Movement.tracked, monitored_trackDrum, Movement.added, monitored_accumulate, Movement.noted, monitored_noteMotion]

theorem Movement.monitored_rested : monitored (M.rested s) = monitored (M.begun s) := by
  rw [Movement.rested, monitored_takeRest, Movement.piped, monitored_pipelineMovement, M.monitored_tracked]

theorem Movement.monitored_judged : monitored (M.judged s) = monitored (M.begun s) := by
  rw [Movement.judged, monitored_judgeSpeed, M.monitored_rested]

theorem Movement.monitored_run : monitored (M.run s) = monitored (M.begun s) := by
  have zones (u : State) : monitored (handOnZones u) = monitored u := monitored_of_same (by simp) (by simp)
  unfold Movement.run; split
  · rw [Movement.idle, zones, monitored_recomputeSpeed, monitored_takeRest]
  · rw [zones, M.monitored_judged]

theorem Movement.channel_run : channel M.drum (M.run s) = M.after := by
  rw [channel_of_monitored (M.monitored_run s), Movement.begun, channel_setChannel_same]

end

/-- The rest that a movement's speed leaves, as the statement says it. -/
theorem restFollows_of_restOn {d : Drum} {s t : State} {ch : Channel} (rest : ch.atRest = (channel d s).atRest)
    (timer : ch.restTimer = (channel d s).restTimer) (after : channel d t = ch.restOn (timingRow s)) : RestFollows d s t := by
  intro T timing
  rw [timing] at after
  have speed : (channel d t).speed = ch.speed := by rw [after]; exact (restOn_keeps ch _).2.2.2.1
  refine ⟨fun fast => ?fast, fun slow => ⟨fun stopped => ?starts, fun run runs => ?runs⟩⟩
  case fast =>
    rw [speed] at fast
    rw [after, restOn_fast fast]
    exact ⟨rfl, rfl⟩
  case starts =>
    rw [speed] at slow
    rw [after, (restOn_slow slow).1 (timer.trans stopped), ← rest]
    exact ⟨rfl, rfl⟩
  case runs =>
    rw [speed] at slow
    rw [after, (restOn_slow slow).2 run (timer.trans runs), ← rest]
    refine ⟨rfl, ?_⟩
    simp [Timer.reached]

end Sys2Proof.Machine

/-! PROOF. The trackers and the accumulators after a movement (chapters 3 and 4). -/

namespace Sys2Proof.Machine

section

variable (M : Movement) (s : State)

/-- The state as the sample's frame is offered upstream. -/
def Movement.result (f : Frame) : State := offerUp .field f (handOnZones (M.judged s))

theorem Movement.reaches_noted : Reaches 1 s (M.noted s) := by
  have begun : Reaches 1 s (M.begun s) := .setChannel M.drum _ s (Nat.le_refl 1)
  unfold Movement.noted noteMotion; split
  · exact begun
  · exact begun.trans (reaches_abandonByMotion (Nat.le_refl 1) _)

theorem Movement.reaches_added : Reaches 1 (M.noted s) (M.added s) := reaches_accumulate (Nat.le_refl 1) _ _ _ _

theorem Movement.reaches_tracked : Reaches 0 (M.added s) (M.tracked s) := reaches_trackDrum _ _

theorem Movement.reaches_piped : Reaches 1 (M.tracked s) (M.piped s) := reaches_pipelineMovement (Nat.le_refl 1) _ _ _

theorem Movement.reaches_rested : Reaches 1 (M.piped s) (M.rested s) := reaches_takeRest (Nat.le_refl 1) _ _ _ _

theorem Movement.reaches_judged : Reaches 1 (M.rested s) (M.judged s) := reaches_judgeSpeed (Nat.le_refl 1) _ _ _

/-- Before the trackers: the store and the accumulators. -/
theorem Movement.reaches_before : Reaches 1 s (M.added s) := (M.reaches_noted s).trans (M.reaches_added s)

/-- Behind the trackers: the pipeline, the rest and the judgement of the speed. -/
theorem Movement.reaches_behind : Reaches 1 (M.tracked s) (M.judged s) :=
  ((M.reaches_piped s).trans (M.reaches_rested s)).trans (M.reaches_judged s)

theorem Movement.trackers_before : (M.added s).trackers = s.trackers := by
  simp [Movement.added, Movement.noted, Movement.begun]

theorem Movement.trackers_behind : (M.judged s).trackers = (M.tracked s).trackers := by
  simp [Movement.judged, Movement.rested, Movement.piped]

theorem Movement.monitored_result (f : Frame) : monitored (M.result s f) = monitored (M.begun s) := by
  have zones : monitored (handOnZones (M.judged s)) = monitored (M.judged s) := monitored_of_same (by simp) (by simp)
  rw [Movement.result, monitored_offerUp, zones, M.monitored_judged]

/-- The trackers of the moved drum follow, the others stay. -/
theorem Movement.trackersFollow (f : Frame) : TrackersFollow M.drum s (M.result s f) := by
  intro c
  obtain ⟨others, follows⟩ := trackDrum_follows M.drum (M.added s) c
  have before : CarriesTracker c s (M.added s) := .of_reaches (M.reaches_before s) (Nat.le_refl 1) (tracker_congr c (M.trackers_before s))
  have behind : CarriesTracker c (M.tracked s) (M.result s f) :=
    (CarriesTracker.of_reaches (M.reaches_behind s) (Nat.le_refl 1) (tracker_congr c (M.trackers_behind s))).trans
      (carriesTracker_offered c f _)
  have channels : channel (drumOf c) (M.result s f) = channel (drumOf c) (M.tracked s) :=
    channel_of_monitored ((M.monitored_result s f).trans (M.monitored_tracked s).symm) _
  refine ⟨fun away => ?_, fun own => ?_⟩
  · exact behind.1.trans ((others away).trans before.1)
  · obtain ⟨depths, offset, load, datumed, direction, searches, checks, overwinds, slacks⟩ :=
      (follows own).around before behind channels
    refine ⟨depths, offset, load, datumed, own ▸ direction, searches, fun is kept moved => ?_, overwinds, slacks⟩
    obtain ⟨took, free⟩ := checks is kept moved
    exact ⟨fun i m expects passed => (took i m expects passed).1, free⟩

end

end Sys2Proof.Machine

/-! PROOF. The accumulators take a movement (chapter 3). -/

namespace Sys2Proof.Machine

/-- Where neither disagreement nor hold is beyond its limit, the first cause before the drift is that of the relock. -/
theorem held_first {d : Drum} {relock : Bool} {delta : Int} {s : State} {r : DrumRow} (row : drumRow s = some r)
    (takes : TakesCauses s)
    (agrees : ¬(s.protection.image.clutch = .engaged ∧ r.disagreeLimit < (held d relock delta s).drums.disagree.natAbs))
    (holds : ¬(s.protection.image.clutch = .disengaged ∧ d = .cage ∧ r.holdLimit < (held d relock delta s).drums.hold)) :
    held d relock delta s = summed d delta s
      ∨ (held d relock delta s).protection.state = .tripped
        ∧ (held d relock delta s).protection.firstCause = some .unplanned := by
  by_cases passes : (relock && beyond DrumRow.driftLimit delta.natAbs s) = true
  · have first : relocked relock delta s = reportCause .unplanned s := by rw [relocked, judgeRelock, passes, reportIf_true]
    obtain ⟨tripped, cause, -⟩ := reportCause_first (c := .unplanned) takes
    rw [← first] at tripped cause
    have after : Reaches 1 (relocked relock delta s) (held d relock delta s) :=
      (reaches_judgeDisagreement (Nat.le_refl 1) d delta _).trans (reaches_judgeHold (Nat.le_refl 1) d delta _)
    obtain ⟨stays, same, -⟩ := (after.keepsTrip (Nat.le_refl 1)).2 tripped
    exact .inr ⟨stays, same.trans cause⟩
  · left
    have relocks : relocked relock delta s = s := by
      rw [relocked, judgeRelock, Bool.eq_false_iff.mpr passes, reportIf_false]
    have disagree_sums : sums (disagreed d relock delta s) = sums (addDisagreement d delta (relocked relock delta s)) := sums_reportIf _ _ _
    have hold_sums : sums (held d relock delta s) = sums (addHold d delta (disagreed d relock delta s)) := sums_reportIf _ _ _
    obtain ⟨-, -, kept⟩ := addHold_takes d delta (disagreed d relock delta s)
    simp only [sums, Prod.mk.injEq] at disagree_sums hold_sums
    rw [hold_sums.1, kept, disagree_sums.1, relocks] at agrees
    obtain ⟨protection, tables⟩ := addDisagreement_frame d delta s
    have row' : drumRow (addDisagreement d delta s) = some r := by rw [drumRow, tables]; exact row
    have disagrees : disagreed d relock delta s = addDisagreement d delta s := by
      have none : (decide ((addDisagreement d delta s).protection.image.clutch = .engaged)
          && beyond DrumRow.disagreeLimit (addDisagreement d delta s).drums.disagree.natAbs (addDisagreement d delta s)) = false := by
        rw [Bool.eq_false_iff, ne_eq, Bool.and_eq_true, decide_eq_true_eq, beyond_of_row row', protection]
        exact agrees
      rw [disagreed, relocks, judgeDisagreement, none, reportIf_false]
    rw [hold_sums.2, disagrees] at holds
    obtain ⟨protection', tables'⟩ := addHold_frame d delta (addDisagreement d delta s)
    have row'' : drumRow (addHold d delta (addDisagreement d delta s)) = some r := by rw [drumRow, tables']; exact row'
    have none : (decide ((addHold d delta (addDisagreement d delta s)).protection.image.clutch = .disengaged) && decide (d = .cage)
        && beyond DrumRow.holdLimit (addHold d delta (addDisagreement d delta s)).drums.hold
          (addHold d delta (addDisagreement d delta s))) = false := by
      rw [Bool.eq_false_iff, ne_eq, Bool.and_eq_true, Bool.and_eq_true, decide_eq_true_eq, decide_eq_true_eq, beyond_of_row row'',
        protection', protection, and_assoc]
      exact holds
    rw [held, disagrees, judgeHold, none, reportIf_false]
    rfl

theorem drifts_congr {s t : State} (state : t.protection.state = s.protection.state) (pipeline : t.pipeline = s.pipeline)
    (delta : Int) : drifts delta t = drifts delta s := by rw [drifts, drifts, state, pipeline]

/-- The accumulators after a movement that took no trip. -/
theorem accumulate_calm {d : Drum} {relock : Bool} {delta : Int} {s : State}
    (calm : (accumulate d relock delta s).protection.state ≠ .tripped) :
    (accumulate d relock delta s) = { summed d delta s with
      drums.drift := if drifts delta s then s.drums.drift + delta.natAbs else s.drums.drift } := by
  have before : (held d relock delta s).protection.state ≠ .tripped :=
    ((reaches_judgeDrift (Nat.le_refl 1) delta _).keepsTrip (Nat.le_refl 1)).calm calm
  obtain ⟨protection, pipeline, drift, -⟩ := summed_frame d delta s
  rw [accumulate_eq, held_calm before, judgeDrift, drifts_congr (by rw [protection]) pipeline, drift] at calm ⊢
  split
  · next drifted =>
    rw [if_pos drifted] at calm
    exact reportIf_calm (s := { summed d delta s with drums.drift := s.drums.drift + delta.natAbs }) calm
  · rw [← drift]

section

variable {M : Movement} {s : State} {f : Frame}

theorem Movement.drumRow_noted {r : DrumRow} (row : drumRow s = some r) : drumRow (M.noted s) = some r :=
  (drumRow_of_reaches (M.reaches_noted s) (Nat.le_refl 1)).trans row

/-- What the store's part in a movement leaves. -/
theorem Movement.noted_keeps (M : Movement) (s : State) :
    (M.noted s).protection = s.protection ∧ (M.noted s).pipeline = s.pipeline ∧ (M.noted s).guard = s.guard
      ∧ sums (M.noted s) = sums s ∧ (M.noted s).drums.drift = s.drums.drift := by
  have drums : (M.noted s).drums = (M.begun s).drums := by simp [Movement.noted]
  have begun : (M.begun s).drums.disagree = s.drums.disagree ∧ (M.begun s).drums.hold = s.drums.hold
      ∧ (M.begun s).drums.drift = s.drums.drift := by
    unfold Movement.begun; cases M.drum <;> exact ⟨rfl, rfl, rfl⟩
  obtain ⟨disagree, hold, drift⟩ := begun
  exact ⟨by simp [Movement.noted, Movement.begun], by simp [Movement.noted, Movement.begun],
    by simp [Movement.noted, Movement.begun], by rw [sums, drums, disagree, hold]; rfl, by rw [drums, drift]⟩

/-- Behind the accumulators no cause is taken back. -/
theorem Movement.keepsTrip_behind (M : Movement) (s : State) (f : Frame) : KeepsTrip (M.added s) (M.result s f) := by
  obtain ⟨-, protection, -⟩ := offeredZones_keeps f (M.judged s)
  exact (((M.reaches_tracked s).keepsTrip (Nat.zero_le 1)).trans ((M.reaches_behind s).keepsTrip (Nat.le_refl 1))).trans
    (.of_same protection)

/-- The sums after a movement are those of the accumulators. -/
theorem Movement.sums_result (M : Movement) (s : State) (f : Frame) :
    sums (M.result s f) = sums (held M.drum M.relock M.change (M.noted s)) := by
  obtain ⟨-, -, -, drums, -⟩ := offeredZones_keeps f (M.judged s)
  rw [Movement.result, sums_of_drums drums, Movement.judged, sums_judgeSpeed, Movement.rested, sums_takeRest, Movement.piped,
    sums_pipelineMovement, (M.reaches_tracked s).sums, Movement.added, accumulate_sums]

end

end Sys2Proof.Machine

/-! PROOF. A movement that took no trip, and what the accumulators make of any (chapter 3). -/

namespace Sys2Proof.Machine

/-- Up to the trackers a movement without a trip writes neither the pipeline nor the guard and the supervisor; the drift
alone takes it. -/
theorem Movement.tracked_calm {M : Movement} {s : State} (tracked : (M.tracked s).protection.state ≠ .tripped) :
    (M.tracked s).pipeline = s.pipeline ∧ (M.tracked s).guard = s.guard ∧ (M.tracked s).protection = s.protection
      ∧ (M.tracked s).drums.drift = if drifts M.change s then s.drums.drift + M.change.natAbs else s.drums.drift := by
  obtain ⟨drums, pipeline, guard, protection⟩ := (M.reaches_tracked s).calm tracked
  have added : (M.added s).protection.state ≠ .tripped := ((M.reaches_tracked s).keepsTrip (Nat.zero_le 1)).calm tracked
  obtain ⟨noted_protection, noted_pipeline, noted_guard, -, noted_drift⟩ := M.noted_keeps s
  obtain ⟨same_protection, same_pipeline, -, same_guard, -⟩ := summed_frame M.drum M.change (M.noted s)
  rw [drums, pipeline, guard, protection, Movement.added, accumulate_calm added]
  refine ⟨same_pipeline.trans noted_pipeline, same_guard.trans noted_guard, same_protection.trans noted_protection, ?_⟩
  dsimp only
  rw [drifts_congr (by rw [noted_protection]) noted_pipeline, noted_drift]

section

variable {M : Movement} {s : State} {f : Frame} (calm : (M.result s f).protection.state ≠ .tripped)

include calm

theorem Movement.judged_untripped : (M.judged s).protection.state ≠ .tripped := by
  obtain ⟨-, protection, -⟩ := offeredZones_keeps f (M.judged s)
  exact protection ▸ calm

theorem Movement.tracked_untripped : (M.tracked s).protection.state ≠ .tripped :=
  ((M.reaches_behind s).keepsTrip (Nat.le_refl 1)).calm (Movement.judged_untripped calm)

/-- Behind the rest a movement without a trip writes the envelope, and the guard alone beside it. -/
theorem Movement.judged_calm :
    M.judged s = rampStep M.drum M.dt (recomputeSpeed (M.rested s)) ∧ (M.result s f).drums = (M.rested s).drums
      ∧ (M.result s f).pipeline = (M.rested s).pipeline ∧ (M.result s f).protection = (M.rested s).protection
      ∧ (M.result s f).guard.watch = (M.rested s).guard.watch := by
  obtain ⟨run, drums, pipeline, protection, watch⟩ := judgeSpeed_calm (d := M.drum) (dt := M.dt) (s := M.rested s)
    (Movement.judged_untripped calm)
  obtain ⟨-, protection', -, drums', pipeline', guard', -⟩ := offeredZones_keeps f (M.judged s)
  exact ⟨run, drums'.trans drums, pipeline'.trans pipeline, protection'.trans protection,
    by rw [Movement.result, guard', Movement.judged, watch]⟩

end

/-- A movement that counts as drift starts no trip. -/
theorem judgeStart_of_counts {delta : Int} {s : State} (counts : CountsAsDrift delta s) (d : Drum) : judgeStart d delta s = s := by
  obtain empty | ⟨trip, active, -, against⟩ := counts
  · simp only [judgeStart, empty]
  · have away : inDirection delta trip.direction = false := by
      obtain ⟨forward, less⟩ | ⟨reverse, more⟩ := against
      · rw [forward, inDirection, decide_eq_false (by omega)]
      · rw [reverse, inDirection, decide_eq_false (by omega)]
    simp [judgeStart, active, away]

theorem noteRest_drift (before : Bool) (s : State) :
    (noteRest before s).drums.drift = if before = false ∧ winderAtRest s = true then 0 else s.drums.drift := by
  cases before <;> cases rest : winderAtRest s <;> simp [noteRest, rest, clearDrift]

theorem takeRest_drums (d : Drum) (x y : Bool) (s : State) : (takeRest d x y s).drums = (noteRest x s).drums := by
  unfold takeRest; dsimp only; split
  · exact finishAtRest_drums _
  · rfl

theorem winderAtRest_of_monitored {s t : State} (same : monitored t = monitored s) : winderAtRest t = winderAtRest s := by
  rw [winderAtRest_iff .skip, winderAtRest_iff .skip, channel_of_monitored same, channel_of_monitored same]

/-- The drift after a movement that counts as such and took no trip (R45, R49). -/
theorem Movement.drift_calm {M : Movement} {s : State} {f : Frame} (takes : TakesCauses s) (counts : CountsAsDrift M.change s)
    (calm : (M.result s f).protection.state ≠ .tripped) :
    (M.result s f).drums.drift
      = if winderAtRest s = false ∧ winderAtRest (M.result s f) = true then 0 else s.drums.drift + M.change.natAbs := by
  obtain ⟨pipeline, -, -, drift⟩ := Movement.tracked_calm (Movement.tracked_untripped calm)
  obtain ⟨-, drums, -⟩ := Movement.judged_calm calm
  have unstarted : judgeStart M.drum M.change (M.tracked s) = M.tracked s :=
    judgeStart_of_counts (by rw [CountsAsDrift, pipeline]; exact counts) _
  have piped : (M.piped s).drums.drift = s.drums.drift + M.change.natAbs := by
    rw [Movement.piped, pipelineMovement, unstarted]
    simp [drift, drifts_of_counts takes counts]
  have still : winderAtRest (M.result s f) = winderAtRest (M.piped s) :=
    winderAtRest_of_monitored ((M.monitored_result s f).trans (by
      rw [Movement.piped, monitored_pipelineMovement, M.monitored_tracked]))
  rw [drums, Movement.rested, takeRest_drums, noteRest_drift, piped, still]

/-- What the accumulators make of a movement (R41, R47 to R49). -/
theorem Movement.accumulatorsTake {M : Movement} {s : State} {r : DrumRow} (row : drumRow s = some r)
    (relocks : (channel M.drum s).lock = .locking 3 → M.relock = true) (f : Frame) :
    AccumulatorsTake M.drum r M.change s (M.result s f) := by
  have row' := M.drumRow_noted row
  obtain ⟨protection, pipeline, -, before_sums, drift⟩ := M.noted_keeps s
  have after_sums := M.sums_result s f
  have same_sums := accumulate_sums M.drum M.relock M.change (M.noted s)
  obtain ⟨skip, cage, out, adds, free⟩ := held_sums M.drum M.relock M.change (M.noted s)
  have before : KeepsTrip s (M.noted s) := .of_same protection
  have behind := M.keepsTrip_behind s f
  simp only [sums, Prod.mk.injEq] at before_sums after_sums same_sums
  rw [protection, ← after_sums.1, before_sums.1] at skip cage out
  rw [protection, ← after_sums.2, before_sums.2] at adds free
  refine ⟨skip, cage, out, adds, free, fun ⟨engaged, far⟩ => ?disagrees, fun ⟨out, cage, far⟩ => ?creeps,
    fun locking far => ?relock, fun takes counts far agrees holds => ?drifts, fun takes counts calm => Movement.drift_calm takes counts calm⟩
  case disagrees =>
    rw [after_sums.1, ← same_sums.1] at far
    exact (accumulate_disagrees row' (by rw [protection]; exact engaged) far).around before behind
  case creeps =>
    rw [after_sums.2, ← same_sums.2] at far
    exact (accumulate_creeps row' (by rw [protection]; exact ⟨out, cage⟩) far).around before behind
  case relock => exact (accumulate_relock row' (relocks locking) far).around before behind
  case drifts =>
    rw [after_sums.1] at agrees
    rw [after_sums.2] at holds
    rw [← protection] at agrees holds
    have takes' : TakesCauses (M.noted s) := by rw [TakesCauses, protection]; exact takes
    have tripped : (M.added s).protection.state = .tripped ∧ (M.added s).protection.firstCause = some .unplanned := by
      obtain calm | ⟨tripped, first⟩ := held_first row' takes' agrees holds
      · obtain ⟨same, same_pipeline, same_drift, -, same_tables⟩ := summed_frame M.drum M.change (M.noted s)
        have drifted : drifts M.change (summed M.drum M.change (M.noted s)) = true := by
          rw [drifts_congr (by rw [same, protection]) (same_pipeline.trans pipeline)]
          exact drifts_of_counts takes counts
        have far' : beyond DrumRow.driftLimit (s.drums.drift + M.change.natAbs) { summed M.drum M.change (M.noted s) with
            drums.drift := s.drums.drift + M.change.natAbs } = true := by
          refine (beyond_of_row ?_ _ _).mpr far
          rw [drumRow, same_tables]
          exact row'
        rw [Movement.added, accumulate_eq, calm, judgeDrift, if_pos drifted, same_drift, drift]
        dsimp only
        rw [far', reportIf_true]
        obtain ⟨tripped, first, -⟩ := reportCause_first (c := .unplanned)
          (s := { summed M.drum M.change (M.noted s) with drums.drift := s.drums.drift + M.change.natAbs })
          (by rw [TakesCauses, same]; exact takes')
        exact ⟨tripped, first⟩
      · obtain ⟨stays, cause, -⟩ := ((reaches_judgeDrift (Nat.le_refl 1) M.change _).keepsTrip (Nat.le_refl 1)).2 tripped
        exact ⟨stays, cause.trans first⟩
    obtain ⟨stays, cause, -⟩ := behind.2 tripped.1
    exact ⟨stays, cause.trans tripped.2⟩

end Sys2Proof.Machine

/-! PROOF. The active trip after a movement, stage by stage (chapter 5). -/

namespace Sys2Proof.Machine

/-! ### What the pipeline looks at -/

/-- The tables, the holders, the trackers and the channels of two states are the same. -/
def LooksAlike (s t : State) : Prop :=
  t.tables.shaft.active = s.tables.shaft.active ∧ t.tables.profile.active = s.tables.profile.active
    ∧ t.zones.holders = s.zones.holders ∧ t.trackers = s.trackers ∧ monitored t = monitored s

theorem LooksAlike.trans {s t u : State} (first : LooksAlike s t) (second : LooksAlike t u) : LooksAlike s u := by
  obtain ⟨shaft, profile, holders, trackers, drums⟩ := first
  obtain ⟨shaft', profile', holders', trackers', drums'⟩ := second
  exact ⟨shaft'.trans shaft, profile'.trans profile, holders'.trans holders, trackers'.trans trackers, drums'.trans drums⟩

theorem LooksAlike.of_reaches {s t : State} (h : Reaches 1 s t) (trackers : t.trackers = s.trackers)
    (drums : monitored t = monitored s) : LooksAlike s t := by
  have same := h.leftAlone (Nat.le_refl 1)
  exact ⟨congrArg (·.2.1) same, congrArg (·.2.2.1) same, congrArg (·.2.2.2.2.1) same, trackers, drums⟩

section

variable {s t : State} (h : LooksAlike s t)

include h

theorem LooksAlike.channel (d : Drum) : channel d t = channel d s := channel_of_monitored h.2.2.2.2 d

theorem LooksAlike.timingRow : timingRow t = timingRow s := by rw [Machine.timingRow, h.2.1]; rfl

theorem LooksAlike.regimeRow (r : Regime) : regimeRow r t = regimeRow r s := by
  obtain ⟨-, profile, -⟩ := h
  rw [Machine.regimeRow, profile]; rfl

theorem LooksAlike.distanceToTarget (trip : Trip) : distanceToTarget trip t = distanceToTarget trip s := by
  exact distanceToTarget_congr trip h.1 h.2.2.2.1 fun d => by rw [LooksAlike.channel h d]

theorem LooksAlike.ground : SameGround s t := by
  have channels (d : Drum) := LooksAlike.channel h d
  obtain ⟨shaft, -, holders, trackers, -⟩ := h
  exact ⟨shaft, trackers, holders, fun d => by rw [channels]⟩

end

/-! ### The slots through a change of state (R80 to R82, R120) -/

/-- The active trip stands in a state, with a reference watch, beside these slots and this history. -/
def SlotHolds (slots : Pipeline) (trip : Trip) (state : TripState) (watch : Option Timer) (s : State) : Prop :=
  s.pipeline = { slots with active := some { trip with state } } ∧ s.guard.watch = watch

section

variable {slots : Pipeline} {trip : Trip} {state : TripState} {watch : Option Timer} {s : State}

theorem SlotHolds.active (h : SlotHolds slots trip state watch s) : s.pipeline.active = some { trip with state } := by
  rw [h.1]

theorem SlotHolds.of_same {t : State} (h : SlotHolds slots trip state watch s) (pipeline : t.pipeline = s.pipeline)
    (guard : t.guard.watch = s.guard.watch) : SlotHolds slots trip state watch t := ⟨pipeline.trans h.1, guard.trans h.2⟩

/-- A change of state, with the watch that goes with it. -/
theorem SlotHolds.enterState (h : SlotHolds slots trip state watch s) (new : TripState) :
    SlotHolds slots trip new (watchOn state new s).guard.watch (enterState new s) := by
  refine ⟨?_, ?_⟩
  · rw [enterState_pipeline new s h.active, h.1]
  · unfold Machine.enterState
    simp only [h.active]
    cases new <;> cases state <;> rfl

theorem startWatch_watch {T : TimingRow} (timing : timingRow s = some T) :
    (startWatch s).guard.watch = some { lengthMs := T.refWatch, runUs := 0 } := by
  simp [startWatch, timing, startTimer]

variable {T : TimingRow} {d : Drum}

theorem isSlow_of_row (timing : timingRow s = some T) (speed : Nat) : isSlow speed s = decide (speed ≤ T.restSpeed) := by
  simp only [isSlow, timing]

theorem movingDrumsSlow_iff (timing : timingRow s = some T) (trip : Trip) :
    movingDrumsSlow trip s = true ↔ ∀ x, isMovingDrum trip.movesAll x = true → (channel x s).speed ≤ T.restSpeed := by
  rw [movingDrumsSlow, isSlow_of_row timing, isSlow_of_row timing]
  constructor
  · intro slow x
    cases x <;> cases movesAll : trip.movesAll <;> simp_all [isMovingDrum, channel]
  · intro slow
    have skip := slow .skip
    have cage := slow .cage
    cases movesAll : trip.movesAll <;> simp_all [isMovingDrum, channel]

theorem inDirection_iff (delta : Int) (direction : DrumDirection) :
    inDirection delta direction = true ↔ direction = .forward ∧ 0 < delta ∨ direction = .reverse ∧ delta < 0 := by
  cases direction <;> simp [inDirection]

/-- A movement of the lead's drum, in the trip direction and above `rest_speed`, starts a trip in WAITING (R80). -/
def Starts (d : Drum) (delta : Int) (trip : Trip) (T : TimingRow) (s : State) : Prop :=
  d = trip.lead.drum ∧ (trip.direction = .forward ∧ 0 < delta ∨ trip.direction = .reverse ∧ delta < 0)
    ∧ T.restSpeed < (channel d s).speed

theorem judgeStart_starts {delta : Int} (h : SlotHolds slots trip .waiting watch s) (timing : timingRow s = some T)
    (starts : Starts d delta trip T s) :
    SlotHolds slots trip .running (some { lengthMs := T.refWatch, runUs := 0 }) (judgeStart d delta s)
      ∧ (judgeStart d delta s).drums.drift = 0 := by
  obtain ⟨lead, along, fast⟩ := starts
  have run : judgeStart d delta s = clearDrift (enterState .running s) := by
    simp only [judgeStart, h.active]
    exact if_pos ⟨trivial, lead, (inDirection_iff _ _).mpr along, by rw [timing]; rfl, by
      rw [isSlow_of_row timing, decide_eq_false (Nat.not_le.mpr fast)]; rfl⟩
  rw [run]
  have entered := h.enterState .running
  have watched : (watchOn .waiting .running s).guard.watch = some { lengthMs := T.refWatch, runUs := 0 } := startWatch_watch timing
  rw [watched] at entered
  exact ⟨entered, rfl⟩

theorem judgeStart_waits {delta : Int} (h : SlotHolds slots trip state watch s) (timing : timingRow s = some T)
    (waits : ¬(state = .waiting ∧ Starts d delta trip T s)) : judgeStart d delta s = s := by
  simp only [judgeStart, h.active]
  refine if_neg fun ⟨waiting, lead, along, _, fast⟩ => waits ⟨waiting, lead, (inDirection_iff _ _).mp along, ?_⟩
  rw [isSlow_of_row timing] at fast
  exact Nat.not_le.mp (by simpa using fast)

/-- RUNNING becomes CREEPING in the creep band (R81). -/
theorem judgeCreeping_running {R : RegimeRow} (h : SlotHolds slots trip .running watch s) (regime : regimeRow trip.regime s = some R) :
    SlotHolds slots trip (if distanceToTarget trip s ≤ (R.dCreep : Int) then .creeping else .running) watch (judgeCreeping s) := by
  have band : creepDistance { trip with state := .running } s = R.dCreep := by simp only [creepDistance, regime]
  have distance : distanceToTarget { trip with state := .running } s = distanceToTarget trip s := rfl
  simp only [judgeCreeping, h.active, true_and, band, distance]
  split
  · have entered := h.enterState .creeping
    rwa [show (watchOn .running .creeping s).guard.watch = watch from h.2] at entered
  · exact h

theorem judgeCreeping_other (h : SlotHolds slots trip state watch s) (other : state ≠ .running) : judgeCreeping s = s := by
  simp only [judgeCreeping, h.active]
  exact if_neg fun ⟨running, _⟩ => other running

/-- A movement of a drum that the trip moves leaves all of them at or below `rest_speed` (R82). -/
def Slows (d : Drum) (trip : Trip) (T : TimingRow) (s : State) : Prop :=
  isMovingDrum trip.movesAll d = true ∧ ∀ x, isMovingDrum trip.movesAll x = true → (channel x s).speed ≤ T.restSpeed

theorem judgeSettling_settles (h : SlotHolds slots trip state watch s) (timing : timingRow s = some T)
    (moves : state = .running ∨ state = .creeping) (slows : Slows d trip T s) :
    SlotHolds slots trip .settling none (judgeSettling d s) := by
  obtain ⟨turns, slow⟩ := slows
  have slow' : movingDrumsSlow { trip with state } s = true := (movingDrumsSlow_iff timing { trip with state }).mpr slow
  have run : judgeSettling d s = Machine.enterState .settling s := by
    simp only [judgeSettling, h.active]
    obtain rfl | rfl := moves <;> simp [turns, slow']
  rw [run]
  exact h.enterState .settling

theorem judgeSettling_moves (h : SlotHolds slots trip state watch s) (timing : timingRow s = some T)
    (moves : state = .running ∨ state = .creeping) (fast : ¬Slows d trip T s) : judgeSettling d s = s := by
  simp only [judgeSettling, h.active]
  by_cases turns : isMovingDrum trip.movesAll d = true
  · have fast' : ¬movingDrumsSlow { trip with state } s = true := fun slow =>
      fast ⟨turns, (movingDrumsSlow_iff timing { trip with state }).mp slow⟩
    obtain rfl | rfl := moves <;> simp [fast']
  · simp [turns]

/-- SETTLING goes back to CREEPING at a movement above `rest_speed` (R82). -/
theorem judgeSettling_creeps (h : SlotHolds slots trip .settling watch s) (timing : timingRow s = some T)
    (turns : isMovingDrum trip.movesAll d = true) (fast : T.restSpeed < (channel d s).speed) :
    SlotHolds slots trip .creeping (some { lengthMs := T.refWatch, runUs := 0 }) (judgeSettling d s) := by
  have run : judgeSettling d s = Machine.enterState .creeping s := by
    simp [judgeSettling, h.active, turns, isSlow_of_row timing, Nat.not_le.mpr fast]
  rw [run]
  have entered := h.enterState .creeping
  have watched : (watchOn .settling .creeping s).guard.watch = some { lengthMs := T.refWatch, runUs := 0 } := startWatch_watch timing
  rwa [watched] at entered

theorem judgeSettling_stays (h : SlotHolds slots trip state watch s) (timing : timingRow s = some T)
    (running : state ≠ .running) (creeping : state ≠ .creeping)
    (stays : ¬(state = .settling ∧ isMovingDrum trip.movesAll d = true ∧ T.restSpeed < (channel d s).speed)) :
    judgeSettling d s = s := by
  simp only [judgeSettling, h.active]
  by_cases turns : isMovingDrum trip.movesAll d = true
  · cases state with
    | running => exact absurd rfl running
    | creeping => exact absurd rfl creeping
    | settling =>
      have slow : (channel d s).speed ≤ T.restSpeed := Nat.not_lt.mp fun fast => stays ⟨rfl, turns, fast⟩
      simp [turns, isSlow_of_row timing, slow]
    | _ => simp
  · simp [turns]

end

end Sys2Proof.Machine

/-! PROOF. The active trip after a movement (chapter 5). -/

namespace Sys2Proof.Machine

/-! ### Finishes from slots that differ in the active trip alone -/

section

variable {trip : Trip} {s s' t t' : State} (ground : SameGround s s') (waiting : s'.pipeline.waiting = s.pipeline.waiting)
  (history : s'.pipeline.history = s.pipeline.history) (result : t'.pipeline = t.pipeline)

include ground waiting history result

theorem FinishesAndPromotes.on_slots {outcome : TripOutcome} (h : FinishesAndPromotes trip outcome s t) :
    FinishesAndPromotes trip outcome s' t' := by
  simpa only [FinishesAndPromotes, ground.isRecord, ground.isRebased, ground.meetsHold, ground.standsAtStop, waiting, history,
    result] using h

theorem FinishesBoth.on_slots {outcome : TripOutcome} {cause : Option TripCause} (h : FinishesBoth trip outcome cause s t) :
    FinishesBoth trip outcome cause s' t' := by
  simpa only [FinishesBoth, ground.isRecord, waiting, history, result] using h

theorem FinishesSettled.on_slots (h : FinishesSettled trip s t) : FinishesSettled trip s' t' := by
  obtain ⟨travels, arrives⟩ := h
  have stations_same : stations s' = stations s := by rw [stations, ground.1]; rfl
  refine ⟨fun kind => (travels kind).on_slots ground waiting history result, fun k st kind there => ?_⟩
  obtain ⟨lands, misses⟩ := arrives k st kind (stations_same ▸ there)
  exact ⟨fun stands => (lands ((ground.standsAtStop trip).mp stands)).on_slots ground waiting history result,
    fun away => (misses (mt (ground.standsAtStop trip).mpr away)).on_slots ground waiting history result⟩

end

/-! ### The rest that a movement brings (R45, R83) -/

section

variable {slots : Pipeline} {trip : Trip} {state : TripState} {watch : Option Timer} {s : State} {d : Drum} {x before : Bool}

theorem SlotHolds.noteRest (h : SlotHolds slots trip state watch s) : SlotHolds slots trip state watch (noteRest x s) :=
  h.of_same (by simp) (by simp)

/-- Every drum that a trip moves is at rest, this one newly. -/
def LastRests (d : Drum) (before movesAll : Bool) (s : State) : Prop :=
  before = false ∧ (channel d s).atRest = true ∧ ∀ y, isMovingDrum movesAll y = true → (channel y s).atRest = true

theorem takeRest_goesOn (h : SlotHolds slots trip state watch s)
    (on : state ≠ .settling ∧ state ≠ .stopping ∨ ¬LastRests d before trip.movesAll s) :
    takeRest d x before s = noteRest x s := by
  have channels := channel_of_monitored (monitored_noteRest s x)
  unfold takeRest; dsimp only
  split
  · next newly =>
    obtain ⟨settling, stopping⟩ | notLast := on
    · exact finishAtRest_other h.noteRest.active settling stopping
    · refine finishAtRest_moving h.noteRest.active fun rest => notLast ?_
      rw [channels] at newly
      obtain ⟨fresh, still⟩ := (Bool.and_eq_true _ _).mp newly
      refine ⟨by simpa using fresh, still, fun y turns => ?_⟩
      rw [← channels]
      exact (movingDrumsAtRest_iff { trip with state } _).mp rest y turns
  · rfl

theorem takeRest_last (last : LastRests d before trip.movesAll s) :
    takeRest d x before s = finishAtRest (noteRest x s) ∧ movingDrumsAtRest { trip with state } (noteRest x s) = true := by
  have channels := channel_of_monitored (monitored_noteRest s x)
  obtain ⟨fresh, still, rest⟩ := last
  constructor
  · unfold takeRest; dsimp only
    exact if_pos (by rw [channels, fresh, still]; rfl)
  · exact (movingDrumsAtRest_iff { trip with state } _).mpr fun y turns => by rw [channels]; exact rest y turns

end

/-! ### The slots behind a movement without a trip -/

theorem monitored_judgeStart (d : Drum) (delta : Int) (s : State) : monitored (judgeStart d delta s) = monitored s := by
  have entered : monitored (enterState .running s) = monitored s := monitored_of_same (by simp) (by simp)
  unfold judgeStart; (repeat' split)
  · rfl
  · exact entered
  · rfl

section

variable (M : Movement) (s : State) (f : Frame)

theorem Movement.looks_started : LooksAlike (M.tracked s) (judgeStart M.drum M.change (M.tracked s)) :=
  .of_reaches (reaches_judgeStart (Nat.le_refl 1) _ _ _) (by simp) (monitored_judgeStart _ _ _)

theorem Movement.looks_piped : LooksAlike (M.tracked s) (M.piped s) :=
  .of_reaches (M.reaches_piped s) (by simp [Movement.piped]) (monitored_pipelineMovement _ _ _)

theorem Movement.looks_result : LooksAlike (M.piped s) (M.result s f) := by
  have judged : LooksAlike (M.piped s) (M.judged s) := by
    refine .of_reaches ((M.reaches_rested s).trans (M.reaches_judged s)) (by simp [Movement.judged, Movement.rested]) ?_
    rw [M.monitored_judged, Movement.piped, monitored_pipelineMovement, M.monitored_tracked]
  obtain ⟨trackers, protection, tables, drums, -⟩ := offeredZones_keeps f (M.judged s)
  exact judged.trans ⟨by rw [Movement.result, tables], by rw [Movement.result, tables],
    by simp [Movement.result], trackers, monitored_of_same drums protection⟩

theorem Movement.lastRests_iff (movesAll : Bool) :
    LastRests M.drum (channel M.drum s).atRest movesAll (M.piped s) ↔ LastToRest M.drum movesAll s (M.result s f) := by
  simp only [LastRests, LastToRest, (M.looks_result s f).channel]

end

section

variable {M : Movement} {s : State} {f : Frame} (calm : (M.result s f).protection.state ≠ .tripped)
  {trip : Trip} {state : TripState} {watch : Option Timer}

include calm

/-- The trip goes on as the movement left it. -/
theorem Movement.goesOn (h : SlotHolds s.pipeline trip state watch (M.piped s))
    (on : state ≠ .settling ∧ state ≠ .stopping ∨ ¬LastToRest M.drum trip.movesAll s (M.result s f)) :
    (M.result s f).pipeline.active = some { trip with state } ∧ (M.result s f).guard.watch = watch := by
  obtain ⟨-, -, pipeline, -, watched⟩ := Movement.judged_calm calm
  have stays := takeRest_goesOn (x := winderAtRest s) h (on.imp_right (mt (M.lastRests_iff s f _).mp))
  obtain ⟨slots, guard⟩ := h.noteRest (x := winderAtRest s)
  rw [pipeline, watched, Movement.rested, stays, slots, guard]
  exact ⟨rfl, rfl⟩

/-- A trip in SETTLING or STOPPING finishes at rest, and the watch and the stop end. -/
theorem Movement.finishes (h : SlotHolds s.pipeline trip state watch (M.piped s)) (ends : state = .settling ∨ state = .stopping)
    (last : LastToRest M.drum trip.movesAll s (M.result s f)) :
    (M.result s f).pipeline = (finishAtRest (noteRest (winderAtRest s) (M.piped s))).pipeline
      ∧ (M.result s f).guard.watch = none ∧ (M.result s f).guard.stop = none := by
  obtain ⟨run, -, pipeline, -, watched⟩ := Movement.judged_calm calm
  obtain ⟨finished, rest⟩ := takeRest_last (state := state) (x := winderAtRest s) ((M.lastRests_iff s f _).mpr last)
  obtain ⟨noWatch, noStop⟩ := finishAtRest_ends (h.noteRest (x := winderAtRest s)).active rest ends
  obtain ⟨-, -, -, -, -, guard, -⟩ := offeredZones_keeps f (M.judged s)
  have rested : M.rested s = finishAtRest (noteRest (winderAtRest s) (M.piped s)) := finished
  have stopped : (M.judged s).guard = (M.rested s).guard := by rw [run, rampStep_none (by rw [rested]; exact noStop)]; rfl
  rw [pipeline, watched, Movement.result, guard, stopped, rested]
  exact ⟨rfl, noWatch, noStop⟩

theorem Movement.settles (h : SlotHolds s.pipeline trip .settling watch (M.piped s))
    (last : LastToRest M.drum trip.movesAll s (M.result s f)) :
    FinishesSettled trip { M.result s f with pipeline := s.pipeline } (M.result s f) := by
  obtain ⟨pipeline, -⟩ := Movement.finishes calm h (.inl rfl) last
  have noted := h.noteRest (x := winderAtRest s)
  obtain ⟨-, rest⟩ := takeRest_last (state := .settling) (x := winderAtRest s) ((M.lastRests_iff s f _).mpr last)
  have finished : FinishesSettled trip (noteRest (winderAtRest s) (M.piped s)) (finishAtRest (noteRest (winderAtRest s) (M.piped s))) :=
    finishAtRest_settled (trip := { trip with state := .settling }) noted.active rest rfl
  have ground : SameGround (noteRest (winderAtRest s) (M.piped s)) { M.result s f with pipeline := s.pipeline } :=
    (noteRest_ground _ _).symm.trans (M.looks_result s f).ground
  exact finished.on_slots ground (by rw [noted.1]) (by rw [noted.1]) pipeline

theorem Movement.aborts (h : SlotHolds s.pipeline trip .stopping watch (M.piped s))
    (last : LastToRest M.drum trip.movesAll s (M.result s f)) :
    FinishesBoth trip .aborted trip.cause { M.result s f with pipeline := s.pipeline } (M.result s f) := by
  obtain ⟨pipeline, -⟩ := Movement.finishes calm h (.inr rfl) last
  have noted := h.noteRest (x := winderAtRest s)
  obtain ⟨-, rest⟩ := takeRest_last (state := .stopping) (x := winderAtRest s) ((M.lastRests_iff s f _).mpr last)
  have finished : FinishesBoth trip .aborted trip.cause (noteRest (winderAtRest s) (M.piped s))
      (finishAtRest (noteRest (winderAtRest s) (M.piped s))) := by
    rw [finishAtRest_stopping noted.active rest rfl]
    exact finishBoth_finishes { trip with state := .stopping } _ _ _ noted.active
  have ground : SameGround (noteRest (winderAtRest s) (M.piped s)) { M.result s f with pipeline := s.pipeline } :=
    (noteRest_ground _ _).symm.trans (M.looks_result s f).ground
  exact finished.on_slots ground (by rw [noted.1]) (by rw [noted.1]) pipeline

/-- A drift that a start cleared stays 0. -/
theorem Movement.drift_zero (cleared : (M.piped s).drums.drift = 0) : (M.result s f).drums.drift = 0 := by
  obtain ⟨-, drums, -⟩ := Movement.judged_calm calm
  rw [drums, Movement.rested, takeRest_drums, noteRest_drift, cleared, ite_self]

end

end Sys2Proof.Machine

/-! PROOF. The active trip after a movement, state by state (chapter 5). -/

namespace Sys2Proof.Machine

/-- The tracked state with the start and the creep band judged. -/
def Movement.crept (M : Movement) (s : State) : State := judgeCreeping (judgeStart M.drum M.change (M.tracked s))

theorem Movement.piped_eq (M : Movement) (s : State) : M.piped s = judgeSettling M.drum (M.crept s) := rfl

theorem Movement.looks_crept (M : Movement) (s : State) : LooksAlike (M.tracked s) (M.crept s) :=
  have creeps (u : State) : LooksAlike u (judgeCreeping u) :=
    .of_reaches (reaches_judgeCreeping (Nat.le_refl 1) u) (by simp) (monitored_of_same (by simp) (by simp))
  (M.looks_started s).trans (creeps _)

section

variable {M : Movement} {s : State} {f : Frame} (calm : (M.result s f).protection.state ≠ .tripped) {trip : Trip} {T : TimingRow}
  (timing : timingRow s = some T)

theorem Movement.looks_before (M : Movement) (s : State) : timingRow (M.tracked s) = timingRow s
    ∧ ∀ r, regimeRow r (M.tracked s) = regimeRow r s := by
  have before := (M.reaches_before s).leftAlone (Nat.le_refl 1)
  have tracked := (M.reaches_tracked s).leftAlone (Nat.zero_le 1)
  have profile : (M.tracked s).tables.profile.active = s.tables.profile.active := congrArg (·.2.2.1) (tracked.trans before)
  exact ⟨by rw [timingRow, profile]; rfl, fun r => by rw [regimeRow, profile]; rfl⟩

theorem Movement.looks_end (M : Movement) (s : State) (f : Frame) : LooksAlike (M.tracked s) (M.result s f) :=
  (M.looks_piped s).trans (M.looks_result s f)

theorem Movement.crept_slows (M : Movement) (f : Frame) (trip : Trip) :
    Slows M.drum trip T (M.crept s) ↔ Slows M.drum trip T (M.result s f) := by
  simp only [Slows, (M.looks_crept s).channel, (M.looks_end s f).channel]

include calm in
theorem Movement.slots_tracked (active : s.pipeline.active = some trip) :
    SlotHolds s.pipeline trip trip.state s.guard.watch (M.tracked s) := by
  obtain ⟨pipeline, guard, -⟩ := Movement.tracked_calm (Movement.tracked_untripped calm)
  refine ⟨?_, by rw [guard]⟩
  rw [pipeline, show ({ trip with state := trip.state } : Trip) = trip from rfl, ← active]

include timing

theorem Movement.crept_timing (M : Movement) : timingRow (M.crept s) = some T := by
  rw [(M.looks_crept s).timingRow, (M.looks_before s).1, timing]

include calm

/-- A trip that moves settles, and may finish at once, where the movement leaves its drums slow; otherwise it goes on. -/
theorem Movement.moving_follows {state : TripState} {watch : Option Timer} (h : SlotHolds s.pipeline trip state watch (M.crept s))
    (moves : state = .running ∨ state = .creeping) :
    (Slows M.drum trip T (M.result s f) →
        ((LastToRest M.drum trip.movesAll s (M.result s f) →
            FinishesSettled trip { M.result s f with pipeline := s.pipeline } (M.result s f) ∧ (M.result s f).guard.stop = none)
          ∧ (¬LastToRest M.drum trip.movesAll s (M.result s f) →
            (M.result s f).pipeline.active = some { trip with state := .settling }))
        ∧ (M.result s f).guard.watch = none)
      ∧ (¬Slows M.drum trip T (M.result s f) →
        (M.result s f).pipeline.active = some { trip with state } ∧ (M.result s f).guard.watch = watch) := by
  have timing' := M.crept_timing timing
  refine ⟨fun slows => ?settles, fun fast => ?goesOn⟩
  case settles =>
    have settled := judgeSettling_settles h timing' moves ((M.crept_slows f trip).mpr slows)
    rw [← M.piped_eq] at settled
    by_cases last : LastToRest M.drum trip.movesAll s (M.result s f)
    · obtain ⟨-, noWatch, noStop⟩ := Movement.finishes calm settled (.inl rfl) last
      exact ⟨⟨fun _ => ⟨Movement.settles calm settled last, noStop⟩, fun not => absurd last not⟩, noWatch⟩
    · obtain ⟨active, watched⟩ := Movement.goesOn calm settled (.inr last)
      exact ⟨⟨fun is => absurd is last, fun _ => active⟩, watched⟩
  case goesOn =>
    have same := judgeSettling_moves h timing' moves (mt (M.crept_slows f trip).mp fast)
    rw [← M.piped_eq] at same
    refine Movement.goesOn calm (same ▸ h) (.inl ?_)
    obtain rfl | rfl := moves <;> exact ⟨by decide, by decide⟩

end

/-- The active trip after a movement that took no trip (R80 to R83). -/
theorem Movement.tripFollows (M : Movement) (s : State) (f : Frame) : TripFollows M.drum M.change s (M.result s f) := by
  intro trip R T active regime timing calm
  have look := M.looks_end s f
  obtain ⟨timing_same, regime_same⟩ := M.looks_before s
  have timing' : timingRow (M.tracked s) = some T := timing_same.trans timing
  have regime' : regimeRow trip.regime (M.tracked s) = some R := (regime_same _).trans regime
  have slots := Movement.slots_tracked calm active
  have speed : (channel M.drum (M.tracked s)).speed = (channel M.drum (M.result s f)).speed := by rw [look.channel]
  have unstarted (state : trip.state ≠ .waiting) : judgeStart M.drum M.change (M.tracked s) = M.tracked s :=
    judgeStart_waits slots timing' fun starts => state starts.1
  have uncrept (waits : judgeStart M.drum M.change (M.tracked s) = M.tracked s) (state : trip.state ≠ .running) :
      M.crept s = M.tracked s := by rw [Movement.crept, waits, judgeCreeping_other slots state]
  refine ⟨fun waiting => ⟨fun starts => ?starts, fun waits => ?waits⟩, fun running => ?running, fun creeping => ?creeping,
    fun settling => ⟨fun ⟨turns, fast⟩ => ?back, fun stays => ?stays⟩, fun stopping => ?stopping⟩
  case starts =>
    rw [waiting] at slots
    obtain ⟨lead, along, fast⟩ := starts
    obtain ⟨started, cleared⟩ := judgeStart_starts slots timing' ⟨lead, along, by rw [speed]; exact fast⟩
    have crept := judgeCreeping_running started (((M.looks_started s).regimeRow _).trans regime')
    rw [(M.looks_started s).distanceToTarget, ← look.distanceToTarget] at crept
    have moves : ¬Slows M.drum trip T (M.result s f) := fun ⟨turns, slow⟩ => absurd (slow _ turns) (Nat.not_le.mpr fast)
    obtain ⟨-, goesOn⟩ := Movement.moving_follows calm timing crept (by split <;> simp)
    obtain ⟨becomes, restarted⟩ := goesOn moves
    refine ⟨becomes, Movement.drift_zero calm ?_, restarted⟩
    rw [M.piped_eq, Movement.crept]
    simpa using cleared
  case waits =>
    have unstarted' : judgeStart M.drum M.change (M.tracked s) = M.tracked s :=
      judgeStart_waits slots timing' fun ⟨_, lead, along, fast⟩ => waits ⟨lead, along, by rw [← speed]; exact fast⟩
    have same : M.piped s = M.tracked s := by
      rw [M.piped_eq, uncrept unstarted' (by rw [waiting]; decide)]
      exact judgeSettling_stays slots timing' (by rw [waiting]; decide) (by rw [waiting]; decide) (by rw [waiting]; simp)
    rw [waiting] at slots
    exact (Movement.goesOn calm (same ▸ slots) (.inl ⟨by decide, by decide⟩)).1
  case running =>
    have crept := judgeCreeping_running (running ▸ slots) regime'
    rw [← look.distanceToTarget, ← unstarted (by rw [running]; decide)] at crept
    exact Movement.moving_follows calm timing crept (by split <;> simp)
  case creeping =>
    have crept : SlotHolds s.pipeline trip .creeping s.guard.watch (M.crept s) := by
      rw [uncrept (unstarted (by rw [creeping]; decide)) (by rw [creeping]; decide), ← creeping]
      exact slots
    exact Movement.moving_follows calm timing crept (.inr rfl)
  case back =>
    rw [settling] at slots
    have crept := judgeSettling_creeps slots timing' turns (by rw [speed]; exact fast)
    rw [← uncrept (unstarted (by rw [settling]; decide)) (by rw [settling]; decide), ← M.piped_eq] at crept
    exact Movement.goesOn calm crept (.inl ⟨by decide, by decide⟩)
  case stays =>
    have same : M.piped s = M.tracked s := by
      rw [M.piped_eq, uncrept (unstarted (by rw [settling]; decide)) (by rw [settling]; decide)]
      exact judgeSettling_stays slots timing' (by rw [settling]; decide) (by rw [settling]; decide)
        fun ⟨_, turns, fast⟩ => stays ⟨turns, by rw [← speed]; exact fast⟩
    rw [settling, ← same] at slots
    by_cases last : LastToRest M.drum trip.movesAll s (M.result s f)
    · obtain ⟨-, noWatch, noStop⟩ := Movement.finishes calm slots (.inl rfl) last
      exact ⟨⟨fun _ => ⟨Movement.settles calm slots last, noStop⟩, fun not => absurd last not⟩, fun _ => noWatch⟩
    · obtain ⟨becomes, -⟩ := Movement.goesOn calm slots (.inr last)
      exact ⟨⟨fun is => absurd is last, fun _ => becomes⟩, fun is => absurd is last⟩
  case stopping =>
    have same : M.piped s = M.tracked s := by
      rw [M.piped_eq, uncrept (unstarted (by rw [stopping]; decide)) (by rw [stopping]; decide)]
      exact judgeSettling_stays slots timing' (by rw [stopping]; decide) (by rw [stopping]; decide) (by rw [stopping]; simp)
    rw [stopping, ← same] at slots
    refine ⟨fun last => ?_, fun notLast => (Movement.goesOn calm slots (.inr notLast)).1⟩
    obtain ⟨-, noWatch, noStop⟩ := Movement.finishes calm slots (.inr rfl) last
    exact ⟨Movement.aborts calm slots last, noWatch, noStop⟩

end Sys2Proof.Machine

/-! PROOF. The causes that a movement can bring (chapters 3, 4 and 6). -/

namespace Sys2Proof.Machine

/-- Between two states a trip stands, and one taken is by a cause of the movement itself: of the accumulators, of the
trackers or OVERSPEED. -/
def TripsByMovement (s t : State) : Prop :=
  KeepsTrip s t ∧ (TakesCauses s → TakesCauses t ∨ t.protection.state = .tripped
    ∧ ∃ c ∈ [Cause.unplanned, .disagree, .creep, .position, .overwind, .slack, .overspeed], t.protection.firstCause = some c)

theorem TripsByMovement.trans {s t u : State} (first : TripsByMovement s t) (second : TripsByMovement t u) : TripsByMovement s u := by
  obtain ⟨keeps, trips⟩ := first
  obtain ⟨keeps', trips'⟩ := second
  refine ⟨keeps.trans keeps', fun takes => ?_⟩
  obtain takes' | ⟨tripped, c, listed, cause⟩ := trips takes
  · exact trips' takes'
  · obtain ⟨stays, same, -⟩ := keeps'.2 tripped
    exact .inr ⟨stays, c, listed, same.trans cause⟩

theorem TripsByMovement.of_same {s t : State} (same : t.protection = s.protection) : TripsByMovement s t :=
  ⟨.of_same same, fun takes => .inl (by rw [TakesCauses, same]; exact takes)⟩

theorem tripsByMovement_reportIf {c : Cause} (condition : Bool) (s : State)
    (listed : c ∈ [Cause.unplanned, .disagree, .creep, .position, .overwind, .slack, .overspeed]) :
    TripsByMovement s (reportIf condition c s) := by
  cases condition with
  | false => exact .of_same rfl
  | true =>
    refine ⟨keepsTrip_reportCause c s, fun takes => .inr ?_⟩
    obtain ⟨tripped, first, -⟩ := reportCause_first (c := c) takes
    exact ⟨tripped, c, listed, first⟩

theorem tripsByMovement_judgeDisagreement (d : Drum) (delta : Int) (s : State) : TripsByMovement s (judgeDisagreement d delta s) :=
  (TripsByMovement.of_same (addDisagreement_frame d delta s).1).trans (tripsByMovement_reportIf _ _ (by simp))

theorem tripsByMovement_judgeHold (d : Drum) (delta : Int) (s : State) : TripsByMovement s (judgeHold d delta s) :=
  (TripsByMovement.of_same (addHold_frame d delta s).1).trans (tripsByMovement_reportIf _ _ (by simp))

theorem tripsByMovement_judgeDrift (delta : Int) (s : State) : TripsByMovement s (judgeDrift delta s) := by
  unfold judgeDrift; split
  · exact (TripsByMovement.of_same (t := { s with drums.drift := s.drums.drift + delta.natAbs }) rfl).trans
      (tripsByMovement_reportIf _ _ (by simp))
  · exact .of_same rfl

theorem tripsByMovement_accumulate (d : Drum) (relock : Bool) (delta : Int) (s : State) :
    TripsByMovement s (accumulate d relock delta s) := by
  have relocked : TripsByMovement s (judgeRelock relock delta s) := tripsByMovement_reportIf _ _ (by simp)
  exact (relocked.trans (tripsByMovement_judgeDisagreement d delta _)).trans
    ((tripsByMovement_judgeHold d delta _).trans (tripsByMovement_judgeDrift delta _))

theorem tripsByMovement_takeMiss (c : Conveyance) (i : Nat) (s : State) : TripsByMovement s (takeMiss c i s) := by
  have suspected (b : Bool) (u : State) : TripsByMovement u (if b then setFlag .suspect u else u) := by
    split
    · exact .of_same (by simp)
    · exact .of_same rfl
  have flagged (u : State) : TripsByMovement u (if (tracker c u).missFlag then reportCause .position u
      else setTracker c { tracker c u with missFlag := true } u) := by
    split
    · exact tripsByMovement_reportIf true u (by simp)
    · exact .of_same (by simp)
  have counted (u : State) : TripsByMovement u (setFlag .miss (count .misses u)) := .of_same (by simp)
  exact ((TripsByMovement.of_same (by simp)).trans (suspected _ _)).trans ((counted _).trans (flagged _))

theorem tripsByMovement_missCheck (c : Conveyance) (n : Nat) (s : State) : TripsByMovement s (missCheck c n s) := by
  have advanced (depth : Int) (u : State) : TripsByMovement u (advanceBeyond c depth u) := .of_same rfl
  induction n generalizing s with
  | zero => exact .of_same rfl
  | succ n ih =>
    unfold missCheck; split
    · exact .of_same rfl
    · exact ((tripsByMovement_takeMiss c _ s).trans (advanced _ _)).trans (ih _)

theorem tripsByMovement_followOn (c : Conveyance) (before : Int) (s : State) : TripsByMovement s (followOn c before s) := by
  have checked : TripsByMovement s (depthChecks c s) := by
    unfold depthChecks; split
    · exact (tripsByMovement_missCheck c _ s).trans (tripsByMovement_reportIf _ _ (by simp))
    · exact .of_same rfl
  unfold followOn; split
  · exact tripsByMovement_reportIf _ _ (by simp)
  · exact checked.trans (tripsByMovement_reportIf _ _ (by simp))

theorem tripsByMovement_trackMovement (c : Conveyance) (s : State) : TripsByMovement s (trackMovement c s) :=
  (TripsByMovement.of_same (t := redirected c s) (by simp [redirected])).trans (tripsByMovement_followOn c _ _)

theorem tripsByMovement_trackDrum (d : Drum) (s : State) : TripsByMovement s (trackDrum d s) := by
  cases d with
  | skip => exact tripsByMovement_trackMovement .skip s
  | cage => exact (tripsByMovement_trackMovement .cage s).trans (tripsByMovement_trackMovement .counterweight _)

theorem tripsByMovement_judgeOverspeed (d : Drum) (s : State) : TripsByMovement s (judgeOverspeed d s) := by
  unfold judgeOverspeed; split
  · exact (tripsByMovement_reportIf true s (by simp)).trans (.of_same rfl)
  · exact .of_same rfl

/-- Up to the ramp a movement trips by its own causes alone. -/
theorem Movement.tripsByMovement (M : Movement) (s : State) :
    TripsByMovement s (judgeOverspeed M.drum (recomputeSpeed (M.rested s))) := by
  have noted : TripsByMovement s (M.noted s) := .of_same (M.noted_keeps s).1
  have added : TripsByMovement (M.noted s) (M.added s) := tripsByMovement_accumulate _ _ _ _
  have tracked : TripsByMovement (M.added s) (M.tracked s) := tripsByMovement_trackDrum _ _
  have rested : TripsByMovement (M.tracked s) (recomputeSpeed (M.rested s)) :=
    .of_same (by simp [Movement.rested, Movement.piped])
  exact ((noted.trans added).trans (tracked.trans rested)).trans (tripsByMovement_judgeOverspeed _ _)

end Sys2Proof.Machine

/-! PROOF. The ramp of a controlled stop after a movement (chapter 7). -/

namespace Sys2Proof.Machine

section

variable {M : Movement} {s : State} {f : Frame} {trip : Trip} {R : RegimeRow} {stop : StopRecord}
  (active : s.pipeline.active = some trip) (stopping : trip.state = .stopping) (lead : M.drum = trip.lead.drum)
  (regime : regimeRow trip.regime s = some R) (stops : s.guard.stop = some stop)
  (notLast : ¬LastToRest M.drum trip.movesAll s (M.result s f)) (untripped : (M.rested s).protection.state ≠ .tripped)

include active stopping in
/-- A movement leaves a trip in STOPPING (R82). -/
theorem pipelineMovement_stopping (d : Drum) (delta : Int) : pipelineMovement d delta s = s := by
  have start : judgeStart d delta s = s := by simp [judgeStart, active, stopping]
  have creep : judgeCreeping s = s := by simp [judgeCreeping, active, stopping]
  rw [pipelineMovement, start, creep]
  simp only [judgeSettling, active, stopping, ite_self]

include active stopping notLast untripped

/-- A controlled stop goes on through a movement: all before the ramp leaves it its slots, its guard and its row. -/
theorem Movement.rested_stopping :
    (M.rested s).pipeline = s.pipeline ∧ (M.rested s).guard = s.guard ∧ (M.rested s).protection = s.protection
      ∧ regimeRow trip.regime (M.rested s) = regimeRow trip.regime s := by
  have tracked : (M.tracked s).protection.state ≠ .tripped :=
    (((M.reaches_piped s).trans (M.reaches_rested s)).keepsTrip (Nat.le_refl 1)).calm untripped
  obtain ⟨pipeline, guard, protection, -⟩ := Movement.tracked_calm tracked
  have active' : (M.tracked s).pipeline.active = some trip := by rw [pipeline, active]
  have piped : M.piped s = M.tracked s := pipelineMovement_stopping active' stopping _ _
  have slots : SlotHolds (M.tracked s).pipeline trip trip.state (M.tracked s).guard.watch (M.piped s) := by
    rw [piped]
    refine ⟨?_, rfl⟩
    rw [show ({ trip with state := trip.state } : Trip) = trip from rfl, ← active']
  have rested : M.rested s = noteRest (winderAtRest s) (M.tracked s) := by
    rw [← piped]
    exact takeRest_goesOn slots (.inr (mt (M.lastRests_iff s f _).mp notLast))
  rw [rested]
  refine ⟨?_, ?_, ?_, ?_⟩
  · rw [← pipeline]; simp
  · rw [← guard]; simp
  · rw [← protection]; simp
  · rw [← (M.looks_before s).2]; simp [regimeRow]

include lead regime stops

/-- The ramp steps in a controlled stop that goes on (R122, R123). -/
theorem Movement.ramp_steps :
    let u := recomputeSpeed (M.rested s)
    let stepped := stop.stepped R M.dt (channel M.drum (M.result s f)).speed
    rampStep M.drum M.dt u = if stepped.overRun = 3 then recomputeSpeed (reportCause .stopFail { u with guard.stop := some stepped })
      else coalesce { frame := substituteFrame stepped u, source := some .substitute } { u with guard.stop := some stepped } := by
  obtain ⟨pipeline, guard, -, row⟩ := Movement.rested_stopping active stopping notLast untripped
  have channels : channel M.drum (recomputeSpeed (M.rested s)) = channel M.drum (M.result s f) :=
    (channel_of_monitored (monitored_recomputeSpeed _) _).trans
      (channel_of_monitored ((M.monitored_rested s).trans (M.monitored_result s f).symm) _)
  have runs : (recomputeSpeed (M.rested s)).guard.stop = some stop := by simpa [guard] using stops
  have active' : (recomputeSpeed (M.rested s)).pipeline.active = some trip := by simpa [pipeline] using active
  have row' : regimeRow trip.regime (recomputeSpeed (M.rested s)) = some R := row.trans regime
  dsimp only
  rw [rampStep_steps runs active' row' lead, channels]

end

/-- A controlled stop's ramp after a movement of its lead's drum (R122, R123). -/
theorem Movement.rampFollows (M : Movement) (s : State) (f : Frame) : RampFollows M.drum M.dt s (M.result s f) := by
  intro trip R stop active stopping lead regime stops notLast value run magnitude substitute
  have stepped_is : stop.stepped R M.dt (channel M.drum (M.result s f)).speed
      = { stop with rampValue := value, rampSpeed := value / 1000000, overRun := run } := rfl
  obtain ⟨-, protection_kept, -, -, -, guard_kept, envelope_kept, -⟩ := offeredZones_keeps f (M.judged s)
  refine ⟨fun calm => ?calm, fun third takes => ?third⟩
  case calm =>
    obtain ⟨judged, -⟩ := Movement.judged_calm calm
    have untripped : (M.rested s).protection.state ≠ .tripped :=
      ((M.reaches_judged s).keepsTrip (Nat.le_refl 1)).calm (Movement.judged_untripped calm)
    have steps := Movement.ramp_steps active stopping lead regime stops notLast untripped
    obtain ⟨-, guard, -⟩ := Movement.rested_stopping active stopping notLast untripped
    dsimp only at steps
    rw [stepped_is] at steps
    rw [← judged] at steps
    by_cases third : run = 3
    · rw [if_pos third] at steps
      have stays := Movement.judged_untripped calm
      rw [steps] at stays
      have unreported := reportCause_calm (c := .stopFail) (s := { recomputeSpeed (M.rested s) with
        guard.stop := some { stop with rampValue := value, rampSpeed := value / 1000000, overRun := run } }) stays
      rw [unreported] at steps
      refine ⟨?_, fun early => absurd third (by omega)⟩
      rw [Movement.result, guard_kept, steps]
      rfl
    · rw [if_neg third] at steps
      have permitted : (M.result s f).envelope.permitted = (recomputeSpeed (M.rested s)).envelope.permitted := by
        rw [Movement.result, envelope_kept, steps]
        simp
      have frame : substituteFrame { stop with rampValue := value, rampSpeed := value / 1000000, overRun := run }
          (recomputeSpeed (M.rested s)) = substitute := by
        have same : (recomputeSpeed (M.rested s)).guard = s.guard := by simpa using guard
        simp only [substituteFrame, same, ← permitted]
        rfl
      rw [frame] at steps
      rw [Movement.result, guard_kept, steps]
      refine ⟨(coalesce_timers _ _).2, fun _ => ?_⟩
      rw [coalesce_guard, coalesce_guard]
      simp [guard]
  case third =>
    obtain ⟨-, trips⟩ := M.tripsByMovement s
    have behind : KeepsTrip (judgeOverspeed M.drum (recomputeSpeed (M.rested s))) (M.result s f) :=
      (keepsTrip_rampStep M.drum M.dt _).trans (.of_same protection_kept)
    obtain takes' | ⟨tripped, c, listed, cause⟩ := trips takes
    · have unexceeded : (judgeOverspeed M.drum (recomputeSpeed (M.rested s))).protection.state ≠ .tripped := by
        obtain state | state := takes' <;> rw [state] <;> decide
      have same := judgeOverspeed_calm unexceeded
      rw [same] at takes'
      have untripped : (M.rested s).protection.state ≠ .tripped := by rw [same] at unexceeded; exact unexceeded
      have steps := Movement.ramp_steps active stopping lead regime stops notLast untripped
      dsimp only at steps
      rw [stepped_is, if_pos third] at steps
      have judged : M.judged s = _ := (congrArg (rampStep M.drum M.dt) same).trans steps
      obtain ⟨tripped, first, -⟩ := reportCause_first (c := .stopFail) (s := { recomputeSpeed (M.rested s) with
        guard.stop := some { stop with rampValue := value, rampSpeed := value / 1000000, overRun := run } }) takes'
      rw [Movement.result, protection_kept, judged]
      exact ⟨tripped, .inl first⟩
    · obtain ⟨stays, first, -⟩ := behind.2 tripped
      exact ⟨stays, .inr ⟨c, listed, first.trans cause⟩⟩

end Sys2Proof.Machine

/-! PROOF. What a movement leaves of the thresholds and of an open commitment, and O21 (chapters 2, 3 and 6). -/

namespace Sys2Proof.Machine

/-! ### The threshold of the drum that moved (R106) -/

/-- A speed judged without a trip is not above its threshold: in NO-TABLES there is none. -/
theorem not_overspeeds_of_calm {d : Drum} {s : State} (calm : (judgeOverspeed d (recomputeSpeed s)).protection.state ≠ .tripped) :
    overspeeds d (recomputeSpeed s) = false := by
  by_contra exceeds
  have exceeds' : overspeeds d (recomputeSpeed s) = true := by simpa using exceeds
  rw [judgeOverspeed, if_pos exceeds'] at calm
  by_cases tables : s.protection.state = .noTables
  · have empty : (recomputeSpeed s).envelope = noEnvelope := computeEnvelope_none (.inl tables)
    obtain ⟨c, limit, -, threshold, -⟩ := (overspeeds_iff d _).mp exceeds'
    rw [empty] at threshold
    cases c <;> cases threshold
  · exact calm (reports_reportCause .overspeed (recomputeSpeed s) tables).1

/-- A ramp step without a trip leaves the envelope as it was computed. -/
theorem rampStep_envelope_calm {d : Drum} {dt : Nat} {s : State}
    (calm : (rampStep d dt (recomputeSpeed s)).protection.state ≠ .tripped) :
    (rampStep d dt (recomputeSpeed s)).envelope = (recomputeSpeed s).envelope := by
  obtain same | ⟨stop, trip, R, runs, active, row, lead⟩ := rampStep_cases d dt (recomputeSpeed s)
  · rw [same]
  · rw [rampStep_steps runs active row lead] at calm ⊢
    split at calm
    · next third =>
      rw [if_pos third, reportCause_calm (c := .stopFail) calm]
      rfl
    · next early =>
      rw [if_neg early]
      simp

theorem Movement.within_threshold {M : Movement} {s : State} {f : Frame} (calm : (M.result s f).protection.state ≠ .tripped)
    {c : Conveyance} {limit : Nat} (own : drumOf c = M.drum) (threshold : (M.result s f).envelope.thresholds.get c = some limit) :
    (channel M.drum (M.result s f)).speed ≤ limit := by
  have judged := Movement.judged_untripped calm
  obtain ⟨run, -⟩ := Movement.judged_calm calm
  have unexceeded : (judgeOverspeed M.drum (recomputeSpeed (M.rested s))).protection.state ≠ .tripped :=
    (keepsTrip_rampStep M.drum M.dt _).calm judged
  obtain ⟨-, -, -, -, -, -, envelope, -⟩ := offeredZones_keeps f (M.judged s)
  have envelope_is : (M.result s f).envelope = (recomputeSpeed (M.rested s)).envelope := by
    rw [Movement.result, envelope, run]
    exact rampStep_envelope_calm (run ▸ judged)
  have channels : channel M.drum (M.result s f) = channel M.drum (recomputeSpeed (M.rested s)) :=
    (channel_of_monitored ((M.monitored_result s f).trans (M.monitored_rested s).symm) _).trans
      (channel_of_monitored (monitored_recomputeSpeed _) _).symm
  rw [channels]
  refine Nat.not_lt.mp fun over_limit => ?_
  have exceeds : overspeeds M.drum (recomputeSpeed (M.rested s)) = true :=
    (overspeeds_iff _ _).mpr ⟨c, limit, own, envelope_is ▸ threshold, over_limit⟩
  rw [not_overspeeds_of_calm unexceeded] at exceeds
  cases exceeds

/-! ### A commitment that is closed (R28, R29) -/

/-- Where no commitment is open none is opened, and the result stands. -/
def KeepsClosed (s t : State) : Prop :=
  commitmentOpen s = false → commitmentOpen t = false ∧ t.tables.result = s.tables.result

theorem KeepsClosed.of_tables {s t : State} (tables : t.tables = s.tables) : KeepsClosed s t :=
  fun closed => ⟨(commitmentOpen_congr tables).trans closed, by rw [tables]⟩

theorem KeepsClosed.trans {s t u : State} (first : KeepsClosed s t) (second : KeepsClosed t u) : KeepsClosed s u := fun closed => by
  obtain ⟨closed', result⟩ := first closed
  obtain ⟨closed'', result'⟩ := second closed'
  exact ⟨closed'', result'.trans result⟩

theorem Reaches.keepsClosed {k : Nat} {s t : State} (h : Reaches k s t) (low : k ≤ 1) : KeepsClosed s t := by
  induction h with
  | trans _ _ first second => exact first.trans second
  | reportCause c s => exact fun closed => KeepsClosed.of_tables (reportCause_tables_of_closed c closed) closed
  | abandon reason s => exact fun closed => KeepsClosed.of_tables (by rw [abandon_closed closed]) closed
  | setRecord i r s => exact fun closed => ⟨closed, rfl⟩
  | completePlan c _ _ _ _ _ _ before => exact before.trans (.of_tables (by simp))
  | replaceImage new s => exact .of_tables (by unfold accumulatorsOn; (repeat' split) <;> rfl)
  | refl | clearDrift | addDrift | addDisagreement | addHold | driveSilent | stopWatch | stepRamp | chooseFreely
    | recomputeSpeed | hearDrive => exact .of_tables rfl
  | count | setFlag | setTracker | setChannel | start | creep | settle | enterStopping | finishBoth | promote | armIfDatumed
    | coalesce => exact .of_tables (by simp)
  | _ => omega

/-- A movement that is not zero abandons the commitment that stood open (R29). -/
theorem Movement.abandons {M : Movement} {s : State} (f : Frame) (moves : M.change ≠ 0) (state : s.protection.state ≠ .noTables)
    (opened : commitmentOpen s = true) : (M.result s f).tables.result = .abandoned (openSet s) .motion := by
  have tables : (M.begun s).tables = s.tables := by simp [Movement.begun]
  have noted : M.noted s = abandonByMotion (M.begun s) := if_neg moves
  have abandoned : Abandoned .motion s (M.noted s) := by
    rw [noted]
    exact (abandonByMotion_abandons (by simpa [Movement.begun] using state) ((commitmentOpen_congr tables).trans opened)).of_tables tables
  have later : KeepsClosed (M.noted s) (M.judged s) :=
    (((M.reaches_added s).keepsClosed (Nat.le_refl 1)).trans ((M.reaches_tracked s).keepsClosed (Nat.zero_le 1))).trans
      ((M.reaches_behind s).keepsClosed (Nat.le_refl 1))
  obtain ⟨-, -, kept, -⟩ := offeredZones_keeps f (M.judged s)
  rw [Movement.result, kept, (later abandoned.closed).2, abandoned.1]

/-! ### The movement of a good sample -/

/-- A relock of zero change moves no tracker and raises no cause (R41). -/
theorem Movement.idle_keeps (M : Movement) (s : State) :
    (M.idle s).trackers = s.trackers ∧ (M.idle s).protection = s.protection := by
  simp [Movement.idle, Movement.begun]

/-- Settles O21: the sample is a movement, followed stage by stage through the accumulators, the trackers, the pipeline and the
ramp. -/
theorem movementReachesThePayout : Obligations.MovementReachesThePayout := by
  intro s d origin target n stamp r L b ref ready row layers based counted lock dt own position change early late
  have takes := forwards_drumSample d origin target (b.seq + 1) n stamp ready
  rw [observeSample_moves row layers based counted lock early late] at takes
  generalize movement : Movement.mk d (decide ((channel d s).lock = .locking 3)) _ _ _ = M at takes
  generalize makeFrame 0x20 origin target (sampleBody (drumCode d) (b.seq + 1) n stamp) = f at takes
  have drum : M.drum = d := by rw [← movement]
  have changed : M.change = change := by rw [← movement]
  have time : M.dt = dt := by rw [← movement]
  have relock : M.relock = decide ((channel d s).lock = .locking 3) := by rw [← movement]
  have after : M.after = ((channel d s).moved L n own dt (some { seq := b.seq + 1, stamp })
      (some { lengthMs := r.sampleWatch, runUs := 0 })).restOn (timingRow s) := by rw [← movement]
  have ends : channel d (offerUp .field f (M.run s)) = _ :=
    (channel_of_monitored (monitored_offerUp _ _ _) d).trans ((drum ▸ M.channel_run s).trans after)
  obtain ⟨payout, applied, at_position, speed, sense⟩ := restOn_keeps ((channel d s).moved L n own dt
    (some { seq := b.seq + 1, stamp }) (some { lengthMs := r.sampleWatch, runUs := 0 })) (timingRow s)
  have active (moves : (channel d s).lock = .locked ∨ change ≠ 0) : offerUp .field f (M.run s) = M.result s f := by
    have applies : appliesNothing M.relock M.change = false := by
      rw [relock, changed, appliesNothing]
      obtain locked | moves := moves
      · simp [locked]
      · simp [moves]
    rw [Movement.run, applies]
    rfl
  refine ⟨_, takes, by rw [ends, payout]; rfl, by rw [ends, applied]; rfl, by rw [ends, at_position]; rfl,
    by rw [ends, speed]; rfl, ?sense, restFollows_of_restOn (ch := (channel d s).moved L n own dt _ _) rfl rfl ends,
    fun relocks still => ?idle, fun moves => ?moves,
    fun moves tables opened => ?abandons⟩
  case sense =>
    rw [ends, sense, Channel.moved, senseAfter]
    have up : (0 < position - (channel d s).applied) ↔ (channel d s).applied < position := by omega
    have down : (position - (channel d s).applied < 0) ↔ position < (channel d s).applied := by omega
    simp only [← up, ← down]
    rfl
  case idle =>
    have applies : appliesNothing M.relock M.change = true := by rw [relock, changed, appliesNothing, relocks, still]; rfl
    obtain ⟨trackers, protection⟩ := M.idle_keeps s
    rw [Movement.run, if_pos applies]
    exact ⟨by simpa using trackers, by simpa using protection⟩
  case moves =>
    rw [active moves, ← drum, ← changed, ← time]
    refine ⟨M.trackersFollow s f, Movement.accumulatorsTake row (fun relocks => ?_) f, M.tripFollows s f, M.rampFollows s f,
      fun calm c limit own threshold => Movement.within_threshold calm own threshold⟩
    rw [relock, ← drum, relocks]
    rfl
  case abandons =>
    rw [active (.inr moves)]
    exact Movement.abandons f (changed ▸ moves) tables opened

end Sys2Proof.Machine
